-- ==== Sys2Proof/Word.lean ====
section
/-! DEFINITION. The bytes, tags and links of the KB-212, and the records a command carries as operands. -/

namespace Sys2Proof

/-- One byte of a frame, a record or a sector (12_frame_and_record_formats.md R180). -/
abbrev Byte := BitVec 8

/-- The identifier a controller gives a request: the two-byte tag field of a frame (R180). -/
abbrev Tag := BitVec 16

/-- The user data of one sector, byte 0 first (00_scope.md: 4,096 bytes). -/
abbrev Sector := List Byte

/-- The two host links (09_host_links.md). -/
inductive Link where
  | a
  | b
deriving DecidableEq, Repr

/-- The link at the other end of a pair (R152, R153). -/
def Link.other : Link → Link
  | .a => .b
  | .b => .a

/-- The byte that names a link in a frame: 0 A, 1 B (R180). -/
def Link.code : Link → Nat
  | .a => 0
  | .b => 1

/-- One interval of the Interval Table (R48). -/
structure Interval where
  first : Nat
  last : Nat
  queue : Nat
deriving DecidableEq, Repr

/-- One range of a device layout (R6). -/
structure LayoutRange where
  first : Nat
  last : Nat
  profile : Nat
deriving DecidableEq, Repr

/-- The fields of a data frame (R180), as received. -/
structure DataFrame where
  tag : Tag
  status : Nat
  offset : Nat
  flags : Nat
  origin : Nat
  data : Sector
deriving DecidableEq, Repr

/-- A completion record of the media port behind its kind byte (R180): the status byte, the unreadable list, and the
check value as received. -/
structure Completion where
  status : Nat
  unreadable : List Nat
  check : BitVec 32
deriving DecidableEq, Repr

end Sys2Proof
end

