-- ==== Sys2Proof/Config.lean ====
section
/-! DEFINITION. The capacities and fixed intervals of the part, and the values the spec leaves open. -/

namespace Sys2Proof.Config

/-- Fragment records in the pool (R45). -/
abbrev poolSize : Nat := 4096
/-- Entries the Extent Map holds at most (R21). -/
abbrev mapCapacity : Nat := 8388608
/-- Largest logical capacity (R6). -/
abbrev maxLogical : Nat := 2 ^ 36
/-- The sequence number that is never given (R42). -/
abbrev lastSequence : Nat := 2 ^ 48 - 1
/-- Request Table entries, in all and for one origin link (R158). -/
abbrev tableSize : Nat := 128
abbrev tablePerLink : Nat := 64
/-- Fetch slots one origin link may have in use (R108). -/
abbrev slotsPerLink : Nat := 8
/-- Receive buffer slots, and the credits one link can hold (R149, R150). -/
abbrev linkCredits : Nat := 16
/-- Order window slots (R88). -/
abbrev windowSize : Nat := 4
/-- Pending reads of one band at most (R15). -/
abbrev maxPendingReads : Nat := 32
/-- Pieces per track at most (R76). -/
abbrev maxPieces : Nat := 160
/-- Staging area of buffer memory, and Q15's least depth (R56). -/
abbrev stagingSectors : Nat := 262144
abbrev relocationDepth : Nat := 1024
/-- Lines below which MAP_LOW and POOL_LOW are raised (R39, R45). -/
abbrev mapLowLine : Nat := 65536
abbrev poolLowLine : Nat := 256
/-- Defaults of the settings (R56, R57, R99). -/
abbrev defaultDepth : Nat := 16384
abbrev defaultOffset : Nat := 1024
abbrev defaultHold : Nat := 500
abbrev defaultOrderLimit : Nat := 2000
/-- Fixed limits of deadlines, in ms (R99). -/
abbrev spinLimit : Nat := 30000
abbrev shortLimit : Nat := 5000

/-- DESIGN CHOICE, safe (log 14). The time left to a running timer's expiry, which the spec reports in Query answers and
gives no value for: a free value for each reading. -/
opaque freeTime : Nat → Nat

/-- DESIGN CHOICE, safe (log 15). The sequence field of the result of a Put refused at checks 4 to 7, which received no
number: of the link and the tag of the Put. -/
opaque refusedPutSequence : Nat → Nat → Nat

/-- DESIGN CHOICE, safe (log 16). A byte of the data sent for a padding position: of each band, generation, track, position and
place in the sector. -/
opaque paddingByte : Nat → Nat → Nat → Nat → Nat → Byte

/-- The 4,096 bytes sent for a padding position (R180). -/
def paddingSector (band generation track position : Nat) : Sector :=
  (List.range 4096).map (paddingByte band generation track position)

end Sys2Proof.Config
end

