-- ==== Sys2Proof/Syntax.lean ====
section
/-! DEFINITION. The commands of the part: one constructor for each row of spec/opcode_table.json. Request commands carry the
link the frame is taken from, its tag and the arguments as R180's tables lay them out; a value of a Set whose length is not
its item's is none (R182). -/

namespace Sys2Proof

inductive Instr where
  /-- PUT (R50). -/
  | put (l : Link) (tag : Tag) (lsa count durability : Nat)
  /-- DATA_FRAME (R51). -/
  | dataFrame (l : Link) (f : DataFrame)
  /-- GET (R109). -/
  | get (l : Link) (tag : Tag) (lsa count : Nat)
  /-- TRIM (R62). -/
  | trim (l : Link) (tag : Tag) (lsa count : Nat)
  /-- FLUSH (R161): queue byte, 255 for ALL. -/
  | flush (l : Link) (tag : Tag) (queue : Nat)
  /-- SELECT (R47): queue byte, 255 for ROUTED. -/
  | select (l : Link) (tag : Tag) (queue : Nat)
  /-- CLEAN (R127): band, 0xFFFFFFFF for AUTO. -/
  | clean (l : Link) (tag : Tag) (band : Nat)
  /-- SET_QUEUE_DIVISION (R56): the depths; a list that has not sixteen members stands for a value of another length. -/
  | setQueueDivision (l : Link) (tag : Tag) (depths : List Nat)
  /-- SET_QUEUE_THRESHOLDS (R57): queue, almost-full offset, hold interval. -/
  | setQueueThresholds (l : Link) (tag : Tag) (value : Option (Nat × Nat × Nat))
  /-- SET_INTERVALS (R48): default queue and intervals. -/
  | setIntervals (l : Link) (tag : Tag) (value : Option (Nat × List Interval))
  /-- SET_SPACE_MARKS (R125): reserve, low, high. -/
  | setSpaceMarks (l : Link) (tag : Tag) (value : Option (Nat × Nat × Nat))
  /-- SET_LINK_MODE (R122): 0 NORMAL, 1 PATTERN. -/
  | setLinkMode (l : Link) (tag : Tag) (value : Option Nat)
  /-- SET_ERROR_SCOPE (R154): scope, pairing. -/
  | setErrorScope (l : Link) (tag : Tag) (value : Option (Nat × Nat))
  /-- SET_NOTICE_ENABLES (R164): link, set of kinds. -/
  | setNoticeEnables (l : Link) (tag : Tag) (value : Option (Nat × Nat))
  /-- SET_ORDER_LIMIT (R99): ms. -/
  | setOrderLimit (l : Link) (tag : Tag) (value : Option Nat)
  /-- SET_CLEAR_PENDING_NOTICES (R164): link, set of kinds. -/
  | setClearPendingNotices (l : Link) (tag : Tag) (value : Option (Nat × Nat))
  /-- QUERY_BAND_RECORD (R165). -/
  | queryBandRecord (l : Link) (tag : Tag) (band : Nat)
  /-- QUERY_QUEUE_RECORD (R165). -/
  | queryQueueRecord (l : Link) (tag : Tag) (queue : Nat)
  /-- QUERY_MAP_LOOKUP (R41). -/
  | queryMapLookup (l : Link) (tag : Tag) (lsa : Nat)
  /-- QUERY_COUNTS (R165). -/
  | queryCounts (l : Link) (tag : Tag)
  /-- QUERY_MEDIA_AND_SPINDLE_STATE (R165). -/
  | queryMediaAndSpindleState (l : Link) (tag : Tag)
  /-- QUERY_RELOCATION_STATE (R165). -/
  | queryRelocationState (l : Link) (tag : Tag)
  /-- QUERY_LINK_STATES_AND_TABLE_USE (R165). -/
  | queryLinkStatesAndTableUse (l : Link) (tag : Tag)
  /-- QUERY_PROFILE_RECORD (R165). -/
  | queryProfileRecord (l : Link) (tag : Tag) (profile : Nat)
  /-- QUERY_SETTING (R165): a Set item code. -/
  | querySetting (l : Link) (tag : Tag) (item : Nat)
  /-- LOAD_PROFILE (R3): profile, S, T, verify byte. -/
  | loadProfile (l : Link) (tag : Tag) (profile sectors tracks verify : Nat)
  /-- FORMAT (R7): L, B, ranges. -/
  | format (l : Link) (tag : Tag) (logical bands : Nat) (ranges : List LayoutRange)
  /-- FORMAT_COMPLETE (R8). -/
  | formatComplete
  /-- QUIESCE (R139): target byte, release set byte, wake interval. -/
  | quiesce (l : Link) (tag : Tag) (target release interval : Nat)
  /-- WAKE (R145). -/
  | wake (l : Link) (tag : Tag)
  /-- RESET (R171): level byte. -/
  | reset (l : Link) (tag : Tag) (level : Nat)
  /-- HOLD_LINK_HOLD (R152): the byte naming the link to hold. -/
  | holdLinkHold (l : Link) (tag : Tag) (named : Nat)
  /-- HOLD_LINK_RELEASE (R152): the byte naming the link to release. -/
  | holdLinkRelease (l : Link) (tag : Tag) (named : Nat)
  /-- MEDIA_RESTART (R106). -/
  | mediaRestart (l : Link) (tag : Tag)
  /-- MALFORMED (R182): the bytes of the frame, check value included. -/
  | malformed (l : Link) (bytes : List Byte)
  /-- IDLE_RECEIVED (R147). -/
  | idleReceived (l : Link)
  /-- CREDIT_RECEIVED (R150). -/
  | creditReceived (l : Link)
  /-- FRAME_RECEIVED (R149): the bytes of the frame, check value included. -/
  | frameReceived (l : Link) (bytes : List Byte)
  /-- FRAME_SENT (R150). -/
  | frameSent (l : Link)
  /-- NOTICE_SENT (R167). -/
  | noticeSent (l : Link)
  /-- LINK_SILENCE_TIMEOUT (R151). -/
  | linkSilenceTimeout (l : Link)
  /-- QUIET_INTERVAL_END (R151). -/
  | quietIntervalEnd (l : Link)
  /-- LEVEL_0_RESET (R176). -/
  | level0Reset
  /-- START_UP (R177). -/
  | startUp
  /-- SEQUENCER_READY (R103). -/
  | sequencerReady
  /-- SEQUENCER_READY_WITHDRAWN (R91). -/
  | sequencerReadyWithdrawn
  /-- WRITE_TRACK_COMPLETION (R80). -/
  | writeTrackCompletion (c : Completion)
  /-- READ_TRACK_COMPLETION (R93). -/
  | readTrackCompletion (c : Completion)
  /-- GEOMETRY_COMPLETION (R5). -/
  | geometryCompletion (c : Completion)
  /-- MOTION_COMPLETION (R140): the kind byte (4 PARK, 5 UNPARK, 6 SPIN DOWN, 7 SPIN UP; any other is of no order). -/
  | motionCompletion (kind : Nat) (c : Completion)
  /-- SECTOR_DELIVERY (R94): sector number, data, check value as received. -/
  | sectorDelivery (sector : Nat) (data : Sector) (check : BitVec 32)
  /-- DEADLINE_EXPIRY (R99). -/
  | deadlineExpiry
  /-- RECOVERY_WAIT_END (R103). -/
  | recoveryWaitEnd
  /-- STARTUP_WAIT_END (R100). -/
  | startupWaitEnd
  /-- ESCALATION_TIMER_EXPIRY (R104). -/
  | escalationTimerExpiry
  /-- HOLD_TIMER_EXPIRY (R59) of a queue. -/
  | holdTimerExpiry (q : Fin 16)
  /-- WAKE_TIMER_EXPIRY (R142). -/
  | wakeTimerExpiry
  /-- MEDIA_GRANT (R97). -/
  | mediaGrant
  /-- VICTIM_SELECTION (R128). -/
  | victimSelection
  /-- RELOCATION_RECORDS (R132). -/
  | relocationRecords
deriving DecidableEq, Repr

end Sys2Proof
end

