-- ==== Sys2Proof/WellFormed.lean ====
section
/-! DEFINITION. When the operands of a command fit the fields that carry them (R180). A command whose operands fit may still be
refused by the part: those checks are its meaning's. -/

namespace Sys2Proof

/-- v fits a field of n bytes. -/
abbrev fits (n v : Nat) : Bool := v < 2 ^ (8 * n)

abbrev Interval.fits (i : Interval) : Bool :=
  Sys2Proof.fits 8 i.first && Sys2Proof.fits 8 i.last && Sys2Proof.fits 1 i.queue

abbrev LayoutRange.fits (r : LayoutRange) : Bool :=
  Sys2Proof.fits 4 r.first && Sys2Proof.fits 4 r.last && Sys2Proof.fits 1 r.profile

/-- The data frame's fields fit (R180); its data may be of any length, since R182 lays down what a wrong length brings. -/
abbrev DataFrame.fits (f : DataFrame) : Bool :=
  Sys2Proof.fits 1 f.status && Sys2Proof.fits 2 f.offset && Sys2Proof.fits 1 f.flags && Sys2Proof.fits 1 f.origin

abbrev Completion.fits (c : Completion) : Bool :=
  Sys2Proof.fits 1 c.status && Sys2Proof.fits 2 c.unreadable.length && c.unreadable.all (Sys2Proof.fits 2)

def Instr.wellFormed : Instr → Bool
  | .put _ _ lsa count durability => fits 8 lsa && fits 2 count && fits 1 durability
  | .dataFrame _ f => f.fits
  | .get _ _ lsa count => fits 8 lsa && fits 2 count
  | .trim _ _ lsa count => fits 8 lsa && fits 8 count
  | .flush _ _ queue => fits 1 queue
  | .select _ _ queue => fits 1 queue
  | .clean _ _ band => fits 4 band
  | .setQueueDivision _ _ depths => depths.length ≤ 16 && depths.all (fits 4)
  | .setQueueThresholds _ _ v => v.all fun v => fits 1 v.1 && fits 4 v.2.1 && fits 2 v.2.2
  | .setIntervals _ _ v => v.all fun v => fits 1 v.1 && fits 1 v.2.length && v.2.all Interval.fits
  | .setSpaceMarks _ _ v => v.all fun v => fits 1 v.1 && fits 1 v.2.1 && fits 1 v.2.2
  | .setLinkMode _ _ v => v.all (fits 1)
  | .setErrorScope _ _ v => v.all fun v => fits 1 v.1 && fits 1 v.2
  | .setNoticeEnables _ _ v => v.all fun v => fits 1 v.1 && fits 2 v.2
  | .setOrderLimit _ _ v => v.all (fits 2)
  | .setClearPendingNotices _ _ v => v.all fun v => fits 1 v.1 && fits 2 v.2
  | .queryBandRecord _ _ band => fits 8 band
  | .queryQueueRecord _ _ queue => fits 8 queue
  | .queryMapLookup _ _ lsa => fits 8 lsa
  | .queryCounts _ _ => true
  | .queryMediaAndSpindleState _ _ => true
  | .queryRelocationState _ _ => true
  | .queryLinkStatesAndTableUse _ _ => true
  | .queryProfileRecord _ _ profile => fits 8 profile
  | .querySetting _ _ item => fits 8 item
  | .loadProfile _ _ profile sectors tracks verify =>
      fits 1 profile && fits 2 sectors && fits 1 tracks && fits 1 verify
  | .format _ _ logical bands ranges =>
      fits 8 logical && fits 4 bands && 1 ≤ ranges.length && ranges.length ≤ 8 && ranges.all LayoutRange.fits
  | .formatComplete => true
  | .quiesce _ _ target release interval => fits 1 target && fits 1 release && fits 4 interval
  | .wake _ _ => true
  | .reset _ _ level => fits 1 level
  | .holdLinkHold _ _ named => fits 1 named
  | .holdLinkRelease _ _ named => fits 1 named
  | .mediaRestart _ _ => true
  | .malformed _ _ => true
  | .idleReceived _ => true
  | .creditReceived _ => true
  | .frameReceived _ _ => true
  | .frameSent _ => true
  | .noticeSent _ => true
  | .linkSilenceTimeout _ => true
  | .quietIntervalEnd _ => true
  | .level0Reset => true
  | .startUp => true
  | .sequencerReady => true
  | .sequencerReadyWithdrawn => true
  | .writeTrackCompletion c => c.fits
  | .readTrackCompletion c => c.fits
  | .geometryCompletion c => c.fits
  | .motionCompletion kind c => fits 1 kind && c.fits
  | .sectorDelivery sector data _ => fits 2 sector && data.length == 4096
  | .deadlineExpiry => true
  | .recoveryWaitEnd => true
  | .startupWaitEnd => true
  | .escalationTimerExpiry => true
  | .holdTimerExpiry _ => true
  | .wakeTimerExpiry => true
  | .mediaGrant => true
  | .victimSelection => true
  | .relocationRecords => true

end Sys2Proof
end

