-- ==== Sys2Proof/Decode.lean ====
section
/-! DEFINITION. The commands a word of the table's bits spells. spec/opcode_table.json gives bits to none of its sixty rows
(98_reader.md: n_rows_with_fixed 0), so no word spells a command. How the bytes of a link frame are read is in
Machine/Operands.lean. -/

namespace Sys2Proof

/-- The command a word spells by the table's bits: none, because no row gives bits. -/
def decodeTableWord (_nbits _w : Nat) : Option Instr := none

end Sys2Proof
end

