-- ==== Sys2Proof/Machine/State.lean ====
section
/-! DEFINITION. The state of the part: every record, setting, queue, slot, timer and line the spec names, as plain data; why a
step can stop; and the state after a level 0 reset. -/

namespace Sys2Proof.Machine

/-- Why the machine would stop with a fault. The spec names no such stop: every event has an effect or changes nothing, so this
type has no constructor and no step raises a fault. -/
inductive Fault
deriving DecidableEq, Repr

/-- Why a step has no meaning. -/
inductive Refusal where
  /-- Raised by an arm of exec for a command not modelled yet; safe. No arm raises it now. -/
  | notModelled (mnemonic : String)
deriving DecidableEq, Repr

/-! ### Map memory -/

/-- R6. -/
inductive FormatState where
  | unformatted
  | formatting
  | formatted
deriving DecidableEq, Repr

/-- R6: L, B and the ranges. -/
structure Layout where
  logical : Nat
  bands : Nat
  ranges : List LayoutRange
deriving DecidableEq, Repr

/-- R2. -/
inductive ProfileState where
  | unset
  | updating
  | active
deriving DecidableEq, Repr

/-- S, T and verify of a profile (R2). -/
structure Shape where
  sectors : Nat
  tracks : Nat
  verify : Bool
deriving DecidableEq, Repr

/-- A zone profile record (R2). -/
structure Profile where
  state : ProfileState
  shape : Option Shape
  pending : Option Shape
  before : Option ProfileState
deriving DecidableEq, Repr

/-- R9. -/
inductive BandState where
  | free
  | opened
  | closed
  | full
  | cleaning
  | retired
deriving DecidableEq, Repr

/-- A band record (R9); its number is its place in the Band Table. -/
structure Band where
  state : BandState
  profile : Nat
  issued : Nat
  completed : Nat
  skipped : Nat
  valid : Nat
  pendingReads : Nat
  queue : Option (Fin 16)
  generation : Nat
  retire : Bool
  suspect : Bool
  prior : Option BandState
deriving DecidableEq, Repr

/-- A band and a data index within it (R20). -/
structure Location where
  band : Nat
  index : Nat
deriving DecidableEq, Repr

/-- An Extent Map entry (R20): VALID with its location, LOST without one. -/
structure Entry where
  start : Nat
  length : Nat
  sequence : Nat
  location : Option Location
deriving DecidableEq, Repr

/-! ### Requests and frames -/

/-- A request as its frame's header and arguments give it (R180). The last constructor is a Set or Query naming an item the
part does not have, or a Hold Link naming no action: it is answered INVALID (R163, R165, R152). -/
inductive Request where
  | put (lsa count durability : Nat)
  | get (lsa count : Nat)
  | trim (lsa count : Nat)
  | flush (queue : Nat)
  | select (queue : Nat)
  | clean (band : Nat)
  | setQueueDivision (depths : List Nat)
  | setQueueThresholds (value : Option (Nat × Nat × Nat))
  | setIntervals (value : Option (Nat × List Interval))
  | setSpaceMarks (value : Option (Nat × Nat × Nat))
  | setLinkMode (value : Option Nat)
  | setErrorScope (value : Option (Nat × Nat))
  | setNoticeEnables (value : Option (Nat × Nat))
  | setOrderLimit (value : Option Nat)
  | setClearPendingNotices (value : Option (Nat × Nat))
  | queryBandRecord (band : Nat)
  | queryQueueRecord (queue : Nat)
  | queryMapLookup (lsa : Nat)
  | queryCounts
  | queryMediaAndSpindleState
  | queryRelocationState
  | queryLinkStatesAndTableUse
  | queryProfileRecord (profile : Nat)
  | querySetting (item : Nat)
  | loadProfile (profile sectors tracks verify : Nat)
  | format (logical bands : Nat) (ranges : List LayoutRange)
  | quiesce (target release interval : Nat)
  | wake
  | reset (level : Nat)
  | hold (named : Nat)
  | release (named : Nat)
  | mediaRestart
  | unknown (kind : Nat)
deriving DecidableEq, Repr

/-- A frame with a good check value, as the receive buffer holds it: a request, a data frame, or a frame whose header cannot
be read, with the kind byte and tag it is answered under (R182). -/
inductive InFrame where
  | request (tag : Tag) (r : Request)
  | data (f : DataFrame)
  | malformed (kind : Nat) (tag : Tag)
deriving DecidableEq, Repr

/-- The statuses of R162, in its order. -/
inductive Status where
  | ok | partial_ | full | poolEmpty | mapFull | range | invalid | busy | state | tagInUse | mode | asleep | notIdle
  | mediaError | mediaDown | aborted | unformatted | starting | malformed | inUse | failed | rejected
deriving DecidableEq, Repr

/-- The statuses of a data frame (R119). -/
inductive SectorStatus where
  | ok
  | unwritten
  | lost
  | mediaError
deriving DecidableEq, Repr

/-- One field of a Query result (R180): a number of so many bytes; one that may be absent; or one of several parts that is present or
absent whole, each part given as its bytes and its value. -/
inductive Field where
  | num (bytes value : Nat)
  | opt (bytes : Nat) (value : Option Nat)
  | parts (value : Option (List (Nat × Nat)))
deriving DecidableEq, Repr

/-- The result of a response (R162, R180). The sequence of a refused Put's result is absent. -/
inductive Result where
  | none
  | put (sequence : Option Nat) (queue : Nat) (almostFull : Bool)
  | trim (sequence : Nat)
  | record (fields : List Field)
deriving DecidableEq, Repr

/-- What a queued frame holds until it is sent: the receive slot and tag of a request answered at once (R149, R160), the slot
alone (a MALFORMED answer, R160), the Request Table entry, the Reset's tag, or nothing. -/
inductive FrameHold where
  | slotAndTag
  | slot
  | entry
  | resetTag
  | nothing
deriving DecidableEq, Repr

inductive FrameBody where
  | response (kind : Nat) (status : Status) (result : Result)
  | data (status : SectorStatus) (offset : Nat) (data : Sector)
deriving DecidableEq, Repr

/-- A response or data frame in a transmit queue (R150). -/
structure OutFrame where
  tag : Tag
  origin : Link
  redirected : Bool
  holds : FrameHold
  body : FrameBody
deriving DecidableEq, Repr

/-- The ten notice kinds, in the priority order of R168. -/
inductive Notice where
  | mediaDown | mediaRecovering | peerLink | dataLost | spaceLow | mapLow | poolLow | queueAlmostFull | wake
  | relocationDone
deriving DecidableEq, Repr

/-- A pending notice kind (R167). -/
structure PendingNotice where
  kind : Notice
  detail : Nat
  repeated : Bool
deriving DecidableEq, Repr

/-- R148. -/
inductive LinkState where
  | held
  | ready
  | running
  | error
deriving DecidableEq, Repr

/-- The unit a port is transmitting (R150): the frame at the head of its transmit queue, a notice, or a notice whose kind has
been cleared from the pending set since its transmission began (R164). -/
inductive Sending where
  | frame
  | notice (k : Notice)
  | cleared
deriving DecidableEq, Repr

/-- One link port, with the settings kept for its link (R46, R122, R148, R149, R150, R167). -/
structure Port where
  state : LinkState
  rx : List InFrame
  txq : List OutFrame
  creditsHeld : Nat
  creditsGranted : Nat
  sending : Option Sending
  pending : List PendingNotice
  enabled : List Notice
  selection : Option (Fin 15)
  pattern : Bool
deriving DecidableEq, Repr

/-- A request's name in the part: origin link and tag (R160: unique among the outstanding). -/
structure Key where
  origin : Link
  tag : Tag
deriving DecidableEq, Repr

/-- R158's recorded outcome of a Put. -/
inductive Outcome where
  | none
  | mediaError
  | aborted
deriving DecidableEq, Repr

/-- What the entry of a Put holds (R49 to R53, R158, R173). next is the offset expected, and settling says that the Put no
longer takes data (a reset or an abandonment) and is answered when its pieces are resolved. -/
structure PutInfo where
  lsa : Nat
  count : Nat
  durable : Bool
  sequence : Nat
  queue : Fin 15
  almostFull : Bool
  next : Nat
  settling : Bool
  pieces : Nat
  outcome : Outcome
deriving DecidableEq, Repr

/-- The kind of a Request Table entry with its owner's reference (R158). A Get on a link in PATTERN mode has no slot: its entry
holds its range and the next offset to send (R123). -/
inductive EntryInfo where
  | put (p : PutInfo)
  | get
  | patternGet (lsa count next : Nat)
  | flush
  | clean
  | loadProfile
  | format
  | quiesce
  | wake
  | mediaRestart
deriving DecidableEq, Repr

/-- A Request Table entry (R158). answered: its response has joined a transmit queue and is not sent yet (R160). discarded:
its response is discarded when due (R153, R156). -/
structure ReqEntry where
  key : Key
  reply : Link
  redirected : Bool
  discarded : Bool
  answered : Bool
  info : EntryInfo
deriving DecidableEq, Repr

/-- The reset record (R160): the Reset that waits for its response. -/
structure ResetRecord where
  key : Key
  reply : Link
  redirected : Bool
  discarded : Bool
deriving DecidableEq, Repr

/-! ### Staging and placement -/

/-- R44. -/
inductive RecordKind where
  | host
  | reloc
  | lostrel
deriving DecidableEq, Repr

/-- A fragment record (R44) with the data received for it, in LSA order, and its membership of its queue's drain set (R60). -/
structure Fragment where
  kind : RecordKind
  lsa : Nat
  length : Nat
  sequence : Nat
  filling : Nat
  origin : Option Key
  attempts : Nat
  source : Option Location
  acknowledged : Bool
  drain : Bool
  data : List Sector
deriving DecidableEq, Repr

/-- R59. RUNNING holds the interval it was started with, in ms. -/
inductive HoldTimer where
  | stopped
  | running (interval : Nat)
  | expired
deriving DecidableEq, Repr

/-- R70. -/
inductive StallReason where
  | media
  | spindle
  | ending
  | space
  | pool
  | none
deriving DecidableEq, Repr

/-- A staging queue (R54 to R61) with its stall reason (R70); poolStall is the condition of the POOL row. almostFull is the fill
state as it was last worked out, or NORMAL since a reset or a Format (R58, R67; log 41). -/
structure Queue where
  records : List Fragment
  depth : Nat
  offset : Nat
  almostFull : Bool
  hold : Nat
  timer : HoldTimer
  mark : Bool
  waiting : List Key
  stall : StallReason
  poolStall : Bool
deriving DecidableEq, Repr

/-- A maximal run of non-void sectors of a piece, from offset start within it, holding one fragment record (R65, R77). -/
structure Stretch where
  start : Nat
  length : Nat
  data : List Sector
deriving DecidableEq, Repr

/-- A piece of a write order (R77), with the fields its records share (R44). Its void set is what its stretches leave out. -/
structure Piece where
  reloc : Bool
  lsa : Nat
  length : Nat
  offset : Nat
  sequence : Nat
  source : Option Location
  origin : Option Key
  attempts : Nat
  acknowledged : Bool
  drain : Bool
  stretches : List Stretch
deriving DecidableEq, Repr

/-- R77. -/
structure WriteOrder where
  band : Nat
  track : Nat
  generation : Nat
  profile : Nat
  verify : Bool
  queue : Fin 16
  pieces : List Piece
  orphaned : Bool
deriving DecidableEq, Repr

/-! ### Fetch -/

/-- R108. -/
inductive SectorSource where
  | staged
  | media
  | lost
  | unwritten
deriving DecidableEq, Repr

/-- The band, track and sector position of a MEDIA sector (R108). -/
structure Place where
  band : Nat
  track : Nat
  position : Nat
deriving DecidableEq, Repr

/-- A slot's record of one offset (R108); settled exactly when the status is present. The data is the slot region's. -/
structure SlotSector where
  source : SectorSource
  status : Option SectorStatus
  place : Option Place
  data : Sector
deriving DecidableEq, Repr

inductive SlotState where
  | free
  | active
  | ending
deriving DecidableEq, Repr

/-- A fetch slot (R108). mediaDown: R118 settled a sector of it. -/
structure FetchSlot where
  state : SlotState
  key : Key
  lsa : Nat
  count : Nat
  next : Nat
  sectors : List SlotSector
  mediaDown : Bool
deriving DecidableEq, Repr

inductive ReadStage where
  | initial
  | reread
deriving DecidableEq, Repr

/-- A read of a Get (R112). needed pairs each sector position still needed with its offset in the Get. -/
structure FetchRead where
  slot : Fin 16
  band : Nat
  track : Nat
  profile : Nat
  first : Nat
  count : Nat
  needed : List (Nat × Nat)
  stage : ReadStage
  timeouts : Nat
deriving DecidableEq, Repr

/-! ### The order window -/

/-- The owner of a READ TRACK and its reference (R88). A relocation read left over by a reset is stale (R137). -/
inductive ReadOwner where
  | fetch (r : FetchRead)
  | relocation (stale : Bool)
  | startUp
deriving DecidableEq, Repr

/-- A READ TRACK in the window (R88, R93). -/
structure ReadOrder where
  owner : ReadOwner
  band : Nat
  track : Nat
  profile : Nat
  first : Nat
  count : Nat
  timeouts : Nat
  delivered : List Nat
deriving DecidableEq, Repr

/-- Where a GEOMETRY order comes from (R95, R177). -/
inductive GeoOrigin where
  | loadProfile (key : Key)
  | reinstall
  | startUp
deriving DecidableEq, Repr

structure GeoOrder where
  profile : Nat
  sectors : Nat
  tracks : Nat
  origin : GeoOrigin
deriving DecidableEq, Repr

/-- R96. -/
inductive Motion where
  | park
  | unpark
  | spinDown
  | spinUp
deriving DecidableEq, Repr

/-- An occupied slot of the order window (R88). -/
inductive Order where
  | write (w : WriteOrder)
  | read (r : ReadOrder)
  | geometry (g : GeoOrder)
  | motion (m : Motion)
deriving DecidableEq, Repr

/-- R100. -/
inductive PathState where
  | offline
  | ready
  | recovering
  | down
deriving DecidableEq, Repr

/-! ### Relocation -/

inductive EngineState where
  | idle
  | selecting
  | reading
  | draining
deriving DecidableEq, Repr

inductive RunKind where
  | auto
  | single
deriving DecidableEq, Repr

inductive HandPhase where
  | gate
  | presented
  | inWindow
  | records
deriving DecidableEq, Repr

/-- A sector of the live set (R124): its data index, LSA, read piece, whether it is read (some true), unreadable (some false) or
not yet settled, and the data delivered for it. -/
structure LiveSector where
  index : Nat
  lsa : Nat
  piece : Nat
  outcome : Option Bool
  data : Sector
deriving DecidableEq, Repr

/-- The track in hand (R124, R130). fixed: its read has been issued once and its live set stands. claimWait: a refused claim
waits for a release (R130). -/
structure TrackInHand where
  track : Nat
  phase : HandPhase
  stage : ReadStage
  timeouts : Nat
  fixed : Bool
  live : List LiveSector
  claimWait : Bool
deriving DecidableEq, Repr

/-- The Relocation Engine's record (R124); target is the band a SINGLE run's Clean named. -/
structure Engine where
  state : EngineState
  run : Option RunKind
  clean : Option Key
  target : Option Nat
  victim : Option Nat
  cursor : Option Nat
  hand : Option TrackInHand
  deferred : Option Nat
deriving DecidableEq, Repr

/-- R125. -/
structure SpaceMarks where
  reserve : Nat
  low : Nat
  high : Nat
deriving DecidableEq, Repr

/-! ### Spindle -/

inductive SpindleState where
  | spinning
  | parking
  | parked
  | stopping
  | stopped
  | starting
deriving DecidableEq, Repr

inductive Rest where
  | parked
  | stopped
deriving DecidableEq, Repr

/-- R138: a subset of GET, PLACE, TIMER. -/
structure ReleaseSet where
  get : Bool
  place : Bool
  timer : Bool
deriving DecidableEq, Repr

/-- The spindle record (R138), and the motion order presented and not issued (R96). The wake timer, when RUNNING, holds the
interval it was started with, in s. -/
structure Spindle where
  state : SpindleState
  resting : Option Rest
  release : Option ReleaseSet
  wakeInterval : Option Nat
  wakeTimer : Option Nat
  releasePending : Bool
  quiesce : Option Key
  attempts : Option Nat
  wakes : List Key
  motion : Option Motion
deriving DecidableEq, Repr

/-! ### Service and start-up -/

inductive Service where
  | starting
  | inService
deriving DecidableEq, Repr

/-- How far start-up has come (R176 to R179). spinUp records whether the reinstalls of a return to READY stand in place of the
start-up GEOMETRY orders; reconcile names the band and track whose footer is read, the read's timeouts, whether it is in the
window, and the footer delivered. -/
inductive StartStage where
  | held
  | waitReady
  | spinUp (reinstalled : Bool)
  | geometry
  | reconcile (band track timeouts : Nat) (issued : Bool) (footer : Sector)
  | done
deriving DecidableEq, Repr

/-- R154. -/
structure ErrorScope where
  link : Bool
  paired : Bool
deriving DecidableEq, Repr

/-! ### The state -/

structure State where
  /-- The commands that wait, first in first out (the model's own queue). -/
  pending : List Instr
  format : FormatState
  layout : Option Layout
  formatting : Option Layout
  profiles : Vector Profile 8
  bands : List Band
  map : List Entry
  sequence : Nat
  table : List ReqEntry
  resetRecord : Option ResetRecord
  /-- Orders of the window at a reset's taking that have not left it; none when no reset is in progress (R171). -/
  resetWaits : Option Nat
  portA : Port
  portB : Port
  scope : ErrorScope
  intervals : List Interval
  defaultQueue : Fin 15
  queues : Vector Queue 16
  lastServed : Fin 16
  window : List Order
  deadline : Option Nat
  path : PathState
  mediaReset : Bool
  recoveryWait : Bool
  startWait : Bool
  escalation : Bool
  fetchRun : Nat
  orderLimit : Nat
  geometry : List GeoOrder
  slots : Vector FetchSlot 16
  fetchList : List FetchRead
  engine : Engine
  marks : SpaceMarks
  spindle : Spindle
  service : Service
  stage : StartStage
  /-- The counter the free values are applied to (log 14). -/
  freeCount : Nat
deriving DecidableEq, Repr

/-! ### After a level 0 reset -/

def Notice.all : List Notice :=
  [.mediaDown, .mediaRecovering, .peerLink, .dataLost, .spaceLow, .mapLow, .poolLow, .queueAlmostFull, .wake, .relocationDone]

/-- A zone profile record of a blank map memory (R2). -/
def Profile.blank : Profile := { state := .unset, shape := none, pending := none, before := none }

/-- A link port after a level 0 reset (R47, R122, R148, R157, R169). -/
def Port.reset : Port :=
  { state := .ready, rx := [], txq := [], creditsHeld := 0, creditsGranted := Config.linkCredits, sending := none,
    pending := [], enabled := Notice.all, selection := none, pattern := false }

/-- A staging queue after a level 0 reset (R67); its stall reason is MEDIA, the path being OFFLINE (R70, R100). -/
def Queue.reset : Queue :=
  { records := [], depth := Config.defaultDepth, offset := Config.defaultOffset, almostFull := false, hold := Config.defaultHold,
    timer := .stopped, mark := false, waiting := [], stall := .media, poolStall := false }

/-- A FREE fetch slot (R108). -/
def FetchSlot.empty : FetchSlot :=
  { state := .free, key := ⟨.a, 0⟩, lsa := 0, count := 0, next := 0, sectors := [], mediaDown := false }

/-- The Relocation Engine after a level 0 reset (R137). -/
def Engine.reset : Engine :=
  { state := .idle, run := none, clean := none, target := none, victim := none, cursor := none, hand := none,
    deferred := none }

def SpaceMarks.default : SpaceMarks := { reserve := 2, low := 8, high := 12 }

/-- The spindle record after a level 0 reset (R146). -/
def Spindle.reset : Spindle :=
  { state := .stopped, resting := some .stopped, release := some ⟨false, false, false⟩, wakeInterval := none,
    wakeTimer := none, releasePending := false, quiesce := none, attempts := none, wakes := [], motion := none }

def ErrorScope.default : ErrorScope := { link := false, paired := false }

/-- What a level 0 reset leaves of a state (R176): map memory kept, all else at its level 0 value. A Format cut off leaves no
format mark (R8). -/
def State.level0 (s : State) : State :=
  { pending := s.pending
    format := if s.format = .formatting then .unformatted else s.format
    layout := if s.format = .formatting then none else s.layout
    formatting := none
    profiles := s.profiles
    bands := s.bands
    map := s.map
    sequence := s.sequence
    table := []
    resetRecord := none
    resetWaits := none
    portA := Port.reset
    portB := Port.reset
    scope := ErrorScope.default
    intervals := []
    defaultQueue := 0
    queues := Vector.replicate 16 Queue.reset
    lastServed := 15
    window := []
    deadline := none
    path := .offline
    mediaReset := false
    recoveryWait := false
    startWait := false
    escalation := false
    fetchRun := 0
    orderLimit := Config.defaultOrderLimit
    geometry := []
    slots := Vector.replicate 16 FetchSlot.empty
    fetchList := []
    engine := Engine.reset
    marks := SpaceMarks.default
    spindle := Spindle.reset
    service := .starting
    stage := .held
    freeCount := s.freeCount }

/-- The machine right after reset: power applied to a part whose map memory is blank (R2, R6, R42, R176; log 1, log 3), with the
pin still asserted, so that start-up has not begun. -/
def State.reset : State :=
  { pending := []
    format := .unformatted
    layout := none
    formatting := none
    profiles := Vector.replicate 8 Profile.blank
    bands := []
    map := []
    sequence := 1
    table := []
    resetRecord := none
    resetWaits := none
    portA := Port.reset
    portB := Port.reset
    scope := ErrorScope.default
    intervals := []
    defaultQueue := 0
    queues := Vector.replicate 16 Queue.reset
    lastServed := 15
    window := []
    deadline := none
    path := .offline
    mediaReset := false
    recoveryWait := false
    startWait := false
    escalation := false
    fetchRun := 0
    orderLimit := Config.defaultOrderLimit
    geometry := []
    slots := Vector.replicate 16 FetchSlot.empty
    fetchList := []
    engine := Engine.reset
    marks := SpaceMarks.default
    spindle := Spindle.reset
    service := .starting
    stage := .held
    freeCount := 0 }

end Sys2Proof.Machine
end

