-- ==== Sys2Proof/Machine/Extent.lean ====
section
/-! DEFINITION. The Extent Map (chapter 2): lookups, cuts, inserts of host and relocation runs, LOST conversions and trims, over
the sorted list of entries. Ranges of LSAs are written as a first LSA and the LSA after the last. -/

namespace Sys2Proof.Machine

/-- The LSA after an entry's last (R20). -/
abbrev Entry.stop (e : Entry) : Nat := e.start + e.length

/-- The form R21 gives the map: entries in ascending order, never overlapping, none empty. -/
def mapSorted : List Entry → Bool
  | [] => true
  | [e] => 1 ≤ e.length
  | e :: f :: rest => 1 ≤ e.length && e.stop ≤ f.start && mapSorted (f :: rest)

/-- The entry that covers an LSA (R23). -/
def lookup (m : List Entry) (x : Nat) : Option Entry :=
  m.find? fun e => e.start ≤ x && x < e.stop

/-- The band and data index of an LSA a VALID entry covers (R20). -/
def Entry.placeOf (e : Entry) (x : Nat) : Option Location :=
  e.location.map fun d => ⟨d.band, d.index + (x - e.start)⟩

/-- The start of the next entry above an LSA, or L (R23). -/
def nextStart (m : List Entry) (x logical : Nat) : Nat :=
  ((m.find? fun e => x < e.start).map (·.start)).getD logical

/-- An entry that begins k sectors later, its location advanced (R26). -/
def Entry.advance (e : Entry) (k : Nat) : Entry :=
  { e with start := e.start + k, length := e.length - k, location := e.location.map fun d => ⟨d.band, d.index + k⟩ }

/-- What is left of an entry outside a to b (R26, R33): its part before and its part after. -/
def Entry.outside (a b : Nat) (e : Entry) : List Entry :=
  (if e.start < a then [{ e with length := min e.stop a - e.start }] else []) ++
    (if b < e.stop then [e.advance (b - e.start)] else [])

/-- The map with the sectors a to b removed (R26, R33). -/
def cutRange (a b : Nat) (m : List Entry) : List Entry :=
  if a < b then m.flatMap (Entry.outside a b) else m

/-- The valid count of a band: the total length of the VALID entries located in it (R34). -/
def validOf (m : List Entry) (band : Nat) : Nat :=
  ((m.filter fun e => e.location.any (·.band == band)).map (·.length)).sum

/-! ### Inserts -/

/-- A run handed to the Map Unit: LSA, length, sequence, and the location of its first sector, absent for a LOST conversion
(R25, R32). -/
structure Run where
  lsa : Nat
  length : Nat
  sequence : Nat
  location : Option Location
deriving DecidableEq, Repr

/-- R25: a host run of this sequence replaces the sectors an entry covers. -/
def Entry.hostHit (sequence : Nat) (e : Entry) : Bool :=
  match e.location with
  | none => true
  | some _ => e.sequence < sequence

/-- R29: a relocation run replaces the sectors an entry covers: VALID, the same sequence, at the source location. The offset
into the run and into the entry advance together, so the test is one for the whole entry. -/
def Entry.relocHit (run : Run) (source : Location) (e : Entry) : Bool :=
  match e.location with
  | none => false
  | some d => e.sequence == run.sequence && d.band == source.band && d.index + run.lsa == source.index + e.start

/-- The replaced sectors of a to b, as ranges in ascending order (R25, R29); unwritten sectors count where fill is set. -/
def replacedRanges (fill : Bool) (hit : Entry → Bool) : List Entry → Nat → Nat → List (Nat × Nat)
  | [], a, b => if fill && a < b then [(a, b)] else []
  | e :: rest, a, b =>
    (if fill && a < min b e.start then [(a, min b e.start)] else []) ++
      (if hit e && max a e.start < min b e.stop then [(max a e.start, min b e.stop)] else []) ++
      replacedRanges fill hit rest (max a (min b e.stop)) b

/-- Ranges that touch, joined: the maximal stretches of R27. -/
def joinRanges (ranges : List (Nat × Nat)) : List (Nat × Nat) :=
  ranges.foldr (fun r acc => match acc with
    | [] => [r]
    | n :: rest => if r.2 = n.1 then (r.1, n.2) :: rest else r :: n :: rest) []

/-- The entry a stretch becomes (R27). -/
def Run.entry (run : Run) (stretch : Nat × Nat) : Entry :=
  { start := stretch.1, length := stretch.2 - stretch.1, sequence := run.sequence,
    location := run.location.map fun d => ⟨d.band, d.index + (stretch.1 - run.lsa)⟩ }

/-- R27: two entries, the first before the second, merge. -/
def Entry.joins (x y : Entry) : Bool :=
  match x.location, y.location with
  | some d, some f =>
    x.sequence == y.sequence && x.stop == y.start && d.band == f.band && d.index + x.length == f.index
  | _, _ => false

/-- R27: the merged entry keeps the earlier one's start and location. -/
def Entry.join (x y : Entry) : Entry := { x with length := x.length + y.length }

/-- A new entry put in its place in the map, merged with the entry before it and the entry after it where R27 says so. -/
def addEntry (m : List Entry) (n : Entry) : List Entry :=
  let before := m.takeWhile fun e => e.start < n.start
  let after := m.dropWhile fun e => e.start < n.start
  let (before, n) := match before.getLast? with
    | some p => if p.joins n then (before.dropLast, p.join n) else (before, n)
    | none => (before, n)
  match after with
  | f :: rest => if n.joins f then before ++ n.join f :: rest else before ++ n :: f :: rest
  | [] => before ++ [n]

/-- The stretches of a run entered in the map (R26, R27). -/
def enterStretches (run : Run) (m : List Entry) (stretches : List (Nat × Nat)) : List Entry :=
  stretches.foldl (fun m st => addEntry (cutRange st.1 st.2 m) (run.entry st)) m

/-- R36: a fill stretch was unwritten throughout and merges with no neighbour. -/
def isFill (run : Run) (m : List Entry) (st : Nat × Nat) : Bool :=
  m.all fun e => (e.stop ≤ st.1 || st.2 ≤ e.start) && !e.joins (run.entry st) && !(run.entry st).joins e

/-- R37: the stretches left after dropping k fill stretches, and those dropped; the list runs from the highest LSA down. -/
def dropFills (fill : Nat × Nat → Bool) : Nat → List (Nat × Nat) → List (Nat × Nat) × List (Nat × Nat)
  | _, [] => ([], [])
  | 0, ss => (ss, [])
  | k + 1, st :: rest =>
    if fill st then
      let r := dropFills fill k rest
      (r.1, st :: r.2)
    else
      let r := dropFills fill (k + 1) rest
      (st :: r.1, r.2)

/-- What an insert did: the map, the stretches entered and the stretches dropped under R37, in ascending order. -/
structure Inserted where
  entries : List Entry
  entered : List (Nat × Nat)
  dropped : List (Nat × Nat)
deriving DecidableEq, Repr

/-- An insert within a budget of new entries (R25 to R29, R36, R37). -/
def insertRun (m : List Entry) (run : Run) (fill : Bool) (hit : Entry → Bool) (budget : Nat) : Inserted :=
  let stretches := joinRanges (replacedRanges fill hit m run.lsa (run.lsa + run.length))
  let excess := (enterStretches run m stretches).length - (m.length + budget)
  let split := dropFills (isFill run m) excess stretches.reverse
  { entries := enterStretches run m split.1.reverse, entered := split.1.reverse, dropped := split.2.reverse }

/-- A host run, or a host-form LOST conversion where the run has no location (R25, R32). -/
def insertHost (m : List Entry) (run : Run) (budget : Nat) : Inserted :=
  insertRun m run true (Entry.hostHit run.sequence) budget

/-- A relocation run, or a relocation-form LOST conversion where the run has no location (R29, R32). -/
def insertReloc (m : List Entry) (run : Run) (source : Location) (budget : Nat) : Inserted :=
  insertRun m run false (Entry.relocHit run source) budget

/-- R81, R172: the lowest LSA of a run that was converted or dropped. -/
def lowestOf (ranges : List (Nat × Nat)) : Option Nat :=
  ranges.foldl (fun acc r => match acc with
    | none => some r.1
    | some x => some (min x r.1)) none

/-! ### The per-band index -/

/-- Insertion into an ascending list, by a key. -/
def insertBy {α : Type} (key : α → Nat) (x : α) : List α → List α
  | [] => [x]
  | y :: rest => if key x ≤ key y then x :: y :: rest else y :: insertBy key x rest

def sortBy {α : Type} (key : α → Nat) (l : List α) : List α :=
  l.foldr (insertBy key) []

/-- The VALID entries located in a band with the data index of their first sector, in data index order (R24). -/
def bandIndex (m : List Entry) (band : Nat) : List (Nat × Entry) :=
  sortBy (·.1) (m.filterMap fun e => match e.location with
    | some d => if d.band = band then some (d.index, e) else none
    | none => none)

/-- The part of a VALID entry that lies on data indexes lo to hi: data index, LSA and length. -/
def onTrack (lo hi : Nat) (x : Nat × Entry) : Option (Nat × Nat × Nat) :=
  let a := max lo x.1
  let b := min hi (x.1 + x.2.length)
  if a < b then some (a, x.2.start + (a - x.1), b - a) else none

/-- R124: a part cut into read pieces of at most 256 sectors counted from its first sector. -/
def cutPieces : Nat → Nat × Nat × Nat → List (Nat × Nat × Nat)
  | 0, _ => []
  | n + 1, (d, x, len) =>
    if len = 0 then [] else if len ≤ 256 then [(d, x, len)] else (d, x, 256) :: cutPieces n (d + 256, x + 256, len - 256)

/-- The read pieces of a band's track with n data sectors a track (R124): data index, LSA and length, ascending. -/
def readPieces (m : List Entry) (band track n : Nat) : List (Nat × Nat × Nat) :=
  ((bandIndex m band).filterMap (onTrack (track * n) (track * n + n))).flatMap fun p => cutPieces (p.2.2 + 1) p

/-- R129: the lowest track at or above the cursor on which a VALID entry of the band lies. -/
def nextLiveTrack (m : List Entry) (band n cursor : Nat) : Option Nat :=
  (bandIndex m band).foldl (fun acc x =>
    let t := max cursor (x.1 / n)
    if n * t < x.1 + x.2.length && 0 < n then
      (match acc with
       | none => some t
       | some u => some (min u t))
    else acc) none

end Sys2Proof.Machine
end

