-- ==== Sys2Proof/Machine/Operands.lean ====
section
/-! DEFINITION. The layouts of chapter 12 (R180 to R183): the byte order, the check value, the reading of link frames, and the
bytes of what the part sends. -/

namespace Sys2Proof.Machine

/-! ### Bytes and the check value -/

/-- A number from its bytes, least significant first (R180). -/
def leNat : List Byte → Nat
  | [] => 0
  | b :: rest => b.toNat + 256 * leNat rest

/-- The n low bytes of a number, least significant first (R180). -/
def leBytes : Nat → Nat → List Byte
  | 0, _ => []
  | n + 1, v => BitVec.ofNat 8 v :: leBytes n (v / 256)

/-- The field of n bytes at an offset (R180); bytes beyond the end are absent and count 0. -/
def fieldAt (bytes : List Byte) (offset n : Nat) : Nat :=
  leNat ((bytes.drop offset).take n)

/-- One bit of the remainder: the generator 0x1EDC6F41 with its bits in the order they are taken (R181). -/
def checkBit (r : BitVec 32) : BitVec 32 :=
  if r.getLsbD 0 then (r >>> 1) ^^^ 0x82F63B78#32 else r >>> 1

/-- One byte, least significant bit first (R181). -/
def checkByte (r : BitVec 32) (b : Byte) : BitVec 32 :=
  let r := r ^^^ b.setWidth 32
  checkBit (checkBit (checkBit (checkBit (checkBit (checkBit (checkBit (checkBit r)))))))

/-- The check value of bytes (R181): the register starts at all ones and is complemented at the end. PRESUMED, unsafe (log 21):
the remainder is sent in the bit order in which it was taken, as CRC-32C is. -/
def checkValue (bytes : List Byte) : BitVec 32 :=
  ~~~ (bytes.foldl checkByte (BitVec.allOnes 32))

/-- Bytes followed by their check value (R181). -/
def withCheck (bytes : List Byte) : List Byte :=
  bytes ++ leBytes 4 (checkValue bytes).toNat

/-- The last four bytes are the check value of those before (R181). -/
def checkRight (bytes : List Byte) : Bool :=
  4 ≤ bytes.length &&
    leNat (bytes.drop (bytes.length - 4)) == (checkValue (bytes.take (bytes.length - 4))).toNat

/-! ### Inbound frames -/

/-- R180's interval records of 17 bytes. -/
def readIntervals : Nat → List Byte → List Interval
  | 0, _ => []
  | m + 1, bs => ⟨fieldAt bs 0 8, fieldAt bs 8 8, fieldAt bs 16 1⟩ :: readIntervals m (bs.drop 17)

/-- R180's layout ranges of 9 bytes. -/
def readRanges : Nat → List Byte → List LayoutRange
  | 0, _ => []
  | k + 1, bs => ⟨fieldAt bs 0 4, fieldAt bs 4 4, fieldAt bs 8 1⟩ :: readRanges k (bs.drop 9)

def readDepths : Nat → List Byte → List Nat
  | 0, _ => []
  | k + 1, bs => fieldAt bs 0 4 :: readDepths k (bs.drop 4)

/-- A value read from bytes of exactly the item's length, none for another length (R182). -/
def ofLength {α : Type} (n : Nat) (bs : List Byte) (v : α) : Option α :=
  if bs.length = n then some v else none

/-- The Set items of R180, by code; the value's length is the owner's check (R182). -/
def readSet (item : Nat) (v : List Byte) : Request :=
  match item with
  | 1 => .setQueueDivision (if v.length = 64 then readDepths 16 v else [])
  | 2 => .setQueueThresholds (ofLength 7 v (fieldAt v 0 1, fieldAt v 1 4, fieldAt v 5 2))
  | 3 => .setIntervals (if 2 ≤ v.length then
      ofLength (2 + 17 * fieldAt v 1 1) v (fieldAt v 0 1, readIntervals (fieldAt v 1 1) (v.drop 2)) else none)
  | 4 => .setSpaceMarks (ofLength 3 v (fieldAt v 0 1, fieldAt v 1 1, fieldAt v 2 1))
  | 5 => .setLinkMode (ofLength 1 v (fieldAt v 0 1))
  | 6 => .setErrorScope (ofLength 2 v (fieldAt v 0 1, fieldAt v 1 1))
  | 7 => .setNoticeEnables (ofLength 3 v (fieldAt v 0 1, fieldAt v 1 2))
  | 8 => .setOrderLimit (ofLength 2 v (fieldAt v 0 2))
  | 9 => .setClearPendingNotices (ofLength 3 v (fieldAt v 0 1, fieldAt v 1 2))
  | _ => .unknown 7

/-- The Query items of R180, by code. An item that takes no argument holds 0 there; another argument is out of its range
(R182) and answered INVALID (log 6). -/
def readQuery (item arg : Nat) : Request :=
  match item with
  | 1 => .queryBandRecord arg
  | 2 => .queryQueueRecord arg
  | 3 => .queryMapLookup arg
  | 4 => if arg = 0 then .queryCounts else .unknown 8
  | 5 => if arg = 0 then .queryMediaAndSpindleState else .unknown 8
  | 6 => if arg = 0 then .queryRelocationState else .unknown 8
  | 7 => if arg = 0 then .queryLinkStatesAndTableUse else .unknown 8
  | 8 => .queryProfileRecord arg
  | 9 => .querySetting arg
  | _ => .unknown 8

/-- The argument length a kind calls for, from the arguments' own bytes where R180's table makes it depend on them; none where
the header cannot be read (R182). -/
def argumentLength (kind : Nat) (args : List Byte) (n : Nat) : Option Nat :=
  match kind with
  | 1 => some 11
  | 2 => some 10
  | 3 => some 16
  | 4 => some 1
  | 5 => some 1
  | 6 => some 4
  | 7 => if 1 ≤ n then some n else none
  | 8 => some 9
  | 9 => some 5
  | 10 => if 13 ≤ args.length ∧ 1 ≤ fieldAt args 12 1 ∧ fieldAt args 12 1 ≤ 8 then some (13 + 9 * fieldAt args 12 1) else none
  | 11 => some 6
  | 12 => some 0
  | 13 => some 1
  | 14 => some 2
  | 15 => some 0
  | _ => none

/-- The request of a kind code and arguments of the right length (R180). -/
def readRequest (kind : Nat) (a : List Byte) : Request :=
  match kind with
  | 1 => .put (fieldAt a 0 8) (fieldAt a 8 2) (fieldAt a 10 1)
  | 2 => .get (fieldAt a 0 8) (fieldAt a 8 2)
  | 3 => .trim (fieldAt a 0 8) (fieldAt a 8 8)
  | 4 => .flush (fieldAt a 0 1)
  | 5 => .select (fieldAt a 0 1)
  | 6 => .clean (fieldAt a 0 4)
  | 7 => readSet (fieldAt a 0 1) (a.drop 1)
  | 8 => readQuery (fieldAt a 0 1) (fieldAt a 1 8)
  | 9 => .loadProfile (fieldAt a 0 1) (fieldAt a 1 2) (fieldAt a 3 1) (fieldAt a 4 1)
  | 10 => .format (fieldAt a 0 8) (fieldAt a 8 4) (readRanges (fieldAt a 12 1) (a.drop 13))
  | 11 => .quiesce (fieldAt a 0 1) (fieldAt a 1 1) (fieldAt a 2 4)
  | 12 => .wake
  | 13 => .reset (fieldAt a 0 1)
  | 14 => match fieldAt a 1 1 with
    | 0 => .hold (fieldAt a 0 1)
    | 1 => .release (fieldAt a 0 1)
    | _ => .unknown 14
  | 15 => .mediaRestart
  | k => .unknown k

/-- A frame with a good check value, read as R182 lays down. A frame too short to hold a kind and a tag beside its check value is
answered under what its bytes 1 to 3 are, bytes of the check value or 0 where there is none (log 32). A data frame too short for its fields has the missing ones 0 and no
data, and is discarded for its length. -/
def readFrame (bytes : List Byte) : InFrame :=
  let tag : Tag := BitVec.ofNat 16 (fieldAt bytes 2 2)
  let kind := fieldAt bytes 1 1
  match fieldAt bytes 0 1 with
  | 3 => .data { tag := tag, status := fieldAt bytes 1 1, offset := fieldAt bytes 4 2, flags := fieldAt bytes 6 1,
                 origin := fieldAt bytes 7 1, data := (bytes.drop 8).take (bytes.length - 12) }
  | 1 =>
    let n := fieldAt bytes 4 2
    let args := (bytes.drop 8).take n
    if 12 ≤ bytes.length ∧ fieldAt bytes 6 2 = 0 ∧ bytes.length = 12 + n ∧ argumentLength kind args n = some n then
      .request tag (readRequest kind args)
    else .malformed kind tag
  | _ => .malformed kind tag

/-- The kind code of a request (R180). -/
def Request.kind : Request → Nat
  | .put _ _ _ => 1
  | .get _ _ => 2
  | .trim _ _ => 3
  | .flush _ => 4
  | .select _ => 5
  | .clean _ => 6
  | .setQueueDivision _ => 7
  | .setQueueThresholds _ => 7
  | .setIntervals _ => 7
  | .setSpaceMarks _ => 7
  | .setLinkMode _ => 7
  | .setErrorScope _ => 7
  | .setNoticeEnables _ => 7
  | .setOrderLimit _ => 7
  | .setClearPendingNotices _ => 7
  | .queryBandRecord _ => 8
  | .queryQueueRecord _ => 8
  | .queryMapLookup _ => 8
  | .queryCounts => 8
  | .queryMediaAndSpindleState => 8
  | .queryRelocationState => 8
  | .queryLinkStatesAndTableUse => 8
  | .queryProfileRecord _ => 8
  | .querySetting _ => 8
  | .loadProfile _ _ _ _ => 9
  | .format _ _ _ => 10
  | .quiesce _ _ _ => 11
  | .wake => 12
  | .reset _ => 13
  | .hold _ => 14
  | .release _ => 14
  | .mediaRestart => 15
  | .unknown kind => kind

/-! ### Codes -/

/-- The status codes, in the order of R162's table from 0 (R180). -/
def Status.code : Status → Nat
  | .ok => 0 | .partial_ => 1 | .full => 2 | .poolEmpty => 3 | .mapFull => 4 | .range => 5 | .invalid => 6 | .busy => 7
  | .state => 8 | .tagInUse => 9 | .mode => 10 | .asleep => 11 | .notIdle => 12 | .mediaError => 13 | .mediaDown => 14
  | .aborted => 15 | .unformatted => 16 | .starting => 17 | .malformed => 18 | .inUse => 19 | .failed => 20 | .rejected => 21

def SectorStatus.code : SectorStatus → Nat
  | .ok => 0 | .unwritten => 1 | .lost => 2 | .mediaError => 3

/-- Notice kinds are numbered 1 to 10 in the priority order of R168 (R180). -/
def Notice.code : Notice → Nat
  | .mediaDown => 1 | .mediaRecovering => 2 | .peerLink => 3 | .dataLost => 4 | .spaceLow => 5 | .mapLow => 6 | .poolLow => 7
  | .queueAlmostFull => 8 | .wake => 9 | .relocationDone => 10

/-- The kinds of a set: kind k has the value 2^(k-1) (R180). -/
def noticesOf (set : Nat) : List Notice :=
  Notice.all.filter fun k => set.testBit (k.code - 1)

def noticeSet (ks : List Notice) : Nat :=
  (ks.map fun k => 2 ^ (k.code - 1)).sum

def bit (b : Bool) : Nat := if b then 1 else 0

/-- States are coded by their order in their rule's table, from 0 (R180). -/
def FormatState.code : FormatState → Nat
  | .unformatted => 0 | .formatting => 1 | .formatted => 2

def ProfileState.code : ProfileState → Nat
  | .unset => 0 | .updating => 1 | .active => 2

def BandState.code : BandState → Nat
  | .free => 0 | .opened => 1 | .closed => 2 | .full => 3 | .cleaning => 4 | .retired => 5

/-- The prior state's own order in R9: FULL, CLOSED. -/
def priorCode : BandState → Nat
  | .full => 0
  | _ => 1

def LinkState.code : LinkState → Nat
  | .held => 0 | .ready => 1 | .running => 2 | .error => 3

def HoldTimer.code : HoldTimer → Nat
  | .stopped => 0 | .running _ => 1 | .expired => 2

def StallReason.code : StallReason → Nat
  | .media => 0 | .spindle => 1 | .ending => 2 | .space => 3 | .pool => 4 | .none => 5

def PathState.code : PathState → Nat
  | .offline => 0 | .ready => 1 | .recovering => 2 | .down => 3

def SpindleState.code : SpindleState → Nat
  | .spinning => 0 | .parking => 1 | .parked => 2 | .stopping => 3 | .stopped => 4 | .starting => 5

def Rest.code : Rest → Nat
  | .parked => 0 | .stopped => 1

/-- GET 1, PLACE 2, TIMER 4, summed (R180). -/
def ReleaseSet.code (r : ReleaseSet) : Nat := bit r.get + 2 * bit r.place + 4 * bit r.timer

def EngineState.code : EngineState → Nat
  | .idle => 0 | .selecting => 1 | .reading => 2 | .draining => 3

def RunKind.code : RunKind → Nat
  | .auto => 0 | .single => 1

def HandPhase.code : HandPhase → Nat
  | .gate => 0 | .presented => 1 | .inWindow => 2 | .records => 3

def ReadStage.code : ReadStage → Nat
  | .initial => 0 | .reread => 1

/-- The order kinds of R180. -/
def Motion.code : Motion → Nat
  | .park => 4 | .unpark => 5 | .spinDown => 6 | .spinUp => 7

def Order.code : Order → Nat
  | .write _ => 1
  | .read _ => 2
  | .geometry _ => 3
  | .motion m => m.code

/-! ### What the part sends -/

/-- A field that may be absent is preceded by one byte, and followed by nothing more where it is absent (R180). -/
def Field.bytes : Field → List Byte
  | .num n v => leBytes n v
  | .opt _ none => [0]
  | .opt n (some v) => 1 :: leBytes n v
  | .parts none => [0]
  | .parts (some ps) => 1 :: ps.flatMap fun p => leBytes p.1 p.2

/-- A response's result (R180). The sequence of a refused Put is a free value (log 15), which is handed in. -/
def Result.bytes (refused : Nat) : Result → List Byte
  | .none => []
  | .put seq queue almostFull =>
      leBytes 6 (seq.getD refused) ++ leBytes 1 queue ++ leBytes 1 (bit almostFull)
  | .trim seq => leBytes 6 seq
  | .record fields => fields.flatMap Field.bytes

/-- A response or data frame as it goes on the link (R180). -/
def OutFrame.bytes (f : OutFrame) : List Byte :=
  let origin := if f.redirected then f.origin.code else 0
  match f.body with
  | .response kind status result =>
      let bytes := result.bytes (Config.refusedPutSequence f.origin.code f.tag.toNat)
      withCheck (leBytes 1 2 ++ leBytes 1 kind ++ leBytes 2 f.tag.toNat ++ leBytes 1 status.code ++ leBytes 1 (bit f.redirected)
        ++ leBytes 1 origin ++ leBytes 1 0 ++ leBytes 2 bytes.length ++ bytes)
  | .data status offset data =>
      withCheck (leBytes 1 3 ++ leBytes 1 status.code ++ leBytes 2 f.tag.toNat ++ leBytes 2 offset ++ leBytes 1 (bit f.redirected)
        ++ leBytes 1 origin ++ data)

/-- A notice frame (R180). -/
def PendingNotice.bytes (n : PendingNotice) : List Byte :=
  withCheck (leBytes 1 4 ++ leBytes 1 n.kind.code ++ leBytes 1 (bit n.repeated) ++ leBytes 1 0 ++ leBytes 8 n.detail)

/-- A piece record of a footer (R78, R180). -/
def Piece.footerBytes (p : Piece) : List Byte :=
  leBytes 5 p.lsa ++ leBytes 2 p.length ++ leBytes 2 p.offset ++ leBytes 6 p.sequence ++ leBytes 1 (bit p.reloc)
    ++ leBytes 3 ((p.source.map (·.band)).getD 0) ++ leBytes 3 ((p.source.map (·.index)).getD 0)

/-- The footer of a write order (R78, R180). -/
def WriteOrder.footer (w : WriteOrder) : Sector :=
  let front := leBytes 4 w.band ++ leBytes 2 w.generation ++ leBytes 1 w.track ++ leBytes 1 w.profile
    ++ leBytes 2 w.pieces.length ++ leBytes 6 0 ++ w.pieces.flatMap Piece.footerBytes
  withCheck (front ++ List.replicate (4092 - front.length) 0)

/-- The sectors a WRITE TRACK carries for positions 0 to S-1 (R92): the pieces in offset order, padding (log 16) and the
footer. -/
def WriteOrder.sectors (w : WriteOrder) (s : Nat) : List Sector :=
  let data := w.pieces.flatMap fun p => p.stretches.flatMap (·.data)
  data ++ (List.range (s - 1 - data.length)).map (fun i => Config.paddingSector w.band w.generation w.track (data.length + i))
    ++ [w.footer]

/-- An order record (R180). -/
def Order.bytes (o : Order) : List Byte :=
  let record (profile band track verify first count s t : Nat) : List Byte :=
    withCheck (leBytes 1 o.code ++ leBytes 1 profile ++ leBytes 4 band ++ leBytes 1 track ++ leBytes 1 verify ++ leBytes 2 first
      ++ leBytes 2 count ++ leBytes 2 s ++ leBytes 1 t ++ leBytes 1 0)
  match o with
  | .write w => record w.profile w.band w.track (bit w.verify) 0 0 0 0
  | .read r => record r.profile r.band r.track 0 r.first r.count 0 0
  | .geometry g => record g.profile 0 0 0 0 0 g.sectors g.tracks
  | .motion _ => record 0 0 0 0 0 0 0 0

/-! ### Inbound media records -/

/-- The bytes a completion record's check value covers (R180). -/
def completionBytes (kind : Nat) (c : Completion) : List Byte :=
  leBytes 1 kind ++ leBytes 1 c.status ++ leBytes 2 c.unreadable.length ++ c.unreadable.flatMap (leBytes 2)

/-- The bytes a sector delivery record's check value covers (R180). -/
def deliveryBytes (sector : Nat) (data : Sector) : List Byte :=
  leBytes 2 sector ++ data

/-- A list is strictly ascending (R183). -/
def ascending : List Nat → Bool
  | [] => true
  | [_] => true
  | a :: b :: rest => a < b && ascending (b :: rest)

/-! ### Footers read at start-up -/

/-- A piece record of a footer. -/
structure FooterPiece where
  lsa : Nat
  length : Nat
  offset : Nat
  sequence : Nat
  kind : Nat
  source : Location
deriving DecidableEq, Repr

/-- The piece records of a footer (R180). -/
def readFooterPieces : Nat → List Byte → List FooterPiece
  | 0, _ => []
  | n + 1, bs =>
    { lsa := fieldAt bs 0 5, length := fieldAt bs 5 2, offset := fieldAt bs 7 2, sequence := fieldAt bs 9 6,
      kind := fieldAt bs 15 1, source := ⟨fieldAt bs 16 3, fieldAt bs 19 3⟩ } :: readFooterPieces n (bs.drop 22)

/-- The pieces of an intact footer (R178 and the footer's layout): its check value is right, it names this band, generation,
track and profile, its piece count is 1 to 160, and every piece fits the track and is HOST or RELOC. -/
def intactFooter (footer : Sector) (band generation track profile sectors : Nat) : Option (List FooterPiece) :=
  let count := fieldAt footer 8 2
  let pieces := readFooterPieces count (footer.drop 16)
  if footer.length = 4096 ∧ checkRight footer ∧ fieldAt footer 0 4 = band ∧ fieldAt footer 4 2 = generation
      ∧ fieldAt footer 6 1 = track ∧ fieldAt footer 7 1 = profile ∧ 1 ≤ count ∧ count ≤ Config.maxPieces
      ∧ pieces.all (fun p => p.offset + p.length ≤ sectors - 1 && p.kind ≤ 1) then some pieces
  else none

end Sys2Proof.Machine
end

