-- ==== Sys2Proof/Machine/Ops.lean ====
section
/-! DEFINITION. The named operations every meaning is made of: reading and changing ports, queues, slots, bands, profiles, the
map, the Request Table and the notice sets; answering a request; claiming and releasing pending reads. -/

namespace Sys2Proof.Machine

/-! ### Ports -/

def State.port (s : State) : Link → Port
  | .a => s.portA
  | .b => s.portB

def State.setPort (s : State) (l : Link) (p : Port) : State :=
  match l with
  | .a => { s with portA := p }
  | .b => { s with portB := p }

def State.modPort (s : State) (l : Link) (f : Port → Port) : State := s.setPort l (f (s.port l))

/-! ### Queues and slots -/

def State.queue (s : State) (q : Fin 16) : Queue := s.queues[q]

def State.modQueue (s : State) (q : Fin 16) (f : Queue → Queue) : State :=
  { s with queues := s.queues.set q (f s.queues[q]) }

def State.mapQueues (s : State) (f : Fin 16 → Queue → Queue) : State :=
  { s with queues := Vector.ofFn fun q => f q s.queues[q] }

/-- Q0 to Q15, and the host queues Q0 to Q14 (R54). -/
def allQueues : List (Fin 16) := [0, 1, 2, 3, 4, 5, 6, 7, 8, 9, 10, 11, 12, 13, 14, 15]
def hostQueues : List (Fin 16) := [0, 1, 2, 3, 4, 5, 6, 7, 8, 9, 10, 11, 12, 13, 14]

def State.slot (s : State) (i : Fin 16) : FetchSlot := s.slots[i]

def State.modSlot (s : State) (i : Fin 16) (f : FetchSlot → FetchSlot) : State :=
  { s with slots := s.slots.set i (f s.slots[i]) }

def State.mapSlots (s : State) (f : Fin 16 → FetchSlot → FetchSlot) : State :=
  { s with slots := Vector.ofFn fun i => f i s.slots[i] }

/-! ### Bands and profiles -/

def State.modBand (s : State) (b : Nat) (f : Band → Band) : State := { s with bands := s.bands.modify b f }

def State.mapBands (s : State) (f : Band → Band) : State := { s with bands := s.bands.map f }

def State.profile (s : State) (n : Nat) : Profile := s.profiles.toList.getD n Profile.blank

def State.modProfile (s : State) (n : Nat) (f : Profile → Profile) : State :=
  if h : n < 8 then { s with profiles := s.profiles.set n (f s.profiles[n]) } else s

/-- The S, T and verify a band is written and read under: its profile's (R1, R2). -/
def State.shapeOf (s : State) (b : Nat) : Shape :=
  ((s.bands[b]?).bind fun r => (s.profile r.profile).shape).getD ⟨0, 0, false⟩

/-- Data sectors per track of a band, S - 1 (R1). -/
def State.trackData (s : State) (b : Nat) : Nat := (s.shapeOf b).sectors - 1

/-- The count of FREE bands (R9). -/
def State.freeBands (s : State) : Nat := s.bands.countP fun b => b.state == .free

/-! ### The window's orders, the pool and the map -/

def Order.write? : Order → Option WriteOrder
  | .write w => some w
  | _ => none

/-- The write orders in flight, oldest first (R77). -/
def State.writeOrders (s : State) : List WriteOrder := s.window.filterMap Order.write?

/-- The fragment records a write order holds: one for each stretch (R65, R77). -/
def WriteOrder.records (w : WriteOrder) : Nat := (w.pieces.map (·.stretches.length)).sum

/-- Change every write order in flight. -/
def State.mapWrites (s : State) (f : WriteOrder → WriteOrder) : State :=
  { s with window := s.window.map fun o => match o with
    | .write w => .write (f w)
    | o => o }

/-- Fragment records in use: in the queues and in write orders in flight (R44, R45). -/
def State.inUse (s : State) : Nat :=
  (allQueues.map fun q => (s.queue q).records.length).sum + (s.writeOrders.map (·.records)).sum

/-- Free pool records (R45). -/
def State.poolFree (s : State) : Nat := Config.poolSize - s.inUse

/-- Free and reserved map entries and the headroom (R35). -/
def State.freeEntries (s : State) : Nat := Config.mapCapacity - s.map.length
def State.reservedEntries (s : State) : Nat := 2 * s.inUse
def State.headroom (s : State) : Nat := s.freeEntries - s.reservedEntries

/-- The headroom while records beside those of the queues and the window are in use. -/
def State.headroomBeside (s : State) (held : Nat) : Nat := s.freeEntries - 2 * (s.inUse + held)

/-- A change of the map with the band valid counts that follow from it, as one change (R21, R34). -/
def State.setMap (s : State) (m : List Entry) : State :=
  { s with map := m, bands := s.bands.mapIdx fun i b => { b with valid := validOf m i } }

/-! ### Notices -/

/-- A raise of a kind in a pending set (R167), kept in priority order. -/
def raiseIn (k : Notice) (detail : Nat) : List PendingNotice → List PendingNotice
  | [] => [⟨k, detail, false⟩]
  | n :: rest =>
    if n.kind = k then { n with repeated := true } :: rest
    else if k.code < n.kind.code then ⟨k, detail, false⟩ :: n :: rest
    else n :: raiseIn k detail rest

/-- A raise on one link (R167). -/
def State.raise (s : State) (l : Link) (k : Notice) (detail : Nat) : State :=
  s.modPort l fun p => { p with pending := raiseIn k detail p.pending }

/-- A raise on both links: one in each pending set (R167). -/
def State.raiseBoth (s : State) (k : Notice) (detail : Nat) : State := (s.raise .a k detail).raise .b k detail

/-- R39: a change that moves the headroom from one value to another raises MAP_LOW where it falls across the line. -/
def State.noteHeadroom (s : State) (before after : Nat) : State :=
  if Config.mapLowLine ≤ before ∧ after < Config.mapLowLine then s.raiseBoth .mapLow after else s

/-- R45: the same of the free pool records and POOL_LOW. -/
def State.notePool (s : State) (before after : Nat) : State :=
  if Config.poolLowLine ≤ before ∧ after < Config.poolLowLine then s.raiseBoth .poolLow after else s

/-- R39, R45: a change from old that may claim pool records or grow the map has been made. -/
def State.noteFalls (s old : State) : State :=
  (s.noteHeadroom old.headroom s.headroom).notePool old.poolFree s.poolFree

/-! ### Requests and answers -/

def ReqEntry.has (e : ReqEntry) (k : Key) : Bool := e.key == k

def State.entry (s : State) (k : Key) : Option ReqEntry := s.table.find? (·.has k)

def State.modEntry (s : State) (k : Key) (f : ReqEntry → ReqEntry) : State :=
  { s with table := s.table.map fun e => if e.has k then f e else e }

def State.dropEntry (s : State) (k : Key) : State := { s with table := s.table.filter fun e => !e.has k }

/-- The kind code of an entry's request (R180). -/
def EntryInfo.kind : EntryInfo → Nat
  | .put _ => 1
  | .get => 2
  | .patternGet _ _ _ => 2
  | .flush => 4
  | .clean => 6
  | .loadProfile => 9
  | .format => 10
  | .quiesce => 11
  | .wake => 12
  | .mediaRestart => 15

/-- The entry of a Get on a link in PATTERN mode (R123). -/
def EntryInfo.isPattern : EntryInfo → Bool
  | .patternGet _ _ _ => true
  | _ => false

/-- The entry of a Get. -/
def EntryInfo.isGet (i : EntryInfo) : Bool := i == .get || i.isPattern

/-- A frame joins a transmit queue (R150). -/
def State.pushFrame (s : State) (l : Link) (f : OutFrame) : State := s.modPort l fun p => { p with txq := p.txq ++ [f] }

/-- The answer of a request answered at its taking: it keeps the receive slot and the tag until it is sent (R149, R160). -/
def State.answerNow (s : State) (k : Key) (kind : Nat) (status : Status) (result : Result) : State :=
  s.pushFrame k.origin
    { tag := k.tag, origin := k.origin, redirected := false, holds := .slotAndTag, body := .response kind status result }

/-- The final response of a request that holds a Request Table entry (R162): it joins the transmit queue of the reply link, or
is discarded with the entry released (R153, R156). A request already answered gets no second response. -/
def State.answerEntry (s : State) (k : Key) (status : Status) (result : Result) : State :=
  match s.entry k with
  | none => s
  | some e =>
    if e.answered then s
    else if e.discarded then s.dropEntry k
    else
      (s.modEntry k fun e => { e with answered := true }).pushFrame e.reply
        { tag := k.tag, origin := k.origin, redirected := e.redirected, holds := .entry,
          body := .response e.info.kind status result }

def State.answerAll (s : State) (ks : List Key) (status : Status) : State :=
  ks.foldl (fun s k => s.answerEntry k status .none) s

/-- The taking of a frame that keeps no slot is finished: the slot is free and one CREDIT unit is sent (R149). -/
def State.freeSlot (s : State) (l : Link) : State := s.modPort l fun p => { p with creditsGranted := p.creditsGranted + 1 }

/-- A request passed to its owner that waits for a later event holds an entry (R158), and its receive slot is free (R149). -/
def State.enterTable (s : State) (k : Key) (info : EntryInfo) : State :=
  State.freeSlot { s with table := s.table ++
      [{ key := k, reply := k.origin, redirected := false, discarded := false, answered := false, info := info }] } k.origin

/-- The entry of a Put not answered yet. -/
def State.putInfo (s : State) (k : Key) : Option PutInfo :=
  (s.entry k).bind fun e => match e.info with
    | .put p => if e.answered then none else some p
    | _ => none

def EntryInfo.modPut (f : PutInfo → PutInfo) : EntryInfo → EntryInfo
  | .put p => .put (f p)
  | i => i

def State.modPut (s : State) (k : Key) (f : PutInfo → PutInfo) : State :=
  s.modEntry k fun e => { e with info := e.info.modPut f }

/-- R158: MEDIA_ERROR is kept once set. -/
def Outcome.record (o new : Outcome) : Outcome := if o = .mediaError then .mediaError else new

/-! ### Pending reads -/

/-- A claim is granted when it leaves the count at 32 or less (R15). -/
def State.claimable (s : State) (b n : Nat) : Bool :=
  (s.bands[b]?).any fun r => r.pendingReads + n ≤ Config.maxPendingReads

def State.claimRead (s : State) (b : Nat) : State := s.modBand b fun r => { r with pendingReads := r.pendingReads + 1 }

/-- A release of a pending read (R15); a relocation read that waits for one on its victim is presented again (R130). -/
def State.releaseRead (s : State) (b : Nat) : State :=
  let s := s.modBand b fun r => { r with pendingReads := r.pendingReads - 1 }
  if s.engine.victim = some b then
    { s with engine := { s.engine with hand := s.engine.hand.map fun h => { h with claimWait := false } } }
  else s

/-- R14: the suspect flag is set in any state except FREE and RETIRED. -/
def State.setSuspect (s : State) (b : Nat) : State :=
  s.modBand b fun r => if r.state = .free ∨ r.state = .retired then r else { r with suspect := true }

/-! ### The window -/

/-- The limit of an order's deadline (R99). -/
def State.limitOf (s : State) : Order → Nat
  | .write _ => s.orderLimit
  | .read _ => s.orderLimit
  | .geometry _ => Config.shortLimit
  | .motion .park => Config.shortLimit
  | .motion .spinDown => Config.shortLimit
  | .motion .unpark => Config.spinLimit
  | .motion .spinUp => Config.spinLimit

/-- The deadline of the order that has just become the oldest starts, or none runs (R99). -/
def State.startDeadline (s : State) : State := { s with deadline := s.window.head?.map s.limitOf }

/-- An order takes the slot after the last occupied one (R89). -/
def State.issue (s : State) (o : Order) : State :=
  if s.window.isEmpty then State.startDeadline { s with window := [o] } else { s with window := s.window ++ [o] }

/-- One of the orders a reset waits for has left the window (R171). -/
def State.orderLeft (s : State) : State := { s with resetWaits := s.resetWaits.map (· - 1) }

end Sys2Proof.Machine
end

