-- ==== Sys2Proof/Machine/Flags.lean ====
section
/-! DEFINITION. What follows from the records at any moment: the format state in force, occupancy and fill state, complete data,
track size, readiness, stall reasons, space emergency, relocation candidates. -/

namespace Sys2Proof.Machine

/-! ### Format and service -/

/-- The format state as the part stands: until start-up has looked for the format mark, none has been found (R166, R177). -/
def State.formatNow (s : State) : FormatState := if s.stage = .held then .unformatted else s.format

/-- L, or 2^36 while no layout is in force (R49, R62, R109). -/
def State.logical (s : State) : Nat :=
  if s.formatNow = .formatted then (s.layout.map (·.logical)).getD Config.maxLogical else Config.maxLogical

/-- The answer of a request that needs the part FORMATTED and in service (R49 check 2, R62, R109, R127, R139). -/
def State.serviceRefusal (s : State) : Option Status :=
  if s.service = .starting then some .starting
  else match s.formatNow with
    | .formatted => none
    | .formatting => some .busy
    | .unformatted => some .unformatted

/-- A level 1 or level 2 reset is in progress (R171). -/
def State.resetting (s : State) : Bool := s.resetWaits.isSome

/-! ### Queues -/

/-- Sectors of a piece not void (R55, R65). -/
def Piece.sectors (p : Piece) : Nat := (p.stretches.map (·.length)).sum

def WriteOrder.liveSectors (w : WriteOrder) : Nat := (w.pieces.map (·.sectors)).sum

/-- The write orders in flight built from a queue. -/
def State.ordersOf (s : State) (q : Fin 16) : List WriteOrder := s.writeOrders.filter fun w => w.queue == q

/-- Occupancy: the lengths of the records and the non-void sectors in flight (R55). -/
def State.occupancy (s : State) (q : Fin 16) : Nat :=
  ((s.queue q).records.map (·.length)).sum + ((s.ordersOf q).map (·.liveSectors)).sum

/-- Free space: depth minus occupancy (R49). -/
def State.space (s : State) (q : Fin 16) : Nat := (s.queue q).depth - s.occupancy q

/-- The fill state worked out is ALMOST_FULL (R58); Q15 is always NORMAL (R57). -/
def State.fillsUp (s : State) (q : Fin 16) : Bool := q.val < 15 && s.space q ≤ (s.queue q).offset

/-- What a fill state is worked out from (R58). -/
def State.fillOf (s : State) (q : Fin 16) : Nat × Nat × Nat := (s.occupancy q, (s.queue q).offset, (s.queue q).depth)

/-- The complete records from the head (R54). -/
def headRecords (rs : List Fragment) : List Fragment := rs.takeWhile fun r => r.filling == 0

/-- The complete data at the head (R54); for Q15 the RELOC records' lengths (R69). -/
def State.completeData (s : State) (q : Fin 16) : Nat :=
  if q.val < 15 then ((headRecords (s.queue q).records).map (·.length)).sum
  else (((s.queue q).records.filter fun r => r.kind == .reloc).map (·.length)).sum

/-- The OPEN band a queue is bound to (R9, R10). After a level 0 reset there is none until the part is in service (R87): an OPEN
band of the time before keeps its record until start-up closes it. While FORMATTING it is read from the Band Table of before the Format
(log 50). -/
def State.boundBand (s : State) (q : Fin 16) : Option Nat :=
  if s.service = .starting then none else s.bands.findIdx? fun r => r.state == .opened && r.queue == some q

/-- The lowest-numbered FREE band whose profile is ACTIVE (R10). -/
def State.eligibleBand (s : State) : Option Nat :=
  s.bands.findIdx? fun r => r.state == .free && (s.profile r.profile).state == .active

/-- The band a request of a queue is granted (R10). -/
def State.grantable (s : State) (q : Fin 16) : Option Nat :=
  if q.val < 15 && s.freeBands ≤ s.marks.reserve then none else s.eligibleBand

/-- A queue's track size (R59). -/
def State.trackSize (s : State) (q : Fin 16) : Nat :=
  match s.boundBand q with
  | some b => s.trackData b
  | none => match s.grantable q with
    | some b => s.trackData b
    | none => 1023

/-- A queue's drain set holds a record or a piece (R60). -/
def State.draining (s : State) (q : Fin 16) : Bool :=
  (s.queue q).records.any (·.drain) ||
    (s.ordersOf q).any fun w => w.pieces.any fun p => p.drain && !p.stretches.isEmpty

/-- A complete record stands at the head. -/
def headComplete (rs : List Fragment) : Bool := (rs.head?).any fun r => r.filling == 0

/-- A drain mark is set and complete data stands at the head ahead of it (R60, R68): the mark stands behind the last record of
the drain set still in the queue. A piece taken from behind the mark and returned to the head stands ahead of the mark while such a
record is in the queue, and not where the drain set is in flight alone (log 44). -/
def State.aheadOfMark (s : State) (q : Fin 16) : Bool :=
  (s.queue q).mark && headComplete (s.queue q).records && (s.queue q).records.any (·.drain)

/-- The engine holds a track read that waits for Q15 free space or for pool records (R69). -/
def Engine.handWaits (e : Engine) : Bool :=
  e.state == .reading && e.hand.any fun h => h.phase == .gate || h.phase == .records

/-- A queue is ready for a write order (R68, R69). -/
def State.ready (s : State) (q : Fin 16) : Bool :=
  if q.val < 15 then
    headComplete (s.queue q).records &&
      (s.trackSize q ≤ s.completeData q || s.aheadOfMark q || (s.queue q).timer == .expired)
  else
    (s.queue q).records.any (fun r => r.kind == .reloc) &&
      (s.trackSize q ≤ s.completeData q || s.engine.state != .reading || s.engine.handWaits)

/-- PLACE is in the release set of the Quiesce in force; while SPINNING the set is absent (R138). -/
def State.placeReleases (s : State) : Bool := s.spindle.release.any (·.place)

/-- GET is in the release set of the Quiesce in force. -/
def State.getReleases (s : State) : Bool := s.spindle.release.any (·.get)

/-- The stall reason of a queue: the first row of R70's table that holds. -/
def State.stallOf (s : State) (q : Fin 16) : StallReason :=
  if s.path ≠ .ready then .media
  else if s.spindle.state ≠ .spinning ∧ !s.placeReleases then .spindle
  else match s.boundBand q with
    | some b =>
      if ((s.bands[b]?).map (·.issued)).getD 0 = (s.shapeOf b).tracks then .ending
      else if (s.queue q).poolStall then .pool else .none
    | none =>
      if s.grantable q = none then .space
      else if (s.queue q).poolStall then .pool else .none

/-- A queue is offered: ready, and its stall reason is NONE (R70). -/
def State.offered (s : State) (q : Fin 16) : Bool := s.ready q && s.stallOf q == .none

/-- R71: a queue is ready and stalled for SPACE. Readiness is read as it stands, with the track size of a queue that no band would
be granted to (log 42). The stall is the reason R70 gives, so that a queue whose reason is MEDIA or SPINDLE is not in it (log 52). -/
def State.spaceStalled (s : State) (q : Fin 16) : Bool := s.ready q && s.stallOf q == .space

/-- A space emergency: the count of FREE bands is at or below the reserve (R74, R97). -/
def State.emergency (s : State) : Bool := s.freeBands ≤ s.marks.reserve

/-- A write candidate stands (R73). -/
def State.candidate (s : State) : Bool := s.spindle.state == .spinning && allQueues.any s.offered

/-- The write candidate is a Q15 write (R73). -/
def State.candidateQ15 (s : State) : Bool := s.emergency && s.offered 15

/-! ### Relocation -/

/-- A band the Relocation Engine may choose (R128). -/
def Band.candidate (b : Band) : Bool := (b.state == .full || b.state == .closed) && b.completed == b.issued

/-- The victim's live sectors on a track, as read pieces (R124). -/
def State.piecesOn (s : State) (victim track : Nat) : List (Nat × Nat × Nat) :=
  readPieces s.map victim track (s.trackData victim)

def pieceSectors (ps : List (Nat × Nat × Nat)) : Nat := (ps.map (·.2.2)).sum

/-- The two gates of R130, for the victim's live sectors on a track. -/
def State.gates (s : State) (ps : List (Nat × Nat × Nat)) : Bool :=
  pieceSectors ps ≤ s.space 15 && 2 * ps.length ≤ s.poolFree

/-- The engine presents a relocation read to the media arbiter (R130, R133). -/
def State.relocPresented (s : State) : Bool :=
  s.engine.state == .reading && s.engine.hand.any fun h => h.phase == .presented && !h.claimWait

/-- The victim and track of the relocation read presented. -/
def State.presentedRead (s : State) : Option (Option Nat × Option Nat) :=
  if s.relocPresented then some (s.engine.victim, s.engine.hand.map (·.track)) else none

/-- A Get awaits media: its slot holds a read that has not been released (R108). -/
def State.awaitsMedia (s : State) : Bool :=
  !s.fetchList.isEmpty || s.window.any fun o => match o with
    | .read r => (match r.owner with
      | .fetch _ => true
      | _ => false)
    | _ => false

/-- A slot holds a read that has not been released. -/
def State.slotReads (s : State) (i : Fin 16) : Bool :=
  s.fetchList.any (fun r => r.slot == i) || s.window.any fun o => match o with
    | .read r => (match r.owner with
      | .fetch f => f.slot == i
      | _ => false)
    | _ => false

end Sys2Proof.Machine
end

