-- ==== Sys2Proof/Machine/Pieces.lean ====
section
/-! DEFINITION. Pieces and records: how a write order's pieces enter the map, return to their queue or are lost (R80 to R83,
R174), how LOSTREL records are resolved (R86), how a Trim cuts what is staged and in flight (R63 to R65), and what a resolved
piece reports to its Put (R53, R81). -/

namespace Sys2Proof.Machine

/-! ### Budgets and losses -/

/-- The budget of an insert whose record is released with it: free minus reserved plus 2 (R36). held counts the records of the
order being applied that are not released yet, the insert's own included. -/
def State.budget (s : State) (held : Nat) : Nat := s.freeEntries + 2 - 2 * (s.inUse + held)

/-- R72: a release of a pool record clears every POOL stall. -/
def State.clearPoolStalls (s : State) : State := s.mapQueues fun _ q => { q with poolStall := false }

/-- The origin request names a durable Put (R81). -/
def State.durableOrigin (s : State) (origin : Option Key) : Bool :=
  (origin.bind s.putInfo).any (·.durable)

/-- A Put's count of pieces outstanding moves from n records to m (R53, R65). -/
def State.movePieces (s : State) (origin : Option Key) (n m : Nat) : State :=
  match origin with
  | none => s
  | some k => s.modPut k fun p => { p with pieces := p.pieces + m - n }

def State.recordOutcome (s : State) (origin : Option Key) (o : Outcome) : State :=
  match origin with
  | none => s
  | some k => s.modPut k fun p => { p with outcome := p.outcome.record o }

/-- R81: a HOST piece of a non-durable Put that lost sectors raises DATA_LOST with the lowest LSA lost. -/
def State.raiseLost (s : State) (lost : List (Nat × Nat)) : State :=
  match lowestOf lost with
  | none => s
  | some x => s.raiseBoth .dataLost x

/-- A location some sectors on (R44, R80). -/
def Location.plus (d : Location) (k : Nat) : Location := ⟨d.band, d.index + k⟩

/-! ### A write order that completes DONE (R80) -/

/-- The run of a stretch: its LSA, length and sequence at the given location (R80). -/
def Piece.run (p : Piece) (location : Option Location) (st : Stretch) : Run :=
  { lsa := p.lsa + st.start, length := st.length, sequence := p.sequence, location := location }

/-- The source location of a stretch of a RELOC piece (R80). -/
def Piece.sourceOf (p : Piece) (st : Stretch) : Location := (p.source.getD ⟨0, 0⟩).plus st.start

/-- The insert of a stretch's run, as a host run or a relocation run by the piece's kind. -/
def Piece.insert (p : Piece) (m : List Entry) (location : Option Location) (st : Stretch) (budget : Nat) : Inserted :=
  if p.reloc then insertReloc m (p.run location st) (p.sourceOf st) budget else insertHost m (p.run location st) budget

/-- What an insert leaves of the map, with a record released beside it: one change (R22, R80), which may carry the headroom across
its line (R39). held counts the records of the order being applied before the release. -/
def State.insertReleased (s : State) (held : Nat) (r : Inserted) : State :=
  let t := s.setMap r.entries
  t.noteHeadroom (s.headroomBeside held) (t.headroomBeside (held - 1))

/-- One stretch enters the map and its record is released. The lost ranges are those dropped under R37. -/
def enterStretch (p : Piece) (band base : Nat) (acc : State × Nat × List (Nat × Nat)) (st : Stretch) :
    State × Nat × List (Nat × Nat) :=
  let r := p.insert acc.1.map (some ⟨band, base + p.offset + st.start⟩) st (acc.1.budget acc.2.1)
  (acc.1.insertReleased acc.2.1 r, acc.2.1 - 1, acc.2.2 ++ r.dropped)

/-- A HOST piece is resolved: its Put's count falls, and lost sectors are reported (R81). -/
def State.resolveHost (s : State) (p : Piece) (asLost : Bool) (lost : List (Nat × Nat)) : State :=
  if p.reloc then s
  else
    let durable := s.durableOrigin p.origin
    let s := s.movePieces p.origin p.stretches.length 0
    if durable then (if asLost || !lost.isEmpty then s.recordOutcome p.origin .mediaError else s) else s.raiseLost lost

/-- One piece of an order that completed DONE (R80). -/
def enterPiece (band base : Nat) (acc : State × Nat) (p : Piece) : State × Nat :=
  let r := p.stretches.foldl (enterStretch p band base) (acc.1, acc.2, [])
  (r.1.resolveHost p false r.2.2, r.2.1)

/-- R11 and R12: the band of a completed write order. -/
def Band.complete (tracks : Nat) (failed : Bool) (r : Band) : Band :=
  let r := { r with completed := r.completed + 1 }
  let reaches := failed && 4 ≤ r.skipped + 1
  let r := if failed then { r with skipped := min 4 (r.skipped + 1), retire := r.retire || reaches } else r
  if r.state = .opened ∧ reaches then { r with state := .closed, queue := none }
  else if r.state = .opened ∧ r.completed = r.issued ∧ r.issued = tracks then { r with state := .full, queue := none }
  else r

def State.completeBand (s : State) (b : Nat) (failed : Bool) : State :=
  s.modBand b (Band.complete (s.shapeOf b).tracks failed)

/-- A write order that has left the window DONE (R80). -/
def State.writeDone (s : State) (w : WriteOrder) : State :=
  let r := w.pieces.foldl (enterPiece w.band (w.track * s.trackData w.band)) (s, w.records)
  r.1.completeBand w.band false

/-! ### A write order that fails (R82, R83, R174) -/

/-- The records of a returned piece, one for each stretch (R82). -/
def Piece.fragments (p : Piece) : List Fragment :=
  p.stretches.map fun st =>
    { kind := if p.reloc then .reloc else .host, lsa := p.lsa + st.start, length := st.length, sequence := p.sequence,
      filling := 0, origin := p.origin, attempts := p.attempts, source := p.source.map (·.plus st.start),
      acknowledged := p.acknowledged, drain := p.drain, data := st.data }

/-- One stretch of a lost piece is converted to LOST and its record released (R83). -/
def loseStretch (p : Piece) (acc : State × Nat × List (Nat × Nat)) (st : Stretch) : State × Nat × List (Nat × Nat) :=
  let r := p.insert acc.1.map none st (acc.1.budget acc.2.1)
  (acc.1.insertReleased acc.2.1 r, acc.2.1 - 1, acc.2.2 ++ r.entered ++ r.dropped)

/-- A piece resolved as LOST (R83). -/
def losePiece (acc : State × Nat) (p : Piece) : State × Nat :=
  let r := p.stretches.foldl (loseStretch p) (acc.1, acc.2, [])
  (r.1.resolveHost p true r.2.2, r.2.1)

/-- One piece of a failed order not orphaned: returned below 3 attempts, else LOST (R82, R83). A piece a Trim voided whole was
resolved then (R65). -/
def failPiece (acc : State × Nat × List Fragment) (p : Piece) : State × Nat × List Fragment :=
  let p := { p with attempts := p.attempts + 1 }
  if p.attempts < 3 then (acc.1, acc.2.1, acc.2.2 ++ p.fragments)
  else if p.stretches.isEmpty then acc
  else
    let r := losePiece (acc.1, acc.2.1) p
    (r.1, r.2, acc.2.2)

/-- One piece of an orphaned order that failed (R174). -/
def orphanPiece (acc : State × Nat) (p : Piece) : State × Nat :=
  if p.stretches.isEmpty then acc
  else if p.reloc then (acc.1, acc.2 - p.stretches.length)
  else if p.acknowledged then losePiece acc p
  else ((acc.1.recordOutcome p.origin .aborted).movePieces p.origin p.stretches.length 0, acc.2 - p.stretches.length)

/-- A write order that has left the window with a status other than DONE (R82, R174). -/
def State.writeFailed (s : State) (w : WriteOrder) : State :=
  let s :=
    if w.orphaned then (w.pieces.foldl orphanPiece (s, w.records)).1
    else
      let r := w.pieces.foldl failPiece (s, w.records, [])
      r.1.modQueue w.queue fun q => { q with records := r.2.2 ++ q.records }
  s.completeBand w.band true

/-! ### LOSTREL records (R86) -/

/-- The LOSTREL record at the head of Q15 is resolved by a relocation-form conversion and released. -/
def State.resolveLostrel (s : State) (r : Fragment) : State :=
  let run : Run := { lsa := r.lsa, length := r.length, sequence := r.sequence, location := none }
  let m := (insertReloc s.map run (r.source.getD ⟨0, 0⟩) (s.budget 0)).entries
  ((s.setMap m).modQueue 15 fun q => { q with records := q.records.tail }).clearPoolStalls

/-- Every LOSTREL record with no RELOC record ahead of it in Q15 is resolved. -/
def State.resolveLostrels (s : State) : State :=
  ((s.queue 15).records.takeWhile fun r => r.kind == .lostrel).foldl State.resolveLostrel s

/-! ### Trim against staged data and write orders in flight (R63 to R65) -/

abbrev Fragment.stop (r : Fragment) : Nat := r.lsa + r.length

/-- The part of a record of n sectors from its k-th on (R44, R63, R64). A part whose sectors have all been received is
complete. -/
def Fragment.part (r : Fragment) (k n : Nat) : Fragment :=
  let data := (r.data.drop k).take n
  { r with lsa := r.lsa + k, length := n, data := data, filling := if r.filling = 0 then 0 else n - data.length,
           source := r.source.map (·.plus k) }

/-- What a Trim of a to b leaves of a record (R63). -/
def Fragment.trim (a b : Nat) (r : Fragment) : List Fragment :=
  (if r.lsa < a then [r.part 0 (min r.stop a - r.lsa)] else []) ++
    (if b < r.stop then [r.part (b - r.lsa) (r.stop - max b r.lsa)] else [])

/-- What a Trim leaves of a stretch of a piece at LSA base (R65). -/
def Stretch.trim (base a b : Nat) (st : Stretch) : List Stretch :=
  let first := base + st.start
  let stop := first + st.length
  (if first < a then [{ st with length := min stop a - first, data := st.data.take (min stop a - first) }] else []) ++
    (if b < stop then
      [{ start := st.start + (b - first), length := stop - max b first, data := st.data.drop (b - first) }] else [])

def Piece.trim (a b : Nat) (p : Piece) : Piece := { p with stretches := p.stretches.flatMap (Stretch.trim p.lsa a b) }

/-- A record reaches beyond both ends of a range (R62). -/
def Fragment.beyond (a b : Nat) (r : Fragment) : Bool := r.lsa < a && b < r.stop

/-- A piece's non-void sectors form a stretch that reaches beyond both ends (R62). -/
def Piece.beyond (a b : Nat) (p : Piece) : Bool :=
  p.stretches.any fun st => p.lsa + st.start < a && b < p.lsa + st.start + st.length

/-- All the records of the queues, and all the pieces in flight. -/
def State.allRecords (s : State) : List Fragment := allQueues.flatMap fun q => (s.queue q).records
def State.allPieces (s : State) : List Piece := s.writeOrders.flatMap (·.pieces)

/-- The record need of a Trim (R62). -/
def State.recordNeed (s : State) (a b : Nat) : Nat :=
  s.allRecords.countP (Fragment.beyond a b) + s.allPieces.countP (Piece.beyond a b)

/-- The entry need of a Trim (R62, R38). -/
def State.entryNeed (s : State) (a b : Nat) : Nat :=
  (if s.map.any fun e => e.start < a && b < e.stop then 1 else 0) + 2 * s.recordNeed a b

/-- A Trim that passed its checks, applied to the map, the queues and the orders in flight (R33, R63 to R65), as one change,
whose claims, releases and entries are measured together against the lines of R39 and R45 (log 7). The counts of
pieces outstanding follow the parts each record or piece is left in. -/
def State.applyTrim (s : State) (a b : Nat) : State :=
  if a < b then
    let before := s.inUse
    let s1 := s.allRecords.foldl (fun t r => t.movePieces r.origin 1 (Fragment.trim a b r).length) s
    let s2 := s.allPieces.foldl
      (fun t p => t.movePieces p.origin p.stretches.length (p.trim a b).stretches.length) s1
    let released := (s.allRecords.any fun r => (Fragment.trim a b r).isEmpty)
      || s.allPieces.any fun p => p.stretches.any fun st => (Stretch.trim p.lsa a b st).isEmpty
    let s3 := s2.mapQueues fun _ q => { q with records := q.records.flatMap (Fragment.trim a b) }
    let s4 := s3.mapWrites fun w => { w with pieces := w.pieces.map (Piece.trim a b) }
    let s5 := s4.setMap (cutRange a b s4.map)
    (if released || s5.inUse < before then s5.clearPoolStalls else s5).noteFalls s
  else s

end Sys2Proof.Machine
end

