-- ==== Sys2Proof/Machine/Engine.lean ====
section
/-! DEFINITION. The Relocation Engine (chapter 7): runs, the victim, the track in hand, its reads and its records, and a band's
way out of CLEANING (R16, R17). -/

namespace Sys2Proof.Machine

/-! ### Bands in and out of CLEANING -/

/-- R16: a CLEANING band returns to its prior state. -/
def Band.uncleaned (b : Band) : Band :=
  if b.state = .cleaning then { b with state := b.prior.getD .full, prior := none } else b

/-- R16: a chosen band becomes CLEANING. -/
def Band.cleaned (b : Band) : Band := { b with state := .cleaning, prior := some b.state }

/-- R17: a CLEANING band with nothing valid and no pending read may leave. -/
def Band.emptied (b : Band) : Bool := b.state == .cleaning && b.valid == 0 && b.pendingReads == 0

/-- R17: what an emptied band becomes. -/
def Band.released (b : Band) : Band :=
  { b with state := if b.retire then .retired else .free, issued := 0, completed := 0, skipped := 0, retire := false,
           suspect := false, prior := none }

/-! ### Runs -/

/-- A run ends: the engine returns to IDLE and answers its Clean (R127, R135). -/
def State.endRun (s : State) (status : Status) : State :=
  let clean := s.engine.clean
  let s := { s with engine := { Engine.reset with deferred := s.engine.deferred } }
  match clean with
  | none => s
  | some k => s.answerEntry k status .none

/-- A candidate other than the deferred band has retire or suspect set (R135). -/
def State.flaggedCandidate (s : State) : Bool :=
  s.bands.zipIdx.any fun x => x.1.candidate && (x.1.retire || x.1.suspect) && s.engine.deferred != some x.2

/-- The continuation test of an AUTO run (R135). -/
def State.continueRun (s : State) : State :=
  if s.bands.any Band.candidate ∧ (s.freeBands < s.marks.high ∨ s.flaggedCandidate) then
    { s with engine := { s.engine with state := .selecting, victim := none, cursor := none, hand := none } }
  else s.endRun .ok

/-- The engine takes the release of its victim (R135, R136). -/
def State.victimReleased (s : State) : State :=
  let s := { s with engine := { s.engine with deferred := none } }
  if s.engine.run = some .single then s.endRun .ok else s.continueRun

/-- R17 for one band, by number. -/
def State.releaseBand (s : State) (b : Nat) : State :=
  let s := (s.modBand b Band.released).raiseBoth .relocationDone b
  if s.engine.victim = some b then s.victimReleased else s

/-- Every CLEANING band that may leave does (R17). It is asked wherever a count has come down and a later part of the same step could
take the band out of CLEANING another way, and again when the step is settled. -/
def State.releaseEmptied (s : State) : State :=
  (s.bands.zipIdx.filter fun x => x.1.emptied).foldl (fun s x => s.releaseBand x.2) s

/-- R134: the victim is abandoned after a second read timeout. -/
def State.abandonVictim (s : State) : State :=
  match s.engine.victim with
  | none => s
  | some b =>
    let s := s.modBand b fun r => { r.uncleaned with suspect := true }
    let s := { s with engine := { s.engine with victim := none, cursor := none, hand := none, deferred := some b } }
    if s.engine.run = some .single then s.endRun .mediaError else s.continueRun

/-- A relocation read in the window that no longer belongs to the engine (R137). -/
def Order.staleRead : Order → Order
  | .read r => (match r.owner with
    | .relocation _ => Order.read { r with owner := .relocation true }
    | _ => Order.read r)
  | o => o

/-- R137: a level 1 or level 2 reset abandons relocation. A relocation read in the window is no longer of use. -/
def State.resetEngine (s : State) : State :=
  let s := match s.engine.victim with
    | none => s
    | some b => s.modBand b Band.uncleaned
  let s := State.endRun { s with window := s.window.map Order.staleRead } .aborted
  { s with engine := Engine.reset }

/-! ### The track in hand -/

def State.setHand (s : State) (h : Option TrackInHand) : State := { s with engine := { s.engine with hand := h } }

/-- A track newly taken in hand (R129). -/
def TrackInHand.fresh (t : Nat) : TrackInHand :=
  { track := t, phase := .gate, stage := .initial, timeouts := 0, fixed := false, live := [], claimWait := false }

/-- R129: the next track with live data becomes the track in hand, or the engine enters DRAINING. -/
def State.searchTrack (s : State) : State :=
  match s.engine.victim with
  | none => s
  | some v =>
    match nextLiveTrack s.map v (s.trackData v) (s.engine.cursor.getD 0) with
    | some t => s.setHand (some (TrackInHand.fresh t))
    | none => { s with engine := { s.engine with state := .draining, cursor := none, hand := none } }

/-- R130: while the gates hold, a track not read yet is PRESENTED; otherwise it waits in GATE. The gates are tested at every step, so that
a track PRESENTED and not issued whose gates have failed returns to GATE before a grant finds it so (log 45). -/
def State.testGates (s : State) : State :=
  match s.engine.victim, s.engine.hand with
  | some v, some h =>
    if !h.fixed ∧ (h.phase = .gate ∨ h.phase = .presented) then
      s.setHand (some { h with phase := if s.gates (s.piecesOn v h.track) then .presented else .gate })
    else s
  | _, _ => s

/-- R129, R130: a READING engine with no track in hand searches for one; a track not read yet whose live data has become empty
is dropped; the gates are tested. -/
def State.advanceEngine (s : State) : State :=
  if s.engine.state = .reading then
    match s.engine.victim, s.engine.hand with
    | some v, some h =>
      if !h.fixed ∧ (s.piecesOn v h.track).isEmpty then
        (s.setHand none).searchTrack.testGates
      else s.testGates
    | _, _ => s.searchTrack.testGates
  else s

/-- The live sectors of read pieces (R124), numbered by piece. -/
def liveSectors (ps : List (Nat × Nat × Nat)) : List LiveSector :=
  ps.zipIdx.flatMap fun x => (List.range x.1.2.2).map fun i =>
    { index := x.1.1 + i, lsa := x.1.2.1 + i, piece := x.2, outcome := none, data := [] }

/-- The sectors the next read of the track in hand is for: those not settled (R130, R131, R133). -/
def TrackInHand.targets (h : TrackInHand) : List LiveSector := h.live.filter fun x => x.outcome == none

def lowest (l : List Nat) : Nat := l.foldl min (l.headD 0)
def highest (l : List Nat) : Nat := l.foldl max 0

/-- The relocation read of the track in hand: from the lowest to the highest position it is for (R130, R131). -/
def State.handRead (s : State) (v : Nat) (h : TrackInHand) : ReadOrder :=
  let ps := h.targets.map fun x => x.index - h.track * s.trackData v
  { owner := .relocation false, band := v, track := h.track, profile := ((s.bands[v]?).map (·.profile)).getD 0,
    first := lowest ps, count := highest ps - lowest ps + 1, timeouts := h.timeouts, delivered := [] }

/-- A grant to the relocation read (R130): the live set is fixed, the gates tested again and a pending read claimed. The Bool
says whether the read was issued; a decline leaves the track in hand in GATE, or waiting for a release of the claim. -/
def State.grantReloc (s : State) : State × Bool :=
  match s.engine.victim, s.engine.hand with
  | some v, some h =>
    let ps := s.piecesOn v h.track
    let h := if h.fixed then h else { h with live := liveSectors ps }
    if !h.fixed ∧ !s.gates ps then
      (s.setHand (some { h with phase := .gate, live := [] }), false)
    else if !s.claimable v 1 then
      (s.setHand (some { h with claimWait := true, live := if h.fixed then h.live else [] }), false)
    else
      let s := (s.claimRead v).issue (.read (s.handRead v h))
      (s.setHand (some { h with phase := .inWindow, fixed := true }), true)
  | _, _ => (s, false)

/-- A completion of the relocation read of the track in hand (R131). read says which sector positions count as read. -/
def State.relocRead (s : State) (r : ReadOrder) (read : Nat → Bool) : State :=
  let s := s.releaseRead r.band
  match s.engine.hand with
  | none => s
  | some h =>
    let n := s.trackData r.band
    let settled := h.live.map fun x =>
      if x.outcome = none then
        (if read (x.index - h.track * n) then { x with outcome := some true }
         else if h.stage = .reread then { x with outcome := some false } else x)
      else x
    let h := { h with live := settled, timeouts := 0 }
    let h := if h.targets.isEmpty then { h with phase := .records } else { h with phase := .presented, stage := .reread }
    s.setHand (some h)

/-- A relocation read failed as TIMED_OUT (R133). A second timeout abandons the victim, unless the release of the claim has let it
leave CLEANING (R17). -/
def State.relocTimedOut (s : State) (r : ReadOrder) : State :=
  let s := s.releaseRead r.band
  if r.timeouts = 0 then
    s.setHand (s.engine.hand.map fun h => { h with phase := .presented, timeouts := 1 })
  else if (s.bands[r.band]?).any Band.emptied then s.releaseBand r.band
  else s.abandonVictim

/-- Data of a sector delivered for the track in hand lands at its place (R94, R130), where that sector is not settled (R131). -/
def TrackInHand.deliver (n position : Nat) (data : Sector) (h : TrackInHand) : TrackInHand :=
  { h with live := h.live.map fun x =>
      if x.index = h.track * n + position ∧ x.outcome = none then { x with data := data } else x }

/-! ### Choosing a victim (R128) -/

/-- The order of candidates: class, then valid count, then number. -/
def victimRank (x : Band × Nat) : Nat × Nat × Nat :=
  (if x.1.suspect then 0 else if x.1.retire then 1 else 2, x.1.valid, x.2)

def rankBefore (x y : Nat × Nat × Nat) : Bool :=
  x.1 < y.1 || (x.1 == y.1 && (x.2.1 < y.2.1 || (x.2.1 == y.2.1 && x.2.2 < y.2.2)))

def bestVictim (l : List (Band × Nat)) : Option (Band × Nat) :=
  l.foldl (fun acc x => match acc with
    | none => some x
    | some y => if rankBefore (victimRank x) (victimRank y) then some x else some y) none

/-- The band an engine in SELECTING is given. -/
def State.chosenVictim (s : State) : Option Nat :=
  match s.engine.run with
  | some .single => s.engine.target.filter fun b => (s.bands[b]?).any Band.candidate
  | _ => (bestVictim (s.bands.zipIdx.filter fun x => x.1.candidate && s.engine.deferred != some x.2)).map (·.2)

/-- The choice, as one event on the Band Table (R128). R17 and R129 follow when the step is settled. -/
def State.selectVictim (s : State) : State :=
  if s.engine.state = .selecting then
    match s.chosenVictim with
    | none => s.endRun .ok
    | some b =>
      let s := s.modBand b Band.cleaned
      { s with engine := { s.engine with state := .reading, victim := some b, cursor := some 0, hand := none } }
  else s

/-! ### Records (R132) -/

/-- A sector of the live set is still live: its entry's sequence, when the map places it in the victim at its data index. -/
def State.stillLive (s : State) (v : Nat) (x : LiveSector) : Option Nat :=
  (lookup s.map x.lsa).bind fun e => if e.placeOf x.lsa = some ⟨v, x.index⟩ then some e.sequence else none

/-- A run of one sector. -/
def LiveSector.fragment (v sequence : Nat) (x : LiveSector) : Fragment :=
  { kind := if x.outcome = some true then .reloc else .lostrel, lsa := x.lsa, length := 1, sequence := sequence, filling := 0,
    origin := none, attempts := 0, source := some ⟨v, x.index⟩, acknowledged := false, drain := false,
    data := if x.outcome = some true then [x.data] else [] }

/-- The sector before a run joins it: one read piece, one outcome, consecutive data indexes. -/
def joinsRun (piece : Nat) (f : Fragment) (p : Nat) (r : Fragment) : Bool :=
  piece == p && f.kind == r.kind && f.sequence == r.sequence && f.source.map (·.plus 1) == r.source

/-- The maximal runs of the still-live sectors, ascending (R132). -/
def relocRuns (v : Nat) (l : List (LiveSector × Nat)) : List (Nat × Fragment) :=
  l.foldr (fun x acc =>
    let f := x.1.fragment v x.2
    match acc with
    | [] => [(x.1.piece, f)]
    | (p, r) :: rest =>
      if joinsRun x.1.piece f p r then (p, { f with length := r.length + 1, data := f.data ++ r.data }) :: rest
      else (x.1.piece, f) :: (p, r) :: rest) []

/-- The records of a track in hand in RECORDS, after the liveness test. -/
def State.relocRecords (s : State) (v : Nat) (h : TrackInHand) : List Fragment :=
  (relocRuns v (h.live.filterMap fun x => (s.stillLive v x).map fun q => (x, q))).map (·.2)

/-- R132: the records are claimed together and appended to Q15, or the track waits in RECORDS. -/
def State.makeRecords (s : State) : State :=
  match s.engine.victim, s.engine.hand with
  | some v, some h =>
    if h.phase = .records then
      let rs := s.relocRecords v h
      if rs.length ≤ s.poolFree ∧ 2 * rs.length ≤ s.headroom then
        let t := s.modQueue 15 fun q => { q with records := q.records ++ rs }
        State.noteFalls { t with engine := { t.engine with cursor := some (h.track + 1), hand := none } } s
      else s
    else s
  | _, _ => s

end Sys2Proof.Machine
end

