-- ==== Sys2Proof/Machine/SpindleControl.lean ====
section
/-! DEFINITION. Spindle Control (chapter 8): releases, the endings of motion orders, and what an entry into DOWN does to the
spindle. The reinstall and start-up GEOMETRY orders are made here too (R95, R177), since a start-up's spin-up calls for them. -/

namespace Sys2Proof.Machine

/-- R95: one GEOMETRY order for each profile that is ACTIVE, or UPDATING with an ACTIVE state before update, with its current
S and T, in ascending profile number. -/
def State.reinstalls (s : State) (origin : GeoOrigin) : List GeoOrder :=
  (List.range 8).filterMap fun n =>
    let p := s.profile n
    if p.state = .active ∨ (p.state = .updating ∧ p.before = some .active) then
      p.shape.map fun g => { profile := n, sectors := g.sectors, tracks := g.tracks, origin := origin }
    else none

/-- R143: a release enters STARTING and presents UNPARK or SPIN UP. -/
def State.startSpin (s : State) : State :=
  { s with spindle := { s.spindle with
    state := .starting, attempts := some 0, wakeTimer := none, releasePending := false
    motion := some (if s.spindle.resting = some .parked then .unpark else .spinUp) } }

/-- R141: an honoured cause of a release. Two causes make none while the media path is DOWN, and say so themselves: the wake timer's
expiry (R142) and a Wake (R145). -/
def State.release (s : State) : State :=
  match s.spindle.state with
  | .parked => s.startSpin
  | .stopped => s.startSpin
  | .parking => { s with spindle := { s.spindle with releasePending := true } }
  | .stopping => { s with spindle := { s.spindle with releasePending := true } }
  | .starting => s
  | .spinning => s

/-- The spindle record while SPINNING (R138). -/
def Spindle.turning : Spindle :=
  { state := .spinning, resting := none, release := none, wakeInterval := none, wakeTimer := none, releasePending := false,
    quiesce := none, attempts := none, wakes := [], motion := none }

/-- R140: a return to SPINNING from PARKING or STOPPING answers the Quiesce, and every waiting Wake OK. -/
def State.returnSpinning (s : State) (status : Status) : State :=
  let quiesce := s.spindle.quiesce
  let wakes := s.spindle.wakes
  let s := { s with spindle := Spindle.turning }
  (match quiesce with
    | none => s
    | some k => s.answerEntry k status .none).answerAll wakes .ok

/-- R140: PARK or SPIN DOWN completes DONE. -/
def State.comeToRest (s : State) : State :=
  let pending := s.spindle.releasePending
  let quiesce := s.spindle.quiesce
  let timer := if s.spindle.release.any (·.timer) ∧ !pending then s.spindle.wakeInterval else none
  let s := { s with spindle := { s.spindle with
    state := if s.spindle.resting = some .parked then .parked else .stopped
    quiesce := none, wakeTimer := timer, releasePending := false } }
  let s := match quiesce with
    | none => s
    | some k => s.answerEntry k .ok .none
  if pending then s.startSpin else s

/-- R143: UNPARK or SPIN UP completes DONE. The start-up's own spin-up raises no WAKE (R146), and calls for the start-up
GEOMETRY orders unless reinstalls stand in their place (R177). -/
def State.spunUp (s : State) : State :=
  let wakes := s.spindle.wakes
  let s := State.answerAll { s with spindle := Spindle.turning } wakes .ok
  let s := if s.service = .inService then s.raiseBoth .wake 0 else s
  match s.stage with
  | .spinUp reinstalled =>
    { s with stage := .geometry, geometry := if reinstalled then s.geometry else s.reinstalls .startUp ++ s.geometry }
  | _ => s

/-- R144: the path enters DOWN while STARTING: the spindle returns to its resting state. -/
def State.spinFailed (s : State) : State :=
  let wakes := s.spindle.wakes
  State.answerAll { s with spindle := { s.spindle with
    state := if s.spindle.resting = some .parked then .parked else .stopped
    wakeTimer := none, attempts := none, wakes := [], motion := none } } wakes .mediaDown

/-- R144: a first failure presents the same motion order again. -/
def State.spinAgain (s : State) (m : Motion) : State :=
  { s with spindle := { s.spindle with attempts := some 1, motion := some m } }

/-- The motion order is an UNPARK or a SPIN UP. -/
def Motion.up : Motion → Bool
  | .unpark => true
  | .spinUp => true
  | .park => false
  | .spinDown => false

/-- A motion order in the window failed as TIMED_OUT (R140, R144). After a second failure the path enters DOWN, which returns
the spindle to its resting state. -/
def State.motionTimedOut (s : State) (m : Motion) : State :=
  if m.up then (if s.spindle.attempts = some 0 then s.spinAgain m else s) else s.returnSpinning .failed

/-- R105, R140, R144: what an entry into DOWN does to the spindle. A PARK or SPIN DOWN presented and not issued is withdrawn. -/
def State.spindleDown (s : State) : State :=
  match s.spindle.state with
  | .starting => s.spinFailed
  | .parking => s.returnSpinning .mediaDown
  | .stopping => s.returnSpinning .mediaDown
  | _ => s

end Sys2Proof.Machine
end

