-- ==== Sys2Proof/Machine/Fetch.lean ====
section
/-! DEFINITION. The Fetch Unit (chapter 6): how a Get is checked, resolved and given its reads, how its sectors are settled and
delivered, and how it is cancelled. -/

namespace Sys2Proof.Machine

/-- Zero data of a sector (R116 to R119). -/
def zeroSector : Sector := List.replicate 4096 0

/-! ### Resolution (R110) -/

/-- A staged copy of consecutive sectors. -/
structure Copy where
  lsa : Nat
  sequence : Nat
  data : List Sector
deriving DecidableEq, Repr

/-- The copy covers an LSA. -/
def Copy.covers (c : Copy) (x : Nat) : Bool := c.lsa ≤ x && x < c.lsa + c.data.length

/-- The copies of the complete records of a kind in a queue. -/
def State.recordCopies (s : State) (kind : RecordKind) (q : Fin 16) : List Copy :=
  ((s.queue q).records.filter fun r => r.kind == kind && r.filling == 0).map fun r => ⟨r.lsa, r.sequence, r.data⟩

/-- The copies in flight of one kind of piece: the non-void sectors, orphaned orders included. -/
def State.flightCopies (s : State) (reloc : Bool) : List Copy :=
  (s.writeOrders.flatMap (·.pieces)).flatMap fun p =>
    if p.reloc = reloc then p.stretches.map fun st => ⟨p.lsa + st.start, p.sequence, st.data⟩ else []

def State.hostCopies (s : State) : List Copy := hostQueues.flatMap (s.recordCopies .host) ++ s.flightCopies false

def State.relocCopies (s : State) : List Copy := s.recordCopies .reloc 15 ++ s.flightCopies true

/-- The copy of highest sequence that covers an LSA. -/
def newestCopy (cs : List Copy) (x : Nat) : Option Copy :=
  (cs.filter (·.covers x)).foldl (fun acc c => match acc with
    | none => some c
    | some d => if d.sequence < c.sequence then some c else some d) none

/-- A sector settled from a staged copy (R111). -/
def Copy.sector (c : Copy) (x : Nat) : SlotSector :=
  { source := .staged, status := some .ok, place := none, data := c.data.getD (x - c.lsa) [] }

/-- A sector without a copy and without a place. -/
def SlotSector.blank (source : SectorSource) (status : SectorStatus) : SlotSector :=
  { source := source, status := some status, place := none, data := zeroSector }

/-- The position on the surface of a location (R1). -/
def State.placeAt (s : State) (d : Location) : Place :=
  ⟨d.band, d.index / s.trackData d.band, d.index % s.trackData d.band⟩

/-- The source of one sector of a Get. -/
def State.resolveSector (s : State) (x : Nat) : SlotSector :=
  let host := newestCopy s.hostCopies x
  match lookup s.map x with
  | none => match host with
    | some c => c.sector x
    | none => SlotSector.blank .unwritten .unwritten
  | some e => match e.placeOf x with
    | none => match host with
      | some c => c.sector x
      | none => SlotSector.blank .lost .lost
    | some d => match host.filter fun c => e.sequence < c.sequence with
      | some c => c.sector x
      | none => match s.relocCopies.find? fun c => c.covers x && c.sequence == e.sequence with
        | some c => c.sector x
        | none => { source := .media, status := none, place := some (s.placeAt d), data := [] }

def State.resolve (s : State) (lsa count : Nat) : List SlotSector :=
  (List.range count).map fun o => s.resolveSector (lsa + o)

/-! ### Reads (R112) -/

/-- The MEDIA sectors of a Get by band and track, in the order of the lowest LSA of each group. -/
abbrev ReadGroup := (Nat × Nat) × List (Nat × Nat)

/-- One more needed position joins its group. -/
def joinGroup (p : Place) (offset : Nat) : List ReadGroup → List ReadGroup
  | [] => [((p.band, p.track), [(p.position, offset)])]
  | g :: rest => if g.1 = (p.band, p.track) then (g.1, g.2 ++ [(p.position, offset)]) :: rest else g :: joinGroup p offset rest

def readGroups (sectors : List SlotSector) : List ReadGroup :=
  sectors.zipIdx.foldl (fun gs x => match x.1.place with
    | none => gs
    | some p => joinGroup p x.2 gs) []

/-- The read of a group: from the lowest to the highest position needed. -/
def fetchReadOf (slot : Fin 16) (profile : Nat) (g : ReadGroup) : FetchRead :=
  let ps := g.2.map (·.1)
  { slot := slot, band := g.1.1, track := g.1.2, profile := profile, first := lowest ps,
    count := highest ps - lowest ps + 1, needed := g.2, stage := .initial, timeouts := 0 }

def State.readsOf (s : State) (slot : Fin 16) (sectors : List SlotSector) : List FetchRead :=
  (readGroups sectors).map fun g => fetchReadOf slot (((s.bands[g.1.1]?).map (·.profile)).getD 0) g

/-! ### Taking a Get (R109) -/

/-- Slots in use for an origin link (R108). -/
def State.slotsInUse (s : State) (l : Link) : Nat := s.slots.toList.countP fun x => x.state != .free && x.key.origin == l

/-- The slot a Get takes: the FREE slot of lowest number (log 26). -/
def State.freeFetchSlot (s : State) : Option (Fin 16) := allQueues.find? fun i => (s.slot i).state == .free

/-- R114: a Get that needs the media finds the spindle at rest and may not release it. -/
def State.asleep (s : State) : Bool := s.spindle.state != .spinning && s.spindle.state != .starting && !s.getReleases

/-- Check 6 of R109: every read is granted its claim. -/
def State.claimsGranted (s : State) (reads : List FetchRead) : Bool :=
  reads.all fun r => s.claimable r.band (reads.countP fun x => x.band == r.band)

/-- The first check of R109 that fails, from the range to the slots. -/
def State.getRefusal (s : State) (l : Link) (lsa count : Nat) : Option Status :=
  if !(1 ≤ count && count ≤ 256 && lsa + count ≤ s.logical) then some .range
  else match s.serviceRefusal with
    | some r => some r
    | none => if s.freeFetchSlot = none ∨ Config.slotsPerLink ≤ s.slotsInUse l then some .busy else none

/-- The checks of R109 on what a Get resolves to. -/
def State.mediaRefusal (s : State) (reads : List FetchRead) : Option Status :=
  if reads.isEmpty then none
  else if s.path = .down then some .mediaDown
  else if s.asleep then some .asleep
  else if s.claimsGranted reads then none
  else some .busy

/-- A Get that passed its checks takes its slot, its claims and its reads, and asks for a release where it needs one. -/
def State.startGet (s : State) (k : Key) (i : Fin 16) (lsa count : Nat) (sectors : List SlotSector) (reads : List FetchRead) :
    State :=
  let s := s.enterTable k .get
  let s := s.modSlot i fun _ =>
    { state := .active, key := k, lsa := lsa, count := count, next := 0, sectors := sectors, mediaDown := false }
  let s := reads.foldl (fun s r => s.claimRead r.band) s
  let s := { s with fetchList := s.fetchList ++ reads }
  if reads.isEmpty then s else s.release

/-- A Get on a link in NORMAL mode (R109). -/
def State.takeGet (s : State) (k : Key) (lsa count : Nat) : State :=
  match s.getRefusal k.origin lsa count with
  | some r => s.answerNow k 2 r .none
  | none => match s.freeFetchSlot with
    | none => s.answerNow k 2 .busy .none
    | some i =>
      let sectors := s.resolve lsa count
      let reads := s.readsOf i sectors
      match s.mediaRefusal reads with
      | some r => s.answerNow k 2 r .none
      | none => s.startGet k i lsa count sectors reads

/-! ### Pattern mode (R123) -/

/-- The pattern sector of an LSA. -/
def patternSector (x : Nat) : Sector := (List.range 4096).map fun j => BitVec.ofNat 8 (x + j)

/-- A Get on a link in PATTERN mode holds an entry alone; its frames follow one after another as the link sends them. -/
def State.takePatternGet (s : State) (k : Key) (lsa count : Nat) : State :=
  if !(1 ≤ count && count ≤ 256 && lsa + count ≤ s.logical) then s.answerNow k 2 .range .none
  else if s.service = .starting then s.answerNow k 2 .starting .none
  else s.enterTable k (.patternGet lsa count 0)

/-- A data frame of a request. -/
def OutFrame.isDataOf (k : Key) (f : OutFrame) : Bool :=
  f.origin == k.origin && f.tag == k.tag && match f.body with
    | .data _ _ _ => true
    | _ => false

/-- The data frame of one offset of a pattern Get. -/
def ReqEntry.patternFrame (e : ReqEntry) (lsa offset : Nat) : OutFrame :=
  { tag := e.key.tag, origin := e.key.origin, redirected := e.redirected, holds := .nothing
    body := .data .ok offset (patternSector (lsa + offset)) }

/-- A pattern Get none of whose data frames waits in the transmit queue hands its next one to its reply link, and its response behind
the last (log 11). -/
def State.deliverPattern (s : State) (e : ReqEntry) : State :=
  match e.info with
  | .patternGet lsa count next =>
    if e.answered || e.discarded || (s.port e.reply).txq.any (OutFrame.isDataOf e.key) then s
    else
      let t := (s.modEntry e.key fun e => { e with info := .patternGet lsa count (next + 1) }).pushFrame e.reply
        (e.patternFrame lsa next)
      if next + 1 = count then t.answerEntry e.key .ok .none else t
  | _ => s

/-! ### Settling (R115 to R118) -/

/-- Sectors of a Get are settled with a status; MEDIA_ERROR has zero data. -/
def FetchSlot.settle (offsets : List Nat) (status : SectorStatus) (x : FetchSlot) : FetchSlot :=
  { x with sectors := x.sectors.mapIdx fun o t =>
    if offsets.contains o then { t with status := some status, data := if status = .ok then t.data else zeroSector } else t }

def FetchSlot.isActive (x : FetchSlot) : Bool := x.state == .active

/-- A read whose positions left unread call for a REREAD of them (R115). -/
def FetchRead.reread (f : FetchRead) (left : List (Nat × Nat)) : FetchRead :=
  let ps := left.map (·.1)
  { f with first := lowest ps, count := highest ps - lowest ps + 1, needed := left, stage := .reread, timeouts := 0 }

/-- Positions end as MEDIA_ERROR with the band suspect, and the read is released (R116, R117). -/
def State.failRead (s : State) (f : FetchRead) (left : List (Nat × Nat)) : State :=
  ((s.modSlot f.slot (FetchSlot.settle (left.map (·.2)) .mediaError)).setSuspect f.band).releaseRead f.band

/-- A completion of a fetch read (R115, R116). read says which positions count as read. A slot in ENDING only has the read
released (R121). -/
def State.fetchCompleted (s : State) (f : FetchRead) (read : Nat → Bool) : State :=
  if (s.slot f.slot).isActive then
    let got := f.needed.filter fun x => read x.1
    let left := f.needed.filter fun x => !read x.1
    let s := s.modSlot f.slot (FetchSlot.settle (got.map (·.2)) .ok)
    if left.isEmpty then s.releaseRead f.band
    else match f.stage with
      | .initial => { s with fetchList := s.fetchList ++ [f.reread left] }
      | .reread => s.failRead f left
  else s.releaseRead f.band

/-- Sectors settled at an entry into DOWN: MEDIA_ERROR, no suspect, and the slot's response will be MEDIA_DOWN (R118). -/
def State.downRead (s : State) (f : FetchRead) : State :=
  let s :=
    if (s.slot f.slot).isActive then
      s.modSlot f.slot fun x => { FetchSlot.settle (f.needed.map (·.2)) .mediaError x with mediaDown := true }
    else s
  s.releaseRead f.band

/-- A fetch read failed as TIMED_OUT (R117), at an entry into DOWN where down is set (R118). -/
def State.fetchTimedOut (s : State) (f : FetchRead) (down : Bool) : State :=
  if !(s.slot f.slot).isActive then s.releaseRead f.band
  else if f.timeouts = 1 then s.failRead f f.needed
  else if down then s.downRead f
  else { s with fetchList := s.fetchList ++ [{ f with timeouts := 1 }] }

/-- R118: the reads of the fetch read list at an entry into DOWN. -/
def State.fetchDown (s : State) : State := s.fetchList.foldl State.downRead { s with fetchList := [] }

/-! ### Delivery (R119, R120) -/

/-- The settled sectors from the next offset on. -/
def FetchSlot.sendable (x : FetchSlot) : List SlotSector := (x.sectors.drop x.next).takeWhile fun t => t.status.isSome

/-- The final status of a Get (R120). -/
def FetchSlot.finalStatus (x : FetchSlot) : Status :=
  if x.mediaDown then .mediaDown
  else if x.sectors.any fun t => t.status == some .lost || t.status == some .mediaError then .partial_
  else .ok

/-- The data frames of settled sectors, from an offset on. -/
def dataFrames (k : Key) (redirected : Bool) (first : Nat) (sectors : List SlotSector) : List OutFrame :=
  sectors.mapIdx fun i t =>
    { tag := k.tag, origin := k.origin, redirected := redirected, holds := .nothing,
      body := .data (t.status.getD .ok) (first + i) t.data }

/-- One slot: the frames that may go join the transmit queue of the reply link; after the last, the final response does, and the
slot is FREE. -/
def State.deliverSlot (s : State) (i : Fin 16) : State :=
  let x := s.slot i
  if x.isActive then
    match s.entry x.key with
    | none => s
    | some e =>
      let ready := x.sendable
      let s := s.modPort e.reply fun p => { p with txq := p.txq ++ dataFrames x.key e.redirected x.next ready }
      if x.next + ready.length = x.count then
        (s.answerEntry x.key x.finalStatus .none).modSlot i fun _ => FetchSlot.empty
      else s.modSlot i fun x => { x with next := x.next + ready.length }
  else s

/-- Every slot, in the order of their numbers, and the pattern Gets in the order they were taken (log 9). -/
def State.deliver (s : State) : State :=
  let t := allQueues.foldl State.deliverSlot s
  t.table.foldl State.deliverPattern t

/-! ### Cancellation (R121) -/

/-- An ACTIVE slot becomes ENDING; its reads on the list are removed and released. -/
def State.cancelSlot (s : State) (i : Fin 16) : State :=
  if (s.slot i).isActive then
    let mine := s.fetchList.filter fun r => r.slot == i
    let s := { s with fetchList := s.fetchList.filter fun r => r.slot != i }
    let s := mine.foldl (fun s r => s.releaseRead r.band) s
    s.modSlot i fun x => { x with state := .ending }
  else s

/-- A slot in ENDING with no read left becomes FREE. -/
def State.freeEnded (s : State) : State :=
  s.mapSlots fun i x => if x.state = .ending ∧ !s.slotReads i then FetchSlot.empty else x

/-- Data of a delivered sector lands in the slot region at the place for its offset (R94, R115). -/
def State.fetchDelivered (s : State) (f : FetchRead) (position : Nat) (data : Sector) : State :=
  if (s.slot f.slot).isActive then
    let offsets := (f.needed.filter fun x => x.1 == position).map (·.2)
    s.modSlot f.slot fun x =>
      { x with sectors := x.sectors.mapIdx fun o t => if offsets.contains o then { t with data := data } else t }
  else s

end Sys2Proof.Machine
end

