-- ==== Sys2Proof/Machine/Placement.lean ====
section
/-! DEFINITION. The Placement Engine (chapter 4): the choice of a queue at a grant, the opening of a band, the building of a track
and the issue of its write order. -/

namespace Sys2Proof.Machine

/-! ### Building a track (R76) -/

/-- A record taken as a piece at an offset (R77). -/
def Fragment.piece (offset : Nat) (r : Fragment) : Piece :=
  { reloc := r.kind == .reloc, lsa := r.lsa, length := r.length, offset := offset, sequence := r.sequence, source := r.source,
    origin := r.origin, attempts := r.attempts, acknowledged := r.acknowledged, drain := r.drain,
    stretches := [{ start := 0, length := r.length, data := r.data }] }

/-- What a walk gives: the pieces taken, the records left in the queue, and the record split, if any. -/
structure Build where
  pieces : List Piece
  left : List Fragment
  split : Option Fragment
deriving DecidableEq, Repr

/-- The walk of R76 over the records from the head: room sectors are left from an offset on, and slots pieces may still be
taken. A LOSTREL record passed over stays; it is resolved when the step is settled (R79, R86). -/
def buildWalk (canSplit : Bool) (room slots offset : Nat) : List Fragment → Build
  | [] => ⟨[], [], none⟩
  | r :: rest =>
    if room = 0 ∨ slots = 0 then ⟨[], r :: rest, none⟩
    else if r.kind = .lostrel then
      let b := buildWalk canSplit room slots offset rest
      { b with left := r :: b.left }
    else if r.filling ≠ 0 then ⟨[], r :: rest, none⟩
    else if r.length ≤ room then
      let b := buildWalk canSplit (room - r.length) (slots - 1) (offset + r.length) rest
      { b with pieces := r.piece offset :: b.pieces }
    else if canSplit then ⟨[(r.part 0 room).piece offset], r.part room (r.length - room) :: rest, some r⟩
    else ⟨[], r :: rest, none⟩

/-- A split may be made: a pool record is free and the headroom is at least 2 (R38, R76). -/
def State.canSplit (s : State) : Bool := 1 ≤ s.poolFree && 2 ≤ s.headroom

/-- The build for a queue on its band. -/
def State.build (s : State) (q : Fin 16) (b : Nat) : Build :=
  buildWalk s.canSplit (s.trackData b) Config.maxPieces 0 (s.queue q).records

/-! ### Issue (R79) -/

/-- The write order of a build, from the band's record and its profile (R77). -/
def State.orderOf (s : State) (q : Fin 16) (b : Nat) (r : Band) (pieces : List Piece) : WriteOrder :=
  { band := b, track := r.issued, generation := r.generation, profile := r.profile, verify := (s.shapeOf b).verify, queue := q,
    pieces := pieces, orphaned := false }

/-- The hold timer's order-issued event (R59). -/
def HoldTimer.orderIssued : HoldTimer → HoldTimer
  | .expired => .stopped
  | t => t

/-- The issue. The fetch-run count becomes 0 outside a space emergency (R98). -/
def State.issueWrite (s : State) (q : Fin 16) (b : Nat) (r : Band) (built : Build) (emergency : Bool) : State :=
  let order := s.orderOf q b r built.pieces
  let t := s.movePieces (built.split.bind (·.origin)) 1 2
  let t := t.modBand b fun r => { r with issued := r.issued + 1 }
  let t := t.modQueue q fun x => { x with records := built.left, timer := x.timer.orderIssued }
  (State.issue { t with lastServed := q, fetchRun := if emergency then s.fetchRun else 0 } (.write order)).noteFalls s

/-! ### A grant to placement (R74, R75) -/

/-- R10: a FREE band is opened for a queue. -/
def Band.open_ (q : Fin 16) (r : Band) : Band :=
  { r with state := .opened, queue := some q, issued := 0, completed := 0, skipped := 0, generation := (r.generation + 1) % 65536 }

/-- The track is built on the queue's band and issued, or the queue is stalled for POOL (R72). -/
def State.serveBand (s : State) (q : Fin 16) (b : Nat) (emergency : Bool) : State × Bool :=
  match s.bands[b]? with
  | none => (s, false)
  | some r =>
    let built := s.build q b
    if built.pieces.isEmpty then (s.modQueue q fun x => { x with poolStall := true }, false)
    else (s.issueWrite q b r built emergency, true)

/-- The chosen queue is worked through (R75). -/
def State.serveQueue (s : State) (q : Fin 16) (emergency : Bool) : State × Bool :=
  match s.boundBand q with
  | some b => s.serveBand q b emergency
  | none => match s.grantable q with
    | none => (s, false)
    | some b =>
      let s := s.modBand b (Band.open_ q)
      if s.ready q then s.serveBand q b emergency else (s, false)

/-- The queues in the arbiter's order, from the one after the given one (R74). -/
def roundFrom (q : Fin 16) : List (Fin 16) := allQueues.map fun k => q + 1 + k

/-- The next queue the arbiter chooses, among those offered and not tried at this grant. Whether there is a space emergency is read anew at
each choice (log 53). -/
def State.chooseQueue (s : State) (tried : List (Fin 16)) (last : Fin 16) : Option (Fin 16) :=
  if s.candidateQ15 && !tried.contains 15 then some 15
  else (roundFrom last).find? fun q => s.offered q && !tried.contains q

/-- The choices of one grant; each queue is tried at most once. -/
def placementLoop (emergency : Bool) : Nat → List (Fin 16) → Fin 16 → State → State × Bool
  | 0, _, _, s => (s, false)
  | n + 1, tried, last, s =>
    match s.chooseQueue tried last with
    | none => (s, false)
    | some q =>
      let r := s.serveQueue q emergency
      if r.2 then r else placementLoop emergency n (q :: tried) q r.1

/-- A grant to the write candidate. The Bool says whether an order was issued; otherwise the grant is declined (R75). -/
def State.placementGrant (s : State) : State × Bool := placementLoop s.emergency 16 [] s.lastServed s

end Sys2Proof.Machine
end

