-- ==== Sys2Proof/Machine/StartUp.lean ====
section
/-! DEFINITION. The start-up sequence (R176 to R179) and its reconciliation of the tracks in flight at a power loss. -/

namespace Sys2Proof.Machine

/-- R13: an OPEN band becomes CLOSED. -/
def Band.shut (b : Band) : Band := if b.state = .opened then { b with state := .closed, queue := none } else b

/-- R178: the tracks from completed up to issued become skipped. -/
def Band.skipRest (b : Band) : Band :=
  if b.completed < b.issued then
    { b with completed := b.issued, skipped := min 4 (b.skipped + (b.issued - b.completed)),
             retire := b.retire || 4 ≤ b.skipped + (b.issued - b.completed) }
  else b

/-- R178: every band's pending reads become 0, which may take a CLEANING band out (R17). -/
def State.clearReads (s : State) : State := (s.mapBands fun b => { b with pendingReads := 0 }).releaseEmptied

/-- R179: the part enters service. The pending reads are 0 then also where reconciliation was not reached (log 38). -/
def State.enterService (s : State) : State :=
  let s := s.clearReads.mapBands fun b => b.skipRest.shut.uncleaned
  let s := { s with service := .inService, stage := .done, startWait := false }
  if s.headroom < Config.mapLowLine then s.raiseBoth .mapLow s.headroom else s

/-- The next band whose issued exceeds completed has the footer of its track read, or reconciliation is over (R178, R179). -/
def State.nextFooter (s : State) : State :=
  match s.bands.findIdx? fun b => b.completed < b.issued with
  | none => s.enterService
  | some b => { s with stage := .reconcile b (((s.bands[b]?).map (·.completed)).getD 0) 0 false [] }

/-- R178: reconciliation begins; every band's pending reads become 0. On an UNFORMATTED part it is empty (R177). -/
def State.beginReconciliation (s : State) : State :=
  if s.formatNow = .formatted then s.clearReads.nextFooter else s.enterService

/-- A start-up or reinstall GEOMETRY is waiting or in the window. -/
def State.geometryOwed (s : State) : Bool :=
  (s.geometry.any fun g => match g.origin with
    | .loadProfile _ => false
    | _ => true) || s.window.any fun o => match o with
    | .geometry g => (match g.origin with
      | .loadProfile _ => false
      | _ => true)
    | _ => false

/-- R177: reconciliation begins when every start-up GEOMETRY, or every reinstall in its place, has completed DONE. -/
def State.advanceStartUp (s : State) : State :=
  if s.stage = .geometry ∧ s.path = .ready ∧ s.spindle.state = .spinning ∧ !s.geometryOwed then s.beginReconciliation else s

/-- One piece of a confirmed track is inserted (R178); the budget is the headroom (R36), sectors dropped raise DATA_LOST,
and a CLEANING band left with nothing valid leaves CLEANING (R17). -/
def State.insertFooterPiece (band base : Nat) (s : State) (p : FooterPiece) : State :=
  let run : Run := { lsa := p.lsa, length := p.length, sequence := p.sequence, location := some ⟨band, base + p.offset⟩ }
  let r := if p.kind = 0 then insertHost s.map run s.headroom else insertReloc s.map run p.source s.headroom
  let t := s.setMap r.entries
  ((t.noteHeadroom s.headroom t.headroom).raiseLost r.dropped).releaseEmptied

/-- R178: the footer read of a band's track has ended, with the footer's data where it was read. -/
def State.footerRead (s : State) (band track : Nat) (footer : Option Sector) : State :=
  let r := s.bands[band]?
  let found := footer.bind fun f => r.bind fun b => intactFooter f band b.generation track b.profile (s.shapeOf band).sectors
  let s := match found with
    | some pieces =>
      (pieces.foldl (State.insertFooterPiece band (track * s.trackData band)) s).modBand band fun b =>
        { b with completed := b.completed + 1 }
    | none => s.modBand band Band.skipRest
  s.nextFooter

/-- R177: start-up reads map memory. Without the format mark the Band Table, map and layout are not read. -/
def State.readMapMemory (s : State) : State :=
  let s := { s with profiles := Vector.ofFn fun i =>
    let p := s.profiles[i]
    if p.state = .updating then
      { state := p.before.getD .unset, shape := if p.before = some .active then p.shape else none, pending := none,
        before := none }
    else p }
  if s.format = .formatted then s else { s with layout := none, bands := [], map := [] }

/-- R177: the path is READY; Spindle Control enters STARTING and presents SPIN UP. -/
def State.startUpSpin (s : State) : State := State.startSpin { s with stage := .spinUp false }

/-- START_UP (R177): map memory is read and the wait for the sequencer's ready begins, with the path OFFLINE (R100). -/
def State.beginStartUp (s : State) : State :=
  if s.stage = .held then { s.readMapMemory with stage := .waitReady, path := .offline, startWait := true } else s

end Sys2Proof.Machine
end

