-- ==== Sys2Proof/Machine/MediaPort.lean ====
section
/-! DEFINITION. The Media Port (chapter 5): completions and sector data, the entries into RECOVERING and DOWN, the sequencer's
ready signal, and the media arbiter's grant. -/

namespace Sys2Proof.Machine

/-! ### Zone profiles (R4, R5) -/

/-- An UPDATING profile returns to its state before update, with its former values if that was ACTIVE. -/
def Profile.back (p : Profile) : Profile :=
  { state := p.before.getD .unset, shape := if p.before = some .active then p.shape else none, pending := none, before := none }

/-- A profile whose new shape is installed. -/
def Profile.installed (p : Profile) : Profile := { state := .active, shape := p.pending, pending := none, before := none }

/-- The Load Profile behind a GEOMETRY order ends without its shape (R4, R5). A reinstall or start-up order is dropped. -/
def State.geometryLost (s : State) (status : Status) (g : GeoOrder) : State :=
  match g.origin with
  | .loadProfile k => (s.modProfile g.profile Profile.back).answerEntry k status .none
  | .reinstall => s
  | .startUp => s

def GeoOrder.forLoad (g : GeoOrder) : Bool :=
  match g.origin with
  | .loadProfile _ => true
  | .reinstall => false
  | .startUp => false

/-! ### Orders failed as TIMED_OUT (R101, R102, R105) -/

/-- A footer read failed as TIMED_OUT: presented again once, then taken as not intact (R178). -/
def State.footerTimedOut (s : State) (r : ReadOrder) : State :=
  if r.timeouts = 0 then { s with stage := .reconcile r.band r.track 1 false [] } else s.footerRead r.band r.track none

/-- One order is failed as TIMED_OUT and handed to its owner; it has left the window already. -/
def State.failOrder (s : State) (down : Bool) : Order → State
  | .write w => s.writeFailed w
  | .read r => match r.owner with
    | .fetch f => s.fetchTimedOut f down
    | .relocation stale => if stale then s.releaseRead r.band else s.relocTimedOut r
    | .startUp => s.footerTimedOut r
  | .geometry g => s.geometryLost .mediaError g
  | .motion m => s.motionTimedOut m

/-- Every order of the window, oldest first. -/
def failOrders (down : Bool) : List Order → State → State
  | [], s => s
  | o :: rest, s => failOrders down rest (State.failOrder { s with window := rest } down o).orderLeft

/-- The Media Restarts not answered yet (R106). -/
def State.mediaRestarts (s : State) : List Key :=
  (s.table.filter fun e => e.info == .mediaRestart && !e.answered).map (·.key)

/-- What follows at an entry into DOWN once the window is failed (R105). -/
def State.withdrawAll (s : State) : State :=
  let waiting := s.geometry
  let s := State.fetchDown { s with geometry := [] }
  let s := (waiting.foldl (fun s g => s.geometryLost .mediaDown g) s).spindleDown
  let s := { s with deadline := none, recoveryWait := false, startWait := false, escalation := false, mediaReset := true }
  (s.raiseBoth .mediaDown 0).answerAll s.mediaRestarts .mediaDown

/-- The entry into DOWN (R105). During start-up the stages not reached are not performed (R177). -/
def State.enterDown (s : State) : State :=
  let s := (failOrders true s.window { s with path := .down }).withdrawAll
  if s.service = .starting then s.enterService else s

/-- A motion order in the window whose failure is the second failure of a spin-up (R144). -/
def State.secondSpinFailure (s : State) : Bool :=
  s.spindle.attempts == some 1 && s.window.any fun o => match o with
    | .motion m => m.up
    | _ => false

/-- The entry into RECOVERING (R101). Media reset is asserted and released within it (log 27). -/
def State.enterRecovering (s : State) : State :=
  let second := s.secondSpinFailure
  let s := failOrders false s.window { s with path := .recovering }
  let s := State.raiseBoth { s with
    deadline := none, mediaReset := false, recoveryWait := true, geometry := s.geometry.filter GeoOrder.forLoad } .mediaRecovering 0
  if second then s.enterDown else s

/-- A deadline expiry, or a sequencer fault taken as one (R91, R99, R104). -/
def State.mediaFault (s : State) : State :=
  if s.path = .ready then (if s.escalation then s.enterDown else s.enterRecovering) else s

/-! ### Completions (R90 to R96, R183) -/

/-- The status is one the order can return, and the unreadable list fits it. Statuses: 0 DONE, 1 VERIFY_FAILED, 2 WRITE_FAULT,
3 REJECTED, 4 FAULT. -/
def Order.accepts (c : Completion) : Order → Bool
  | .write _ => c.status ≤ 3 && c.unreadable.isEmpty
  | .read r =>
    (c.status == 0 && ascending c.unreadable && c.unreadable.all fun x => r.first ≤ x && x < r.first + r.count)
      || (c.status == 3 && c.unreadable.isEmpty)
  | .geometry _ => (c.status == 0 || c.status == 3) && c.unreadable.isEmpty
  | .motion _ => (c.status == 0 || c.status == 4) && c.unreadable.isEmpty

/-- A sector position counts as read: delivered, not listed, and the read DONE (R93). -/
def ReadOrder.counts (r : ReadOrder) (c : Completion) (position : Nat) : Bool :=
  c.status == 0 && r.delivered.contains position && !c.unreadable.contains position

/-- The footer delivered for the start-up read (R178). -/
def State.footerData (s : State) : Sector :=
  match s.stage with
  | .reconcile _ _ _ _ f => f
  | _ => []

/-- A motion order's completion (R140, R143, R144). -/
def State.motionCompleted (s : State) (m : Motion) (done : Bool) : State :=
  match done, m.up with
  | true, true => s.spunUp
  | true, false => s.comeToRest
  | false, false => s.returnSpinning .failed
  | false, true => if s.spindle.attempts = some 0 then (s.spinAgain m).enterRecovering else s.enterDown

/-- A GEOMETRY order's completion (R5, R95, R177). -/
def State.geometryCompleted (s : State) (g : GeoOrder) (done : Bool) : State :=
  match g.origin, done with
  | .loadProfile k, true => (s.modProfile g.profile Profile.installed).answerEntry k .ok .none
  | .loadProfile _, false => s.geometryLost .rejected g
  | _, true => s
  | _, false => s.enterDown

/-- A READ TRACK's completion, to its owner (R93). -/
def State.readCompleted (s : State) (r : ReadOrder) (c : Completion) : State :=
  match r.owner with
  | .fetch f => s.fetchCompleted f (r.counts c)
  | .relocation stale => if stale then s.releaseRead r.band else s.relocRead r (r.counts c)
  | .startUp => s.footerRead r.band r.track (if r.counts c r.first then some s.footerData else none)

/-- An order that has left the window is handed to its owner with its completion. -/
def State.orderCompleted (s : State) (c : Completion) : Order → State
  | .write w => if c.status = 0 then s.writeDone w else s.writeFailed w
  | .read r => s.readCompleted r c
  | .geometry g => s.geometryCompleted g (c.status == 0)
  | .motion m => s.motionCompleted m (c.status == 0)

/-- A completion record arrives (R90, R91, R181, R183). -/
def State.takeCompletion (s : State) (kind : Nat) (c : Completion) : State :=
  if s.path ≠ .ready then s
  else match s.window with
    | [] => s.mediaFault
    | o :: rest =>
      if c.check = checkValue (completionBytes kind c) ∧ o.code = kind ∧ o.accepts c then
        (State.startDeadline { s with window := rest }).orderLeft.orderCompleted c o
      else s.mediaFault

/-! ### Sector data (R91, R94) -/

/-- Data of a delivered sector lands in the owner's buffer space. -/
def State.landSector (s : State) (r : ReadOrder) (sector : Nat) (data : Sector) : State :=
  match r.owner with
  | .fetch f => s.fetchDelivered f sector data
  | .relocation stale =>
    if stale then s else s.setHand (s.engine.hand.map (TrackInHand.deliver (s.trackData r.band) sector data))
  | .startUp => match s.stage with
    | .reconcile b t n i _ => { s with stage := .reconcile b t n i data }
    | _ => s

def ReadOrder.expects (r : ReadOrder) (sector : Nat) : Bool :=
  r.first ≤ sector && sector < r.first + r.count && !r.delivered.contains sector

/-- A sector delivery record arrives. -/
def State.takeSector (s : State) (sector : Nat) (data : Sector) (check : BitVec 32) : State :=
  if s.path ≠ .ready then s
  else match s.window with
    | .read r :: rest =>
      if check = checkValue (deliveryBytes sector data) ∧ r.expects sector then
        State.landSector { s with window := .read { r with delivered := r.delivered ++ [sector] } :: rest } r sector data
      else s.mediaFault
    | _ => s.mediaFault

/-! ### The sequencer's ready signal (R100, R103) -/

/-- The reinstalls a start-up has been given stand in place of its own GEOMETRY orders (R177). -/
def StartStage.reinstalled : StartStage → StartStage
  | .spinUp _ => .spinUp true
  | x => x

/-- R100, R103. A ready given while the reset pin is held is not the one start-up waits for, and changes nothing (log 24). -/
def State.sequencerReady (s : State) : State :=
  match s.path with
  | .offline =>
    if s.stage = .held then s
    else
      let s := { s with path := .ready, startWait := false }
      if s.stage = .waitReady then s.startUpSpin else s
  | .recovering =>
    let s := { s with
      path := .ready, recoveryWait := false, escalation := true, stage := s.stage.reinstalled
      geometry := s.reinstalls .reinstall ++ s.geometry.filter GeoOrder.forLoad }
    s.answerAll s.mediaRestarts .ok
  | .ready => s
  | .down => s

/-! ### The media arbiter (R97, R98) -/

/-- The next class is tried where the one before issued nothing. -/
def orTry (r : State × Bool) (f : State → State × Bool) : State × Bool := if r.2 then r else f r.1

/-- The fetch-run count after a fetch read is issued; candidate says whether the write candidate stood at the grant. -/
def State.ranFetch (s : State) (emergency candidate : Bool) : State :=
  if emergency then s else { s with fetchRun := if candidate then min 8 (s.fetchRun + 1) else 0 }

/-- A fetch read, or the start-up's footer read, which ranks with it. -/
def State.grantFetch (emergency candidate : Bool) (s : State) : State × Bool :=
  match s.stage with
  | .reconcile b t n false f =>
    let order : ReadOrder :=
      { owner := .startUp, band := b, track := t, profile := ((s.bands[b]?).map (·.profile)).getD 0,
        first := (s.shapeOf b).sectors - 1, count := 1, timeouts := n, delivered := [] }
    ((State.issue { s with stage := .reconcile b t n true f } (.read order)).ranFetch emergency candidate, true)
  | _ => match s.fetchList with
    | [] => (s, false)
    | f :: rest =>
      let order : ReadOrder :=
        { owner := .fetch f, band := f.band, track := f.track, profile := f.profile, first := f.first, count := f.count,
          timeouts := f.timeouts, delivered := [] }
      ((State.issue { s with fetchList := rest } (.read order)).ranFetch emergency candidate, true)

def State.grantRelocRead (s : State) : State × Bool := if s.relocPresented then s.grantReloc else (s, false)

def State.grantWrite (stands : Bool) (s : State) : State × Bool := if stands then s.placementGrant else (s, false)

/-- The classes below GEOMETRY, which need a SPINNING spindle (R89). -/
def State.grantTransfer (s : State) : State × Bool :=
  let emergency := s.emergency
  let candidate := s.candidate
  let q15 := candidate && s.candidateQ15
  if emergency then
    orTry (orTry (orTry s.grantRelocRead (State.grantWrite q15)) (State.grantFetch emergency candidate))
      (State.grantWrite (candidate && !q15))
  else if s.fetchRun = 8 ∧ candidate then
    orTry (orTry (State.grantWrite candidate s) (State.grantFetch emergency candidate)) State.grantRelocRead
  else orTry (orTry (State.grantFetch emergency candidate s) (State.grantWrite candidate)) State.grantRelocRead

def Order.isMotion : Order → Bool
  | .motion _ => true
  | _ => false

/-- One grant of the media arbiter. Where no claimant can be granted, nothing is issued. -/
def State.grantMedia (s : State) : State :=
  if s.path ≠ .ready ∨ Config.windowSize ≤ s.window.length ∨ s.window.any Order.isMotion then s
  else match s.spindle.motion with
    | some m =>
      if s.window.isEmpty then State.issue { s with spindle := { s.spindle with motion := none } } (.motion m) else s
    | none => match s.geometry with
      | g :: rest => State.issue { s with geometry := rest } (.geometry g)
      | [] => if s.spindle.state = .spinning then s.grantTransfer.1 else s

end Sys2Proof.Machine
end

