-- ==== Sys2Proof/Machine/Staging.lean ====
section
/-! DEFINITION. What follows for Puts, Flushes and hold timers once a step has changed the records: the responses of Puts (R52,
R53, R173), the clearing of drain marks (R61) and the hold timers (R59). -/

namespace Sys2Proof.Machine

/-! ### Answers of Puts -/

/-- The Put has received all its data frames (R51). -/
def PutInfo.filled (p : PutInfo) : Bool := p.next == p.count

/-- The Put still takes data frames (R51). -/
def PutInfo.filling (p : PutInfo) : Bool := p.next < p.count && !p.settling

/-- The Put's answer is due: a non-durable Put when filled, a durable one when no piece is outstanding besides, and a Put settled
by a reset or an abandonment when none is (R52, R53, R156, R173). -/
def PutInfo.due (p : PutInfo) : Bool := if p.settling then p.pieces == 0 else p.filled && (!p.durable || p.pieces == 0)

/-- The status of a Put's response (R52, R53, R173). -/
def Outcome.status : Outcome → Status
  | .none => .ok
  | .mediaError => .mediaError
  | .aborted => .aborted

def PutInfo.result (p : PutInfo) : Result := .put (some p.sequence) p.queue.val p.almostFull

/-- R52: a record, and a piece in flight, of an answered non-durable Put. -/
def Fragment.acknowledge (k : Key) (r : Fragment) : Fragment :=
  if r.origin = some k then { r with acknowledged := true, origin := none } else r

def Piece.acknowledge (k : Key) (p : Piece) : Piece :=
  if p.origin = some k then { p with acknowledged := true, origin := none } else p

/-- R52: the records descended from a non-durable Put are acknowledged and name no origin request. -/
def State.acknowledge (s : State) (k : Key) : State :=
  (s.mapQueues fun _ q => { q with records := q.records.map (Fragment.acknowledge k) }).mapWrites fun w =>
    { w with pieces := w.pieces.map (Piece.acknowledge k) }

/-- The final response of a Put. -/
def State.answerPut (s : State) (k : Key) (p : PutInfo) : State :=
  let s := if !p.durable && !p.settling then s.acknowledge k else s
  s.answerEntry k p.outcome.status p.result

/-- One entry: a Put not answered yet whose answer is due is answered. -/
def State.answerPutEntry (s : State) (e : ReqEntry) : State :=
  match e.info with
  | .put p => if p.due && !e.answered then s.answerPut e.key p else s
  | _ => s

/-- Every Put whose answer is due, in the order the Puts were taken. -/
def State.answerPuts (s : State) : State := s.table.foldl State.answerPutEntry s

/-! ### Drain marks (R60, R61) -/

/-- A Flush waits on some mark. -/
def State.flushWaits (s : State) (k : Key) : Bool := hostQueues.any fun q => (s.queue q).waiting.contains k

/-- A mark whose drain set has become empty. -/
def State.markCleared (s : State) (q : Fin 16) : Bool := (s.queue q).mark && !s.draining q

/-- The marks whose drain sets have become empty clear, and every Flush that waits on no other mark is answered OK. -/
def State.clearMarks (s : State) : State :=
  let waiting := (hostQueues.filter s.markCleared).flatMap fun q => (s.queue q).waiting
  let t := s.mapQueues fun q x => if s.markCleared q then { x with mark := false, waiting := [] } else x
  waiting.foldl (fun s k => if s.flushWaits k then s else s.answerEntry k .ok .none) t

/-! ### Hold timers (R59, R79) -/

/-- The stopping rules of a hold timer: complete is the complete data at the head, ready says that it reaches the track size or
stands ahead of a drain mark. -/
def HoldTimer.stops (complete : Nat) (ready : Bool) : HoldTimer → HoldTimer
  | .stopped => .stopped
  | .running i => if complete = 0 ∨ ready then .stopped else .running i
  | .expired => if complete = 0 then .stopped else .expired

/-- The start rule. -/
def HoldTimer.starts (mark : Bool) (hold complete track : Nat) : HoldTimer → HoldTimer
  | .stopped => if !mark ∧ 0 < hold ∧ 0 < complete ∧ complete < track then .running hold else .stopped
  | t => t

/-- A queue's hold timer worked out again. Q15 has none. -/
def State.timerOf (s : State) (q : Fin 16) : HoldTimer :=
  let x := s.queue q
  if q.val < 15 then
    HoldTimer.starts x.mark x.hold (s.completeData q) (s.trackSize q)
      (x.timer.stops (s.completeData q) (s.trackSize q ≤ s.completeData q || s.aheadOfMark q))
  else .stopped

def State.holdTimers (s : State) : State := s.mapQueues fun q x => { x with timer := s.timerOf q }

end Sys2Proof.Machine
end

