-- ==== Sys2Proof/Machine/Resets.lean ====
section
/-! DEFINITION. The work of a level 1 or level 2 reset (R171 to R175) and the Reset request. -/

namespace Sys2Proof.Machine

/-! ### Staged records (R172) -/

/-- The acknowledged records of Q0 to Q14, in ascending order of sequence. -/
def State.acknowledgedRecords (s : State) : List Fragment :=
  sortBy (·.sequence) (hostQueues.flatMap fun q => (s.queue q).records.filter fun r => r.kind == .host && r.acknowledged)

/-- The host-form LOST conversion of one acknowledged record; released counts the records converted before it, which are no
longer in use (log 29). -/
def convertRecord (acc : State × Nat) (r : Fragment) : State × Nat :=
  let budget := acc.1.freeEntries + 2 - 2 * (acc.1.inUse - acc.2)
  let run : Run := { lsa := r.lsa, length := r.length, sequence := r.sequence, location := none }
  let i := insertHost acc.1.map run budget
  let t := acc.1.setMap i.entries
  let u := t.noteHeadroom (acc.1.freeEntries - 2 * (acc.1.inUse - acc.2)) (t.freeEntries - 2 * (t.inUse - (acc.2 + 1)))
  (u.raiseLost (i.entered ++ i.dropped), acc.2 + 1)

def State.convertRecords (s : State) : State := (s.acknowledgedRecords.foldl convertRecord (s, 0)).1

/-! ### Puts (R173) -/

/-- Records of a Put that the reset discards. -/
def State.recordsOf (s : State) (k : Key) : Nat :=
  (hostQueues.flatMap fun q => (s.queue q).records).countP fun r => r.origin == some k

/-- Records of a Put held by write orders in flight. -/
def State.flightOf (s : State) (k : Key) : Nat :=
  (s.allPieces.map fun p => if p.origin = some k then p.stretches.length else 0).sum

/-- A Put not answered yet stops taking data, and waits for its pieces in flight alone. -/
def State.settlePut (s : State) (k : Key) (p : PutInfo) : PutInfo :=
  { p with
    settling := true, pieces := s.flightOf k
    outcome := if p.filling || 0 < s.recordsOf k then p.outcome.record .aborted else p.outcome }

/-- What a reset does to an entry. -/
def State.settleEntry (s : State) (e : ReqEntry) : ReqEntry :=
  if e.answered then e else { e with info := e.info.modPut (s.settlePut e.key) }

/-! ### Queues and write orders -/

/-- The Flushes that wait on a mark. -/
def State.waitingFlushes (s : State) : List Key := hostQueues.flatMap fun q => (s.queue q).waiting

/-- A queue emptied by a reset. Its fill state is NORMAL whatever its offset (R58, R172; log 41). -/
def Queue.emptied (q : Queue) : Queue :=
  { q with records := [], almostFull := false, timer := .stopped, mark := false, waiting := [], poolStall := false }

/-- R85: a write order in flight at a reset. The drain marks are cleared with the reset. -/
def WriteOrder.orphan (w : WriteOrder) : WriteOrder :=
  { w with orphaned := true, pieces := w.pieces.map fun p => { p with drain := false } }

/-- R121: an ACTIVE slot is answered ABORTED and cancelled. -/
def State.abortSlot (s : State) (i : Fin 16) : State :=
  if (s.slot i).isActive then (s.answerEntry (s.slot i).key .aborted .none).cancelSlot i else s

/-! ### The reset (R172) -/

/-- R175. -/
def Port.defaults (p : Port) : Port := { p with enabled := Notice.all, selection := none, pattern := false }

def Queue.defaults (q : Queue) : Queue :=
  { q with depth := Config.defaultDepth, offset := Config.defaultOffset, hold := Config.defaultHold }

def State.defaults (s : State) : State :=
  State.mapQueues { s with
    portA := s.portA.defaults, portB := s.portB.defaults, intervals := [], defaultQueue := 0, marks := SpaceMarks.default
    scope := ErrorScope.default, orderLimit := Config.defaultOrderLimit } fun _ q => q.defaults

/-- The pattern Gets not answered yet. -/
def State.patternGets (s : State) : List Key := (s.table.filter fun e => e.info.isPattern && !e.answered).map (·.key)

/-- The work of a level 1 (one set) or level 2 reset. The conversions may let a CLEANING band leave before relocation is abandoned
(R17); it is abandoned before the Gets are cancelled, so that a victim whose last claims were theirs has returned to its prior state by
then (log 51). The reset is in progress while an order that was in the window at its taking has not left it, and where the window was empty it
ends as the step is settled (R171). -/
def State.performReset (s : State) (one : Bool) : State :=
  let s := s.convertRecords.releaseEmptied
  let s := { s with table := s.table.map s.settleEntry }
  let flushes := s.waitingFlushes
  let s := ((s.mapQueues fun _ q => q.emptied).mapWrites WriteOrder.orphan).mapBands Band.shut
  let s := allQueues.foldl State.abortSlot s.resetEngine
  let s := (s.answerAll s.patternGets .aborted).answerAll flushes .aborted
  let s := s.answerPuts
  let s := if one then s.defaults else s
  { s with resetWaits := some s.window.length }

/-- A Reset request (R171). One answered at its taking is answered like any other request answered then: it keeps its receive slot and
never stands in the reset record (log 12). -/
def State.takeReset (s : State) (k : Key) (level : Nat) : State :=
  if level = 1 ∨ level = 2 then
    let s := s.performReset (level = 1)
    if s.window.isEmpty then s.answerNow k 13 .ok .none
    else State.freeSlot { s with
      resetRecord := some { key := k, reply := k.origin, redirected := false, discarded := false } } k.origin
  else s.answerNow k 13 .failed .none

/-- The response of the Reset in the reset record: it joins the transmit queue of its reply link, or is discarded; the record is
empty then (R153, R171; log 12). -/
def State.answerReset (s : State) (r : ResetRecord) : State :=
  let s := { s with resetRecord := none }
  if r.discarded then s
  else s.pushFrame r.reply
    { tag := r.key.tag, origin := r.key.origin, redirected := r.redirected, holds := .resetTag, body := .response 13 .ok .none }

/-- R171: the last of the orders a reset waits for has left the window. -/
def State.finishReset (s : State) : State :=
  if s.resetWaits = some 0 then
    let s := { s with resetWaits := none }
    match s.resetRecord with
    | none => s
    | some r => s.answerReset r
  else s

end Sys2Proof.Machine
end

