-- ==== Sys2Proof/Machine/Links.lean ====
section
/-! DEFINITION. The link ports (chapter 9): arrivals, credits, link errors, Hold Link, and link failures under the error scope. -/

namespace Sys2Proof.Machine

/-! ### States of a port -/

/-- R148: the entry into READY. -/
def Port.toReady (p : Port) : Port :=
  { p with state := .ready, rx := [], txq := [], creditsHeld := 0, creditsGranted := Config.linkCredits, sending := none }

/-- R151, R152: the entry into ERROR or HELD. The pending notice set is kept. The two credit counts keep the values they had, and are
not used before the entry into READY sets them (log 43). -/
def Port.cut (state : LinkState) (p : Port) : Port := { p with state := state, rx := [], txq := [], sending := none }

/-- The code of the link state in a PEER_LINK detail (chapter 12): 0 RUNNING, 1 ERROR, 2 HELD. -/
def peerDetail : LinkState → Nat
  | .error => 1
  | .held => 2
  | _ => 0

/-! ### Settling what a failed link leaves (R153 to R156) -/

/-- R156: a Put still filling is abandoned: its filling records go, and it waits for its remaining pieces. -/
def State.abandonPut (s : State) (k : Key) : State :=
  let mine (r : Fragment) : Bool := r.origin == some k && r.filling != 0
  let n := (hostQueues.flatMap fun q => (s.queue q).records).countP mine
  let s := s.mapQueues fun _ q => { q with records := q.records.filter fun r => !mine r }
  s.modPut k fun p => { p with settling := true, pieces := p.pieces - n, outcome := p.outcome.record .aborted }

/-- The Puts of a link still filling. -/
def State.fillingPuts (s : State) (l : Link) : List Key :=
  (s.table.filter fun e => e.key.origin == l && !e.answered && match e.info with
    | .put p => p.filling
    | _ => false).map (·.key)

def State.abandonPuts (s : State) (l : Link) : State := (s.fillingPuts l).foldl State.abandonPut s

/-- An abandoned Put that waits for no piece is resolved at once, and answered (R155). -/
def State.answerAbandoned (s : State) (k : Key) : State :=
  match s.putInfo k with
  | some p => if p.due then s.answerPut k p else s
  | none => s

def ReqEntry.discard (l : Link) (e : ReqEntry) : ReqEntry := if e.reply = l then { e with discarded := true } else e

def ResetRecord.discard (l : Link) (r : ResetRecord) : ResetRecord := if r.reply = l then { r with discarded := true } else r

def ReqEntry.redirect (l : Link) (e : ReqEntry) : ReqEntry :=
  if e.reply = l then { e with reply := l.other, redirected := true } else e

def ResetRecord.redirect (l : Link) (r : ResetRecord) : ResetRecord :=
  if r.reply = l then { r with reply := l.other, redirected := true } else r

/-- The responses owed on a failed link are discarded: an entry already answered is released with its frame, a pattern Get at once, for
it ends there (R123), and every other when its response is due. -/
def State.discardOwed (s : State) (l : Link) : State :=
  { s with
    table := (s.table.filter fun e => !(e.reply == l && (e.answered || e.info.isPattern))).map (ReqEntry.discard l)
    resetRecord := s.resetRecord.map (ResetRecord.discard l) }

/-- PART scope (R153): a level 2 reset, or a share in the one in progress. -/
def State.failPart (s : State) (l : Link) : State :=
  let s := s.discardOwed l
  if s.resetting then s else s.performReset false

/-- A frame that belongs to an entry or to the Reset, redirected to the surviving link; immediate answers are discarded (R153,
R155). -/
def OutFrame.redirect (f : OutFrame) : Option OutFrame :=
  match f.holds with
  | .slotAndTag => none
  | .slot => none
  | _ => some { f with redirected := true }

/-- LINK scope with a paired survivor (R155). frames are those the failed link's transmit queue held: they join the survivor's behind the
answers of the Puts abandoned that wait for no piece (log 47). -/
def State.failPaired (s : State) (l : Link) (state : LinkState) (frames : List OutFrame) : State :=
  let s := { s with
    table := s.table.map (ReqEntry.redirect l), resetRecord := s.resetRecord.map (ResetRecord.redirect l) }
  let s := (s.fillingPuts l).foldl State.answerAbandoned (s.abandonPuts l)
  let s := s.modPort l.other fun p => { p with txq := p.txq ++ frames.filterMap OutFrame.redirect }
  s.raise l.other .peerLink (peerDetail state)

/-- A Get whose reply link has failed without a survivor is cancelled and its entry released (R121, R156). -/
def State.dropGet (s : State) (i : Fin 16) : State :=
  let k := (s.slot i).key
  if (s.slot i).isActive && (s.entry k).any (·.discarded) then (s.cancelSlot i).dropEntry k else s

/-- LINK scope without a survivor (R156). -/
def State.failUnpaired (s : State) (l : Link) : State :=
  allQueues.foldl State.dropGet ((s.discardOwed l).abandonPuts l)

/-- A RUNNING link enters ERROR or HELD: a link failure, taken under the error scope in force (R151 to R153). -/
def State.linkFails (s : State) (l : Link) (state : LinkState) : State :=
  let frames := (s.port l).txq
  let s := s.modPort l (Port.cut state)
  if s.service = .starting then s
  else if !s.scope.link then s.failPart l
  else if s.scope.paired ∧ (s.port l.other).state = .running then s.failPaired l state frames
  else s.failUnpaired l

/-! ### Units received (R147 to R151) -/

/-- A unit arrives: a READY link becomes RUNNING, and PEER_LINK is raised on the other (R148, R157). -/
def State.unitArrives (s : State) (l : Link) : State :=
  if (s.port l).state = .ready then (s.modPort l fun p => { p with state := .running }).raise l.other .peerLink 0 else s

/-- An IDLE (R147). -/
def State.idleArrives (s : State) (l : Link) : State := s.unitArrives l

/-- A CREDIT (R150). -/
def State.creditArrives (s : State) (l : Link) : State :=
  let s := s.unitArrives l
  if (s.port l).state = .running then
    if (s.port l).creditsHeld = Config.linkCredits then s.linkFails l .error
    else s.modPort l fun p => { p with creditsHeld := p.creditsHeld + 1 }
  else s

/-- A FRAME, with what its check value says of it (R149, R151). -/
def State.frameArrives (s : State) (l : Link) (good : Bool) (f : InFrame) : State :=
  let s := s.unitArrives l
  if (s.port l).state = .running then
    if !good || (s.port l).creditsGranted == 0 then s.linkFails l .error
    else s.modPort l fun p => { p with rx := p.rx ++ [f], creditsGranted := p.creditsGranted - 1 }
  else s

/-- 16 µs with no unit received (R151). -/
def State.linkSilent (s : State) (l : Link) : State :=
  if (s.port l).state = .running then s.linkFails l .error else s

/-- The quiet interval ends (R151). -/
def State.quietEnds (s : State) (l : Link) : State :=
  if (s.port l).state = .error then s.modPort l Port.toReady else s

/-! ### Hold Link (R152) -/

/-- The effect of HOLD on the named link. -/
def State.holdLink (s : State) (l : Link) : State :=
  match (s.port l).state with
  | .running => s.linkFails l .held
  | .ready => s.modPort l (Port.cut .held)
  | .error => s.modPort l (Port.cut .held)
  | .held => s

/-- A Hold Link request with action HOLD. -/
def State.takeHold (s : State) (k : Key) (named : Nat) : State :=
  if named = k.origin.other.code then (s.holdLink k.origin.other).answerNow k 14 .ok .none
  else s.answerNow k 14 .invalid .none

/-- A Hold Link request with action RELEASE. -/
def State.takeRelease (s : State) (k : Key) (named : Nat) : State :=
  if named = k.origin.other.code then
    if (s.port k.origin.other).state = .held then (s.modPort k.origin.other Port.toReady).answerNow k 14 .ok .none
    else s.answerNow k 14 .state .none
  else s.answerNow k 14 .invalid .none

/-! ### Units sent (R150, R167) -/

/-- What a frame held is released once it has been sent whole (R149, R160). -/
def State.frameReleases (s : State) (l : Link) (f : OutFrame) : State :=
  match f.holds with
  | .slotAndTag => s.freeSlot l
  | .slot => s.freeSlot l
  | .entry => s.dropEntry ⟨f.origin, f.tag⟩
  | .resetTag => s
  | .nothing => s

/-- The frame being transmitted has been sent. -/
def State.frameGone (s : State) (l : Link) : State :=
  match (s.port l).sending, (s.port l).txq with
  | some .frame, f :: rest =>
    (s.modPort l fun p => { p with txq := rest, creditsHeld := p.creditsHeld - 1, sending := none }).frameReleases l f
  | _, _ => s

/-- A port whose notice has been sent. -/
def Port.noticeGone (p : Port) : Port :=
  match p.sending with
  | some (.notice k) =>
    { p with pending := p.pending.filter fun n => n.kind != k, creditsHeld := p.creditsHeld - 1, sending := none }
  | some .cleared => { p with creditsHeld := p.creditsHeld - 1, sending := none }
  | _ => p

/-- The unit a port begins to transmit: an enabled pending notice of the highest priority, else the frame at the head of its
transmit queue (R150). -/
def Port.nextUnit (p : Port) : Option Sending :=
  match p.pending.find? fun n => p.enabled.contains n.kind with
  | some n => some (.notice n.kind)
  | none => if p.txq.isEmpty then none else some .frame

def Port.begin_ (p : Port) : Port :=
  if p.state = .running ∧ p.sending = none ∧ 0 < p.creditsHeld then { p with sending := p.nextUnit } else p

def State.beginSending (s : State) : State := { s with portA := s.portA.begin_, portB := s.portB.begin_ }

end Sys2Proof.Machine
end

