-- ==== Sys2Proof/Machine/Settle.lean ====
section
/-! DEFINITION. What every command brings about in the same step once its own effect is made: the standing conditions of the
rules, taken as they stand at the end of the step, with edges measured from the state before it (log 7). -/

namespace Sys2Proof.Machine

/-! ### The start of an automatic relocation run (R126) -/

/-- A FULL or CLOSED band other than the deferred band has retire or suspect set. -/
def State.flaggedBand (s : State) : Bool :=
  s.bands.zipIdx.any fun x => (x.1.state == .full || x.1.state == .closed) && (x.1.retire || x.1.suspect)
    && s.engine.deferred != some x.2

/-- A candidate other than the deferred band exists. -/
def State.otherCandidate (s : State) : Bool := s.bands.zipIdx.any fun x => x.1.candidate && s.engine.deferred != some x.2

/-- The start conditions that do not concern the spindle. -/
def State.relocationDue (s : State) : Bool :=
  s.engine.state == .idle && !s.resetting && s.service == .inService && s.formatNow == .formatted && s.otherCandidate
    && (s.freeBands ≤ s.marks.low || s.flaggedBand)

/-- What R126's tests look at in a band record. -/
def Band.signal (b : Band) : BandState × Bool × Bool × Bool := (b.state, b.completed == b.issued, b.retire, b.suspect)

/-- An event at which the engine tests its start conditions came about in the step; ended says that a reset ended in it. -/
def relocationTested (ended : Bool) (old new : State) : Bool :=
  ended || old.engine.state != .idle || old.service != new.service || old.format != new.format || old.marks != new.marks
    || (old.engine.deferred.isSome && new.engine.deferred.isNone)
    || old.bands.map Band.signal != new.bands.map Band.signal

/-- The spindle lets a run start: SPINNING; STARTING, at a test; or at rest with PLACE in the release set. -/
def State.relocationSpindle (s : State) (tested : Bool) : Bool :=
  match s.spindle.state with
  | .spinning => true
  | .starting => tested || s.placeReleases
  | _ => s.placeReleases

/-- An IDLE engine starts an automatic run, and asks for a release where the spindle rests. -/
def State.startRelocation (s old : State) (ended : Bool) : State :=
  if s.relocationDue && s.relocationSpindle (relocationTested ended old s) then
    let s := { s with engine := { s.engine with state := .selecting, run := some .auto } }
    if s.placeReleases then s.release else s
  else s

/-! ### Stalls and notices -/

/-- R72: a pool record released or a headroom risen clears every POOL stall. -/
def State.clearStalls (s old : State) : State :=
  if s.inUse < old.inUse ∨ old.headroom < s.headroom then s.clearPoolStalls else s

/-- R71: SPACE_LOW for every ready queue that has entered the SPACE stall, the one whose MEDIA or SPINDLE reason has ceased ahead of it
among them (log 52). -/
def State.raiseSpace (s old : State) : State :=
  (allQueues.filter fun q => s.spaceStalled q && !old.spaceStalled q).foldl
    (fun s _ => s.raiseBoth .spaceLow s.freeBands) s

/-- R141: a queue newly offered, or a relocation read newly presented, asks for a release where PLACE allows it. Each is an event: one
that stood before the step asks no second time (log 22). -/
def State.askRelease (s old : State) : State :=
  if s.placeReleases && (allQueues.any (fun q => s.offered q && !old.offered q)
      || (s.relocPresented && s.presentedRead != old.presentedRead)) then s.release
  else s

/-- R58: the fill states, each worked out again where what it is worked out from has changed, and left NORMAL by a reset taken in the
step (R172; log 41). A Set of the thresholds works its queue's out by itself (R57). -/
def State.storeFills (s old : State) : State :=
  s.mapQueues fun q x =>
    if s.resetting && !old.resetting || s.fillOf q == old.fillOf q then x else { x with almostFull := s.fillsUp q }

/-- R70: the stall reason of every queue as it stands. -/
def State.storeStalls (s : State) : State := s.mapQueues fun q x => { x with stall := s.stallOf q }

/-! ### The whole -/

/-- The records: start-up, the map's LOSTREL records, the bands, the engine and the Gets. -/
def State.settleRecords (s : State) : State :=
  s.advanceStartUp.resolveLostrels.releaseEmptied.advanceEngine.deliver.freeEnded

/-- The requests that wait, the fill states and the reset in progress. -/
def State.settleRequests (s old : State) : State := (s.answerPuts.clearMarks.storeFills old).finishReset

/-- The engine's start, the timers, the stalls and the notices. ended says that a reset ends in the step. -/
def State.settleWork (s old : State) (ended : Bool) : State :=
  ((((s.startRelocation old ended).holdTimers.clearStalls old).askRelease old).raiseSpace old)

def State.settle (s old : State) : State :=
  let t := s.settleRecords
  ((t.settleRequests old).settleWork old (t.resetWaits == some 0)).storeStalls.beginSending

end Sys2Proof.Machine
end

