-- ==== Sys2Proof/Machine/Queries.lean ====
section
/-! DEFINITION. The records a Query returns (R165): each is a list of fields in the order its rule gives them, each field of the
fewest whole bytes its range needs (R180; log 20). -/

namespace Sys2Proof.Machine

/-- A field that is not absent, and one that may be. -/
abbrev num (bytes value : Nat) : Field := .num bytes value
abbrev opt (bytes : Nat) (value : Option Nat) : Field := .opt bytes value

/-- A location, absent or present whole (R20, R23). -/
def placeField (d : Option Location) : Field := .parts (d.map fun d => [(3, d.band), (3, d.index)])

/-- A Request Table entry named in a record, absent or present whole: its origin link and tag (log 20). -/
def keyField (k : Option Key) : Field := .parts (k.map fun k => [(1, k.origin.code), (2, k.tag.toNat)])

/-- A flag that is set or clear: 1 for set, 0 for clear, as a frame's own flags are coded. R180 codes states and statuses alone
(DESIGN CHOICE, log 20). -/
abbrev flag (b : Bool) : Field := .num 1 (bit b)

/-- The time left to a running timer's expiry: a free value within the timer's interval (log 14). -/
def State.timeLeft (s : State) (interval : Nat) : Nat := Config.freeTime s.freeCount % (interval + 1)

/-- One reading of a free value. -/
def State.countRead (s : State) : State := { s with freeCount := s.freeCount + 1 }

/-- R9. The retire and suspect flags are 1 for set and 0 for clear (log 20). -/
def Band.fields (b : Band) : List Field :=
  [num 1 b.state.code, num 1 b.profile, num 1 b.issued, num 1 b.completed, num 1 b.skipped, num 3 b.valid, num 1 b.pendingReads,
   opt 1 (b.queue.map (·.val)), num 2 b.generation, flag b.retire, flag b.suspect, opt 1 (b.prior.map priorCode)]

/-- The interval of a running hold timer. -/
def HoldTimer.interval? : HoldTimer → Option Nat
  | .running i => some i
  | _ => none

/-- A value a host queue has and Q15 has not (R57). -/
def hostOnly (q : Fin 16) (v : Nat) : Option Nat := if q.val < 15 then some v else none

/-- R165. The Flushes that wait on the mark are given as a count (log 20). While FORMATTING the bound band and the stall reason are those
of the Band Table of before the Format (log 50). -/
def State.queueFields (s : State) (q : Fin 16) : List Field :=
  let x := s.queue q
  [num 3 (s.occupancy q), num 3 x.depth, flag x.almostFull, opt 3 (hostOnly q x.offset), opt 2 (hostOnly q x.hold),
   opt 1 (hostOnly q x.timer.code), opt 2 (x.timer.interval?.map s.timeLeft), flag x.mark, num 1 x.waiting.length,
   num 1 x.stall.code, opt 3 (s.boundBand q), num 2 x.records.length, num 3 (s.completeData q)]

/-- The state of an entry (R20): 0 VALID, 1 LOST. -/
def Entry.stateCode (e : Entry) : Nat := if e.location.isSome then 0 else 1

/-- R23, R41: the sector's sequence, state and place; the covering entry, field by field (R20); or the start of the next entry above. A
place and a location are one field each (R180). -/
def State.lookupFields (s : State) (x : Nat) : List Field :=
  let e := lookup s.map x
  [opt 6 (e.map (·.sequence)), opt 1 (e.map (·.stateCode)), placeField (e.bind (·.placeOf x)),
   opt 5 (e.map (·.start)), opt 3 (e.map (·.length)), opt 6 (e.map (·.sequence)), opt 1 (e.map (·.stateCode)),
   placeField (e.bind (·.location)),
   opt 5 (if e.isSome then none else some (nextStart s.map x s.logical))]

def State.retiredBands (s : State) : Nat := s.bands.countP fun b => b.state == .retired

/-- R165: the counts. Between a level 0 reset and START_UP they are those of the records in map memory, though the format state reads
UNFORMATTED (log 49). -/
def State.countFields (s : State) : List Field :=
  [num 1 s.formatNow.code, flag (s.service == .inService), num 3 s.freeBands, num 3 s.retiredBands, num 2 s.poolFree,
   num 3 s.freeEntries, num 2 s.reservedEntries, num 3 s.headroom, num 6 s.sequence]

/-- The band and track an order names (R88). -/
def Order.names : Order → Option (Nat × Nat)
  | .write w => some (w.band, w.track)
  | .read r => some (r.band, r.track)
  | _ => none

def Order.fields (o : Order) : List Field := [num 1 o.code, opt 3 (o.names.map (·.1)), opt 1 (o.names.map (·.2))]

/-- A value present in PARKING and STOPPING only (R138). -/
def SpindleState.moving : SpindleState → Bool
  | .parking => true
  | .stopping => true
  | _ => false

def State.spindleFields (s : State) : List Field :=
  let x := s.spindle
  [num 1 x.state.code, opt 1 (x.resting.map (·.code)), opt 1 (x.release.map (·.code)), opt 3 x.wakeInterval,
   flag x.wakeTimer.isSome, opt 3 (x.wakeTimer.map s.timeLeft),
   opt 1 (if x.state.moving then some (bit x.releasePending) else none), keyField x.quiesce,
   opt 1 x.attempts, opt 1 (if x.state = .spinning then none else some x.wakes.length)] ++
    x.wakes.flatMap fun k => [num 1 k.origin.code, num 2 k.tag.toNat]

def State.mediaFields (s : State) : List Field :=
  num 1 s.window.length :: s.window.flatMap Order.fields ++ [num 1 s.path.code, flag s.escalation, num 2 s.orderLimit]
    ++ s.spindleFields

/-- The live sectors and read pieces of the track in hand: those fixed at its read's issue, or as the map stands before it. -/
def State.handCounts (s : State) (h : TrackInHand) : Nat × Nat :=
  if h.fixed then (h.live.length, (h.live.map (·.piece)).dedup.length)
  else
    let ps := s.piecesOn (s.engine.victim.getD 0) h.track
    (pieceSectors ps, ps.length)

/-- The track in hand: its track, phase and read stage, and the counts of its live sectors and read pieces (R124). -/
def State.handField (s : State) : Field :=
  .parts (s.engine.hand.map fun h =>
    [(1, h.track), (1, h.phase.code), (1, h.stage.code), (2, (s.handCounts h).1), (2, (s.handCounts h).2)])

/-- R124, R125. -/
def State.relocationFields (s : State) : List Field :=
  let e := s.engine
  [num 1 e.state.code, opt 1 (e.run.map (·.code)), keyField e.clean, opt 3 e.victim, opt 1 e.cursor, s.handField, opt 3 e.deferred,
   num 1 s.marks.reserve, num 1 s.marks.low, num 1 s.marks.high]

/-- The tags an origin link's entries hold (R158). -/
def State.tagsOf (s : State) (l : Link) : List Tag := (s.table.filter fun e => e.key.origin == l).map (·.key.tag)

/-- The write selection's code: 255 is ROUTED (R180). -/
def selectionCode (x : Option (Fin 15)) : Nat := (x.map (·.val)).getD 255

/-- R148, R158, and a link's settings and notices (R165). The pending set is coded like the enable set (R180), and the detail and
repeated flag of each of its kinds follow in priority order (log 20). -/
def State.linkFields (s : State) (l : Link) : List Field :=
  let p := s.port l
  [num 1 p.state.code, num 1 p.creditsHeld, num 1 p.creditsGranted, num 1 (s.tagsOf l).length, num 1 (s.slotsInUse l),
   flag p.pattern] ++ (s.tagsOf l).map (fun t => num 2 t.toNat) ++
    [num 1 (selectionCode p.selection), num 2 (noticeSet (p.pending.map (·.kind)))] ++
    (p.pending.flatMap fun n => [num 5 n.detail, flag n.repeated]) ++ [num 2 (noticeSet p.enabled)]

def State.linksFields (s : State) : List Field := s.linkFields .a ++ s.linkFields .b ++ [num 1 s.table.length]

def shapeFields (x : Option Shape) : List Field :=
  [opt 2 (x.map (·.sectors)), opt 1 (x.map (·.tracks)), opt 1 (x.map fun g => bit g.verify)]

/-- R2. -/
def Profile.fields (p : Profile) : List Field :=
  [num 1 p.state.code] ++ shapeFields p.shape ++ shapeFields p.pending ++
    [opt 1 (p.before.map fun b => if b = .active then 1 else 0)]

/-- The current value of a Set item (R163), in the order of R180's table of Set values: the default queue ahead of the intervals
(log 20); for the link mode, the requesting link's. -/
def State.settingFields (s : State) (l : Link) : Nat → Option (List Field)
  | 1 => some (allQueues.map fun q => num 3 (s.queue q).depth)
  | 2 => some (hostQueues.flatMap fun q => [num 3 (s.queue q).offset, num 2 (s.queue q).hold])
  | 3 => some ([num 1 s.defaultQueue.val, num 1 s.intervals.length] ++
      s.intervals.flatMap fun i => [num 5 i.first, num 5 i.last, num 1 i.queue])
  | 4 => some [num 1 s.marks.reserve, num 1 s.marks.low, num 1 s.marks.high]
  | 5 => some [flag (s.port l).pattern]
  | 6 => some [flag s.scope.link, flag s.scope.paired]
  | 7 => some [num 2 (noticeSet s.portA.enabled), num 2 (noticeSet s.portB.enabled)]
  | 8 => some [num 2 s.orderLimit]
  | _ => none

/-! ### Answers (R165, R166) -/

/-- The refusal of a Query that needs the layout. -/
def State.layoutRefusal (s : State) : Option Status :=
  match s.formatNow with
  | .unformatted => some .unformatted
  | .formatting => some .busy
  | .formatted => none

/-- A Query's answer: the record asked for, or the refusal. -/
def State.answerQuery (s : State) (k : Key) (r : Except Status (List Field)) : State :=
  match r with
  | .ok fields => s.answerNow k 8 .ok (.record fields)
  | .error status => s.answerNow k 8 status .none

def State.bandRecord (s : State) (b : Nat) : Except Status (List Field) :=
  match s.layoutRefusal with
  | some r => .error r
  | none => match s.bands[b]? with
    | none => .error .range
    | some r => .ok r.fields

def State.queueRecord (s : State) (q : Nat) : Except Status (List Field) :=
  if h : q < 16 then .ok (s.queueFields ⟨q, h⟩) else .error .invalid

def State.mapLookup (s : State) (x : Nat) : Except Status (List Field) :=
  match s.layoutRefusal with
  | some r => .error r
  | none => if x < s.logical then .ok (s.lookupFields x) else .error .range

def State.profileRecord (s : State) (n : Nat) : Except Status (List Field) :=
  if n < 8 then .ok (s.profile n).fields else .error .invalid

def State.setting (s : State) (l : Link) (item : Nat) : Except Status (List Field) :=
  match s.settingFields l item with
  | some fields => .ok fields
  | none => .error .invalid

end Sys2Proof.Machine
end

