-- ==== Sys2Proof/Machine/Requests.lean ====
section
/-! DEFINITION. The Request Unit (R159, R160, R182) and what each owner does with a request of each kind. Every operation here
works on the state in which the frame has left the receive buffer. -/

namespace Sys2Proof.Machine

/-! ### Taking a frame (R159, R160) -/

/-- A frame that is still to be sent holds a tag. -/
def OutFrame.holdsTag (k : Key) (f : OutFrame) : Bool :=
  (f.holds == .slotAndTag || f.holds == .resetTag) && f.origin == k.origin && f.tag == k.tag

/-- A tag is in use on its link. -/
def State.tagInUse (s : State) (k : Key) : Bool :=
  s.table.any (·.has k) || s.resetRecord.any (fun r => r.key == k) || s.portA.txq.any (OutFrame.holdsTag k)
    || s.portB.txq.any (OutFrame.holdsTag k)

/-- The table has no room for a request of a link. -/
def State.tableFull (s : State) (l : Link) : Bool :=
  Config.tableSize ≤ s.table.length || Config.tablePerLink ≤ s.table.countP fun e => e.key.origin == l

def Request.isQuery (r : Request) : Bool := r.kind == 8
def Request.isReset (r : Request) : Bool := r.kind == 13

def Request.isSetLinkMode : Request → Bool
  | .setLinkMode _ => true
  | _ => false

/-- A kind taken on a link in PATTERN mode (R122). -/
def Request.inPattern (r : Request) : Bool := r.kind == 2 || r.isQuery || r.isSetLinkMode

/-- A kind that reports STARTING among its own checks, or is taken while the part is not in service: Put, Get, Trim, Clean,
Query, Quiesce and Wake. -/
def Request.ownStarting (r : Request) : Bool := [1, 2, 3, 6, 8, 11, 12].contains r.kind

/-- Checks 2 to 6 of R159. -/
def State.requestRefusal (s : State) (k : Key) (r : Request) : Option Status :=
  if s.tagInUse k then some .tagInUse
  else if s.resetting && !r.isQuery then some .busy
  else if s.tableFull k.origin && !(r.isQuery || r.isReset) then some .busy
  else if (s.port k.origin).pattern && !r.inPattern then some .mode
  else if s.service == .starting && !r.ownStarting then some .starting
  else none

/-- The state in which a command's frame is looked for: a command whose link's receive buffer is empty stands for the frame's
arrival as well as for its taking (log 5). good says that the frame's check value is right. -/
def State.frameReady (s : State) (l : Link) (good : Bool) (f : InFrame) : State :=
  if (s.port l).rx.isEmpty then s.frameArrives l good f else s

/-- The state once a frame at the head of the receive buffer has left it; none where another frame stands there, or none. -/
def State.frameTaken (s : State) (l : Link) (f : InFrame) : Option State :=
  match (s.port l).rx with
  | [] => none
  | g :: rest => if g = f then some (s.modPort l fun p => { p with rx := rest }) else none

/-- The frame at the head of the receive buffer is taken. A command that names another frame changes nothing (log 5). -/
def State.takeFrame (s : State) (l : Link) (good : Bool) (f : InFrame) (meaning : State → State) : State :=
  match (s.frameReady l good f).frameTaken l f with
  | none => s.frameReady l good f
  | some p => meaning p

/-- A request is refused under R159, or handed to its owner. The tag is looked at here, at the taking of the frame, whenever it
arrived (log 5). -/
def State.handOver (s : State) (k : Key) (r : Request) (owner : Key → State → State) : State :=
  match s.requestRefusal k r with
  | some status => s.answerNow k r.kind status .none
  | none => owner k s

/-- A request frame is taken. -/
def State.takeRequest (s : State) (l : Link) (tag : Tag) (r : Request) (owner : Key → State → State) : State :=
  s.takeFrame l true (.request tag r) fun s => s.handOver ⟨l, tag⟩ r owner

/-- The answer of a request whose whole effect is made at its taking, as a function of its check. -/
def State.answerIf (s : State) (k : Key) (kind : Nat) (ok : Bool) (refusal : Status) (effect : State → State) : State :=
  if ok then (effect s).answerNow k kind .ok .none else s.answerNow k kind refusal .none

/-! ### Put (R46, R49, R50) -/

/-- The target queue of a Put (R46). -/
def State.targetQueue (s : State) (l : Link) (lsa : Nat) : Fin 15 :=
  match (s.port l).selection with
  | some q => q
  | none => match s.intervals.find? fun i => i.first ≤ lsa && lsa ≤ i.last with
    | some i => if h : i.queue < 15 then ⟨i.queue, h⟩ else s.defaultQueue
    | none => s.defaultQueue

/-- A host queue as one of the sixteen. -/
abbrev hostQueue (q : Fin 15) : Fin 16 := q.castSucc

/-- Checks 1 to 3 of R49, behind the check of the durability. -/
def State.putRefusal (s : State) (lsa count durability : Nat) : Option Status :=
  if 1 < durability then some .invalid
  else if !(1 ≤ count && count ≤ 256 && lsa + count ≤ s.logical) then some .range
  else match s.serviceRefusal with
    | some r => some r
    | none => if s.path = .down then some .mediaDown else none

/-- Checks 4 to 7 of R49. -/
def State.roomRefusal (s : State) (q : Fin 16) (count : Nat) : Option Status :=
  if s.space q < count then some .full
  else if s.poolFree < 1 then some .poolEmpty
  else if s.headroom < 2 then some .mapFull
  else if s.sequence = Config.lastSequence then some .failed
  else none

/-- The record a Put is admitted with (R50). -/
def putRecord (k : Key) (lsa count sequence : Nat) : Fragment :=
  { kind := .host, lsa := lsa, length := count, sequence := sequence, filling := count, origin := some k, attempts := 0,
    source := none, acknowledged := false, drain := false, data := [] }

/-- The admission of a Put (R50). -/
def State.admitPut (s : State) (k : Key) (q : Fin 15) (lsa count durability : Nat) : State :=
  let before := (s.queue (hostQueue q)).almostFull
  let s1 := s.modQueue (hostQueue q) fun x => { x with records := x.records ++ [putRecord k lsa count s.sequence] }
  let after := s1.fillsUp (hostQueue q)
  let s2 := State.enterTable { s1 with sequence := s.sequence + 1 } k (.put
    { lsa := lsa, count := count, durable := durability == 1, sequence := s.sequence, queue := q, almostFull := after, next := 0,
      settling := false, pieces := 1, outcome := .none })
  (if after && !before then s2.raise k.origin .queueAlmostFull q.val else s2).noteFalls s

def State.takePut (lsa count durability : Nat) (k : Key) (s : State) : State :=
  match s.putRefusal lsa count durability with
  | some r => s.answerNow k 1 r .none
  | none =>
    let q := s.targetQueue k.origin lsa
    match s.roomRefusal (hostQueue q) count with
    | some r => s.answerNow k 1 r (.put none q.val (s.queue (hostQueue q)).almostFull)
    | none => s.admitPut k q lsa count durability

/-! ### Data frames of a Put (R51, R64, R182) -/

/-- The sector at an LSA still awaited by a record of a Put: its data joins the record's. -/
def Fragment.receive (k : Key) (x : Nat) (data : Sector) (r : Fragment) : Fragment :=
  if r.origin = some k ∧ 0 < r.filling ∧ x = r.lsa + r.data.length then
    { r with data := r.data ++ [data], filling := r.filling - 1 }
  else r

/-- A data frame a filling Put expects is accepted. -/
def State.acceptData (s : State) (k : Key) (p : PutInfo) (data : Sector) : State :=
  (s.modPut k fun p => { p with next := p.next + 1 }).modQueue (hostQueue p.queue) fun q =>
    { q with records := q.records.map (Fragment.receive k (p.lsa + p.next) data) }

/-- The data frame has the form of an inbound one (R182). -/
def dataInForm (f : DataFrame) : Bool := f.data.length == 4096 && f.status == 0 && f.flags == 0 && f.origin == 0

def State.takeData (s : State) (l : Link) (f : DataFrame) : State :=
  match s.putInfo ⟨l, f.tag⟩ with
  | some p => if dataInForm f && p.filling && p.next == f.offset then s.acceptData ⟨l, f.tag⟩ p f.data else s
  | none => s

/-! ### Trim (R62) -/

def State.trimRefusal (s : State) (lsa count : Nat) : Option Status :=
  if !(1 ≤ count && lsa + count ≤ s.logical) then some .range
  else match s.serviceRefusal with
    | some r => some r
    | none =>
      if s.poolFree < s.recordNeed lsa (lsa + count) then some .poolEmpty
      else if s.headroom < s.entryNeed lsa (lsa + count) then some .mapFull
      else if s.sequence = Config.lastSequence then some .failed
      else none

def State.takeTrim (lsa count : Nat) (k : Key) (s : State) : State :=
  match s.trimRefusal lsa count with
  | some r => s.answerNow k 3 r .none
  | none =>
    (State.applyTrim { s with sequence := s.sequence + 1 } lsa (lsa + count)).answerNow k 3 .ok (.trim s.sequence)

/-! ### Flush (R60, R161) -/

/-- The host queues a Flush names; 255 is ALL. -/
def flushQueues (queue : Nat) : List (Fin 16) :=
  if queue = 255 then hostQueues else hostQueues.filter fun q => q.val == queue

/-- A queue has something for a drain set: a record, or a piece in flight. -/
def State.drainable (s : State) (q : Fin 16) : Bool :=
  !(s.queue q).records.isEmpty || (s.ordersOf q).any fun w => w.pieces.any fun p => !p.stretches.isEmpty

/-- A mark is set behind the present tail: every record and every piece in flight joins the drain set. -/
def State.setMark (k : Key) (s : State) (q : Fin 16) : State :=
  let s := s.modQueue q fun x =>
    { x with mark := true, waiting := x.waiting ++ [k], records := x.records.map fun r => { r with drain := true } }
  s.mapWrites fun w => if w.queue = q then { w with pieces := w.pieces.map fun p => { p with drain := true } } else w

def State.takeFlush (queue : Nat) (k : Key) (s : State) : State :=
  if 14 < queue ∧ queue ≠ 255 then s.answerNow k 4 .invalid .none
  else match s.layoutRefusal with
    | some r => s.answerNow k 4 r .none
    | none =>
      let qs := (flushQueues queue).filter s.drainable
      if qs.isEmpty then s.answerNow k 4 .ok .none
      else qs.foldl (State.setMark k) (s.enterTable k .flush)

/-! ### Select, Clean -/

/-- R47. -/
def State.takeSelect (queue : Nat) (k : Key) (s : State) : State :=
  if h : queue < 15 then
    (s.modPort k.origin fun p => { p with selection := some ⟨queue, h⟩ }).answerNow k 5 .ok .none
  else if queue = 255 then (s.modPort k.origin fun p => { p with selection := none }).answerNow k 5 .ok .none
  else s.answerNow k 5 .invalid .none

/-- The checks of R127; 0xFFFFFFFF is AUTO. -/
def State.cleanRefusal (s : State) (band : Nat) : Option Status :=
  if s.formatNow = .formatted ∧ band ≠ 0xFFFFFFFF ∧ s.bands.length ≤ band then some .invalid
  else match s.serviceRefusal with
    | some r => some r
    | none =>
      if (if band = 0xFFFFFFFF then s.bands.any Band.candidate else (s.bands[band]?).any Band.candidate) then
        (if s.engine.state = .idle then none else some .busy)
      else some .state

/-- R127: a Clean that passes starts its run at once. The start is no cause of a release: where the spindle rests with PLACE in the release
set, one is asked when the run presents a read (log 46). -/
def State.takeClean (band : Nat) (k : Key) (s : State) : State :=
  match s.cleanRefusal band with
  | some r => s.answerNow k 6 r .none
  | none =>
    State.enterTable { s with engine := { Engine.reset with
      state := .selecting, run := some (if band = 0xFFFFFFFF then .auto else .single), clean := some k
      target := if band = 0xFFFFFFFF then none else some band } } k .clean

/-! ### Set (R163) -/

/-- R56. -/
def State.takeDivision (depths : List Nat) (k : Key) (s : State) : State :=
  if !(depths.length == 16 && depths.all (· ≤ Config.stagingSectors) && Config.relocationDepth ≤ depths.getD 15 0
      && depths.sum ≤ Config.stagingSectors) then s.answerNow k 7 .invalid .none
  else s.answerIf k 7 ((allQueues.all fun q => (s.queue q).records.isEmpty) && s.writeOrders.isEmpty) .busy fun s =>
    let changed (q : Fin 16) : Bool := (s.queue q).depth != depths.getD q.val 0
    let t := s.mapQueues fun q x => { x with depth := depths.getD q.val 0, offset := min x.offset (depths.getD q.val 0) }
    t.mapBands fun b => if b.queue.any changed then b.shut else b

/-- Both thresholds of a host queue are replaced, and its fill state is worked out again at once under the new offset, whether or not
that differs from the one before (R57). -/
def State.setThresholds (s : State) (q : Fin 16) (offset hold : Nat) : State :=
  let t := s.modQueue q fun x => { x with offset := offset, hold := hold }
  t.modQueue q fun x => { x with almostFull := t.fillsUp q }

/-- R57. -/
def State.takeThresholds (v : Option (Nat × Nat × Nat)) (k : Key) (s : State) : State :=
  match v with
  | none => s.answerNow k 7 .invalid .none
  | some (queue, offset, hold) =>
    if h : queue < 15 then
      let q : Fin 16 := hostQueue ⟨queue, h⟩
      s.answerIf k 7 (offset ≤ (s.queue q).depth && hold ≤ 60000) .invalid fun s =>
        s.setThresholds q offset hold
    else s.answerNow k 7 .invalid .none

/-- An interval follows the last LSA of the one before, if any (R48). -/
def intervalsSorted : Option Nat → List Interval → Bool
  | _, [] => true
  | before, i :: rest =>
    i.first ≤ i.last && i.last < Config.maxLogical && i.queue < 15 && before.all (· < i.first) && intervalsSorted (some i.last) rest

/-- R48. -/
def State.takeIntervals (v : Option (Nat × List Interval)) (k : Key) (s : State) : State :=
  match v with
  | none => s.answerNow k 7 .invalid .none
  | some (default, is) =>
    if h : default < 15 then
      s.answerIf k 7 (is.length ≤ 32 && intervalsSorted none is) .invalid fun s =>
        { s with intervals := is, defaultQueue := ⟨default, h⟩ }
    else s.answerNow k 7 .invalid .none

/-- R125. -/
def State.takeMarks (v : Option (Nat × Nat × Nat)) (k : Key) (s : State) : State :=
  match v with
  | none => s.answerNow k 7 .invalid .none
  | some (reserve, low, high) =>
    s.answerIf k 7 (1 ≤ reserve && reserve < low && low < high && high ≤ 64) .invalid fun s =>
      { s with marks := ⟨reserve, low, high⟩ }

/-- R122: BUSY while the link has an entry, ahead of the check of the value (log 40). -/
def State.takeLinkMode (v : Option Nat) (k : Key) (s : State) : State :=
  if s.table.any fun e => e.key.origin == k.origin then s.answerNow k 7 .busy .none
  else match v with
    | none => s.answerNow k 7 .invalid .none
    | some mode => s.answerIf k 7 (mode ≤ 1) .invalid fun s => s.modPort k.origin fun p => { p with pattern := mode == 1 }

/-- R154. -/
def State.takeScope (v : Option (Nat × Nat)) (k : Key) (s : State) : State :=
  match v with
  | none => s.answerNow k 7 .invalid .none
  | some (scope, pairing) =>
    s.answerIf k 7 (scope ≤ 1 && pairing ≤ scope) .invalid fun s => { s with scope := ⟨scope == 1, pairing == 1⟩ }

/-- The link a byte names (R180). -/
def linkOf : Nat → Option Link
  | 0 => some .a
  | 1 => some .b
  | _ => none

/-- R164: a value that names a link and a subset of the ten kinds. -/
def State.takeKinds (v : Option (Nat × Nat)) (k : Key) (effect : List Notice → Port → Port) (s : State) : State :=
  match v with
  | none => s.answerNow k 7 .invalid .none
  | some (link, set) => match linkOf link with
    | none => s.answerNow k 7 .invalid .none
    | some l => s.answerIf k 7 (set < 1024) .invalid fun s => s.modPort l (effect (noticesOf set))

/-- R164: the enable set is replaced. The transmission of a notice whose kind is disabled meanwhile goes on, and at its end the kind leaves
the pending set (log 48). -/
def Port.enable (ks : List Notice) (p : Port) : Port := { p with enabled := ks }

/-- The transmission of a notice whose kind is cleared meanwhile goes on (R150). -/
def Sending.clear (ks : List Notice) : Sending → Sending
  | .notice n => if ks.contains n then .cleared else .notice n
  | x => x

/-- R164: kinds are removed from the pending set. -/
def Port.clearPending (ks : List Notice) (p : Port) : Port :=
  { p with pending := p.pending.filter (fun n => !ks.contains n.kind), sending := p.sending.map (Sending.clear ks) }

/-- R99. -/
def State.takeOrderLimit (v : Option Nat) (k : Key) (s : State) : State :=
  match v with
  | none => s.answerNow k 7 .invalid .none
  | some ms => s.answerIf k 7 (100 ≤ ms && ms ≤ 10000) .invalid fun s => { s with orderLimit := ms }

/-! ### Load Profile (R3) -/

/-- The data capacity of a band of a shape (R1). -/
def Shape.capacity (g : Shape) : Nat := g.tracks * (g.sectors - 1)

def bandsIn (r : LayoutRange) : Nat := r.last + 1 - r.first

/-- Check 4 of R7, under the capacity each profile's bands have. -/
def Layout.holds (capacity : Nat → Nat) (x : Layout) : Bool :=
  x.logical + 10 * highest (x.ranges.map fun r => capacity r.profile) ≤ (x.ranges.map fun r => (bandsIn r) * capacity r.profile).sum

/-- The capacity of a band of a profile, by its current shape. -/
def State.capacityOf (s : State) (n : Nat) : Nat := ((s.profile n).shape.map Shape.capacity).getD 0

/-- Some band of the layout is assigned to a profile. -/
def Layout.assigns (n : Nat) (x : Layout) : Bool := x.ranges.any fun r => r.profile == n

/-- Check 1 of R3. -/
def State.loadValid (s : State) (profile sectors tracks verify : Nat) : Bool :=
  profile < 8 && 64 ≤ sectors && sectors ≤ 1024 && 8 ≤ tracks && tracks ≤ 128 && verify ≤ 1 &&
    (s.format != .formatted || s.layout.all fun x =>
      !x.assigns profile || x.holds fun n => if n = profile then tracks * (sectors - 1) else s.capacityOf n)

def State.loadRefusal (s : State) (profile sectors tracks verify : Nat) : Option Status :=
  if !s.loadValid profile sectors tracks verify then some .invalid
  else if (s.profile profile).state = .updating ∨ s.format = .formatting then some .busy
  else if s.format = .formatted ∧ s.bands.any (fun b => b.profile == profile && b.state != .free) then some .inUse
  else if s.path = .down then some .mediaDown
  else none

/-- A profile becomes UPDATING with its pending values. -/
def Profile.update (g : Shape) (p : Profile) : Profile :=
  { state := .updating, shape := p.shape, pending := some g, before := some p.state }

def State.takeLoad (profile sectors tracks verify : Nat) (k : Key) (s : State) : State :=
  match s.loadRefusal profile sectors tracks verify with
  | some r => s.answerNow k 9 r .none
  | none =>
    let s := (s.modProfile profile (Profile.update ⟨sectors, tracks, verify == 1⟩)).enterTable k .loadProfile
    { s with geometry := s.geometry ++ [⟨profile, sectors, tracks, .loadProfile k⟩] }

/-! ### Format (R6 to R8) -/

/-- The ranges cover bands from a first one to B - 1, in order, without overlap or gap. -/
def rangesCover (bands : Nat) : Nat → List LayoutRange → Bool
  | next, [] => next == bands
  | next, r :: rest => r.first == next && r.first ≤ r.last && r.profile < 8 && rangesCover bands (r.last + 1) rest

/-- R6. -/
def Layout.wellFormed (x : Layout) : Bool :=
  1 ≤ x.logical && x.logical ≤ Config.maxLogical && 64 ≤ x.bands && x.bands ≤ 131072 && 1 ≤ x.ranges.length
    && x.ranges.length ≤ 8 && rangesCover x.bands 0 x.ranges

/-- Check 3 of R7 (log 33). -/
def State.formatQuiet (s : State) : Bool :=
  s.inUse == 0 && s.window.isEmpty && s.geometry.isEmpty && s.spindle.motion.isNone && s.fetchList.isEmpty
    && (allQueues.all fun i => (s.slot i).state == .free) && !(s.table.any fun e => e.info.isGet) && s.engine.state == .idle

def State.formatRefusal (s : State) (x : Layout) : Option Status :=
  if !x.wellFormed then some .invalid
  else if x.ranges.any fun r => (s.profile r.profile).state == .unset then some .state
  else if s.profiles.toList.any (fun p => p.state == .updating) ∨ s.format = .formatting then some .busy
  else if !s.formatQuiet then some .busy
  else if !x.holds s.capacityOf then some .invalid
  else none

def State.takeFormat (logical bands : Nat) (ranges : List LayoutRange) (k : Key) (s : State) : State :=
  let x : Layout := ⟨logical, bands, ranges⟩
  match s.formatRefusal x with
  | some r => s.answerNow k 10 r .none
  | none => State.enterTable { s with format := .formatting, formatting := some x } k .format

/-- A band record as Format writes it (R8). -/
def Band.formatted (profile : Nat) : Band :=
  { state := .free, profile := profile, issued := 0, completed := 0, skipped := 0, valid := 0, pendingReads := 0, queue := none,
    generation := 0, retire := false, suspect := false, prior := none }

/-- The Band Table of a layout. -/
def Layout.table (x : Layout) : List Band := x.ranges.flatMap fun r => List.replicate (bandsIn r) (Band.formatted r.profile)

/-- The Formats not answered yet. -/
def State.formats (s : State) : List Key := (s.table.filter fun e => e.info == .format && !e.answered).map (·.key)

/-- The format mark is written (R8). The fill states are NORMAL (R67; log 41). -/
def State.completeFormat (s : State) : State :=
  match s.format, s.formatting with
  | .formatting, some x =>
    let s := { s with
      format := .formatted, layout := some x, formatting := none, bands := x.table, map := []
      engine := { s.engine with deferred := none } }
    let s := s.mapQueues fun _ q => { q with almostFull := false }
    s.answerAll s.formats .ok
  | _, _ => s

/-! ### Quiesce, Wake, Media Restart -/

/-- Check 5 of R139. -/
def State.restless (s : State) (place : Bool) : Bool :=
  s.path == .offline || s.path == .recovering || !s.window.isEmpty || s.awaitsMedia
    || (place && (allQueues.any s.ready || s.engine.state != .idle))

/-- R139; the release set sums GET 1, PLACE 2, TIMER 4. -/
def State.quiesceRefusal (s : State) (target release interval : Nat) : Option Status :=
  if !(target ≤ 1 && release < 8 && (!release.testBit 2 || (1 ≤ interval && interval ≤ 86400))) then some .invalid
  else match s.serviceRefusal with
    | some r => some r
    | none =>
      if s.spindle.state ≠ .spinning then some .busy
      else if s.path = .down then some .mediaDown
      else if s.restless (release.testBit 1) then some .notIdle
      else none

/-- The spindle record of a Quiesce taken (R140). -/
def Spindle.quiesced (target release interval : Nat) (k : Key) : Spindle :=
  { state := if target = 0 then .parking else .stopping, resting := some (if target = 0 then .parked else .stopped)
    release := some ⟨release.testBit 0, release.testBit 1, release.testBit 2⟩
    wakeInterval := if release.testBit 2 then some interval else none, wakeTimer := none, releasePending := false
    quiesce := some k, attempts := none, wakes := [], motion := some (if target = 0 then .park else .spinDown) }

def State.takeQuiesce (target release interval : Nat) (k : Key) (s : State) : State :=
  match s.quiesceRefusal target release interval with
  | some r => s.answerNow k 11 r .none
  | none => State.enterTable { s with spindle := Spindle.quiesced target release interval k } k .quiesce

/-- The spindle rests: PARKED or STOPPED. -/
def SpindleState.rests : SpindleState → Bool
  | .parked => true
  | .stopped => true
  | _ => false

/-- R145. -/
def State.takeWake (k : Key) (s : State) : State :=
  if s.service = .starting then s.answerNow k 12 .starting .none
  else if s.spindle.state = .spinning then s.answerNow k 12 .ok .none
  else if s.spindle.state.rests ∧ s.path = .down then s.answerNow k 12 .mediaDown .none
  else State.release (State.enterTable { s with spindle := { s.spindle with wakes := s.spindle.wakes ++ [k] } } k .wake)

/-- R106: the path enters RECOVERING, and the spindle is released. -/
def State.takeRestart (k : Key) (s : State) : State :=
  if s.path = .down then ((s.enterTable k .mediaRestart).enterRecovering).release else s.answerNow k 15 .state .none

/-! ### Frames whose header cannot be read (R182) -/

/-- The MALFORMED answer: it keeps the receive slot, takes no entry and holds no tag (R160). -/
def State.answerMalformed (s : State) (l : Link) (kind : Nat) (tag : Tag) : State :=
  s.pushFrame l
    { tag := tag, origin := l, redirected := false, holds := .slot, body := .response kind .malformed .none }

/-- A frame's bytes that name no kind, or no item or action the part has (log 6). -/
def State.takeMalformed (s : State) (l : Link) (bytes : List Byte) : State :=
  match readFrame bytes with
  | .malformed kind tag => s.takeFrame l (checkRight bytes) (.malformed kind tag) fun s => s.answerMalformed l kind tag
  | .request tag (.unknown kind) => s.takeFrame l (checkRight bytes) (.request tag (.unknown kind)) fun s =>
      s.handOver ⟨l, tag⟩ (.unknown kind) fun k s => s.answerNow k kind .invalid .none
  | _ => s

end Sys2Proof.Machine
end

