-- ==== Sys2Proof/Machine/HostCommands.lean ====
section
/-! DEFINITION. The meanings of the commands of the host links: request frames, data frames, units received and sent, and the
links' own intervals. Each is the command's own effect and then what the step settles (Machine/Settle.lean). -/

namespace Sys2Proof.Machine

/-- The step's next state: the effect, and then what it brings about in the same step (log 7). -/
def finish (old new : State) : Host.Outcome State Fault Refusal := .next (new.settle old)

/-! ### Requests and data frames -/

/-- PUT (R49, R50). -/
def execPut (l : Link) (tag : Tag) (lsa count durability : Nat) (s : State) : Host.Outcome State Fault Refusal :=
  finish s (s.takeRequest l tag (.put lsa count durability) (State.takePut lsa count durability))

/-- DATA_FRAME (R51): its slot is free once it is taken. -/
def execDataFrame (l : Link) (f : DataFrame) (s : State) : Host.Outcome State Fault Refusal :=
  finish s (s.takeFrame l true (.data f) fun s => (s.takeData l f).freeSlot l)

/-- GET (R109, R123). -/
def execGet (l : Link) (tag : Tag) (lsa count : Nat) (s : State) : Host.Outcome State Fault Refusal :=
  finish s (s.takeRequest l tag (.get lsa count) fun k s =>
    if (s.port l).pattern then s.takePatternGet k lsa count else s.takeGet k lsa count)

/-- TRIM (R62). -/
def execTrim (l : Link) (tag : Tag) (lsa count : Nat) (s : State) : Host.Outcome State Fault Refusal :=
  finish s (s.takeRequest l tag (.trim lsa count) (State.takeTrim lsa count))

/-- FLUSH (R60, R161). -/
def execFlush (l : Link) (tag : Tag) (queue : Nat) (s : State) : Host.Outcome State Fault Refusal :=
  finish s (s.takeRequest l tag (.flush queue) (State.takeFlush queue))

/-- SELECT (R47). -/
def execSelect (l : Link) (tag : Tag) (queue : Nat) (s : State) : Host.Outcome State Fault Refusal :=
  finish s (s.takeRequest l tag (.select queue) (State.takeSelect queue))

/-- CLEAN (R127). -/
def execClean (l : Link) (tag : Tag) (band : Nat) (s : State) : Host.Outcome State Fault Refusal :=
  finish s (s.takeRequest l tag (.clean band) (State.takeClean band))

/-- SET_QUEUE_DIVISION (R56). -/
def execSetQueueDivision (l : Link) (tag : Tag) (depths : List Nat) (s : State) : Host.Outcome State Fault Refusal :=
  finish s (s.takeRequest l tag (.setQueueDivision depths) (State.takeDivision depths))

/-- SET_QUEUE_THRESHOLDS (R57). -/
def execSetQueueThresholds (l : Link) (tag : Tag) (v : Option (Nat × Nat × Nat)) (s : State) :
    Host.Outcome State Fault Refusal :=
  finish s (s.takeRequest l tag (.setQueueThresholds v) (State.takeThresholds v))

/-- SET_INTERVALS (R48). -/
def execSetIntervals (l : Link) (tag : Tag) (v : Option (Nat × List Interval)) (s : State) :
    Host.Outcome State Fault Refusal :=
  finish s (s.takeRequest l tag (.setIntervals v) (State.takeIntervals v))

/-- SET_SPACE_MARKS (R125). -/
def execSetSpaceMarks (l : Link) (tag : Tag) (v : Option (Nat × Nat × Nat)) (s : State) : Host.Outcome State Fault Refusal :=
  finish s (s.takeRequest l tag (.setSpaceMarks v) (State.takeMarks v))

/-- SET_LINK_MODE (R122). -/
def execSetLinkMode (l : Link) (tag : Tag) (v : Option Nat) (s : State) : Host.Outcome State Fault Refusal :=
  finish s (s.takeRequest l tag (.setLinkMode v) (State.takeLinkMode v))

/-- SET_ERROR_SCOPE (R154). -/
def execSetErrorScope (l : Link) (tag : Tag) (v : Option (Nat × Nat)) (s : State) : Host.Outcome State Fault Refusal :=
  finish s (s.takeRequest l tag (.setErrorScope v) (State.takeScope v))

/-- SET_NOTICE_ENABLES (R164). -/
def execSetNoticeEnables (l : Link) (tag : Tag) (v : Option (Nat × Nat)) (s : State) : Host.Outcome State Fault Refusal :=
  finish s (s.takeRequest l tag (.setNoticeEnables v) fun k s => s.takeKinds v k Port.enable)

/-- SET_ORDER_LIMIT (R99). -/
def execSetOrderLimit (l : Link) (tag : Tag) (v : Option Nat) (s : State) : Host.Outcome State Fault Refusal :=
  finish s (s.takeRequest l tag (.setOrderLimit v) (State.takeOrderLimit v))

/-- SET_CLEAR_PENDING_NOTICES (R164). -/
def execSetClearPendingNotices (l : Link) (tag : Tag) (v : Option (Nat × Nat)) (s : State) :
    Host.Outcome State Fault Refusal :=
  finish s (s.takeRequest l tag (.setClearPendingNotices v) fun k s => s.takeKinds v k Port.clearPending)

/-- QUERY_BAND_RECORD (R165). -/
def execQueryBandRecord (l : Link) (tag : Tag) (band : Nat) (s : State) : Host.Outcome State Fault Refusal :=
  finish s (s.takeRequest l tag (.queryBandRecord band) fun k s => s.answerQuery k (s.bandRecord band))

/-- QUERY_QUEUE_RECORD (R165). -/
def execQueryQueueRecord (l : Link) (tag : Tag) (queue : Nat) (s : State) : Host.Outcome State Fault Refusal :=
  finish s (s.takeRequest l tag (.queryQueueRecord queue) fun k s => (s.answerQuery k (s.queueRecord queue)).countRead)

/-- QUERY_MAP_LOOKUP (R23, R41). -/
def execQueryMapLookup (l : Link) (tag : Tag) (lsa : Nat) (s : State) : Host.Outcome State Fault Refusal :=
  finish s (s.takeRequest l tag (.queryMapLookup lsa) fun k s => s.answerQuery k (s.mapLookup lsa))

/-- QUERY_COUNTS (R165). -/
def execQueryCounts (l : Link) (tag : Tag) (s : State) : Host.Outcome State Fault Refusal :=
  finish s (s.takeRequest l tag .queryCounts fun k s => s.answerQuery k (.ok s.countFields))

/-- QUERY_MEDIA_AND_SPINDLE_STATE (R88, R100, R138). -/
def execQueryMediaAndSpindleState (l : Link) (tag : Tag) (s : State) : Host.Outcome State Fault Refusal :=
  finish s (s.takeRequest l tag .queryMediaAndSpindleState fun k s => (s.answerQuery k (.ok s.mediaFields)).countRead)

/-- QUERY_RELOCATION_STATE (R124). -/
def execQueryRelocationState (l : Link) (tag : Tag) (s : State) : Host.Outcome State Fault Refusal :=
  finish s (s.takeRequest l tag .queryRelocationState fun k s => s.answerQuery k (.ok s.relocationFields))

/-- QUERY_LINK_STATES_AND_TABLE_USE (R148, R158). -/
def execQueryLinkStatesAndTableUse (l : Link) (tag : Tag) (s : State) : Host.Outcome State Fault Refusal :=
  finish s (s.takeRequest l tag .queryLinkStatesAndTableUse fun k s => s.answerQuery k (.ok s.linksFields))

/-- QUERY_PROFILE_RECORD (R2). -/
def execQueryProfileRecord (l : Link) (tag : Tag) (profile : Nat) (s : State) : Host.Outcome State Fault Refusal :=
  finish s (s.takeRequest l tag (.queryProfileRecord profile) fun k s => s.answerQuery k (s.profileRecord profile))

/-- QUERY_SETTING (R163, R165). -/
def execQuerySetting (l : Link) (tag : Tag) (item : Nat) (s : State) : Host.Outcome State Fault Refusal :=
  finish s (s.takeRequest l tag (.querySetting item) fun k s => s.answerQuery k (s.setting l item))

/-- LOAD_PROFILE (R3). -/
def execLoadProfile (l : Link) (tag : Tag) (profile sectors tracks verify : Nat) (s : State) :
    Host.Outcome State Fault Refusal :=
  finish s (s.takeRequest l tag (.loadProfile profile sectors tracks verify) (State.takeLoad profile sectors tracks verify))

/-- FORMAT (R7). -/
def execFormat (l : Link) (tag : Tag) (logical bands : Nat) (ranges : List LayoutRange) (s : State) :
    Host.Outcome State Fault Refusal :=
  finish s (s.takeRequest l tag (.format logical bands ranges) (State.takeFormat logical bands ranges))

/-- QUIESCE (R139, R140). -/
def execQuiesce (l : Link) (tag : Tag) (target release interval : Nat) (s : State) : Host.Outcome State Fault Refusal :=
  finish s (s.takeRequest l tag (.quiesce target release interval) (State.takeQuiesce target release interval))

/-- WAKE (R145). -/
def execWake (l : Link) (tag : Tag) (s : State) : Host.Outcome State Fault Refusal :=
  finish s (s.takeRequest l tag .wake State.takeWake)

/-- RESET (R171, R172). -/
def execReset (l : Link) (tag : Tag) (level : Nat) (s : State) : Host.Outcome State Fault Refusal :=
  finish s (s.takeRequest l tag (.reset level) fun k s => s.takeReset k level)

/-- HOLD_LINK_HOLD (R152). -/
def execHoldLinkHold (l : Link) (tag : Tag) (named : Nat) (s : State) : Host.Outcome State Fault Refusal :=
  finish s (s.takeRequest l tag (.hold named) fun k s => s.takeHold k named)

/-- HOLD_LINK_RELEASE (R152). -/
def execHoldLinkRelease (l : Link) (tag : Tag) (named : Nat) (s : State) : Host.Outcome State Fault Refusal :=
  finish s (s.takeRequest l tag (.release named) fun k s => s.takeRelease k named)

/-- MEDIA_RESTART (R106). -/
def execMediaRestart (l : Link) (tag : Tag) (s : State) : Host.Outcome State Fault Refusal :=
  finish s (s.takeRequest l tag .mediaRestart State.takeRestart)

/-- MALFORMED (R182). -/
def execMalformed (l : Link) (bytes : List Byte) (s : State) : Host.Outcome State Fault Refusal :=
  finish s (s.takeMalformed l bytes)

/-! ### Units and intervals of a link -/

/-- IDLE_RECEIVED (R147). -/
def execIdleReceived (l : Link) (s : State) : Host.Outcome State Fault Refusal := finish s (s.idleArrives l)

/-- CREDIT_RECEIVED (R150). -/
def execCreditReceived (l : Link) (s : State) : Host.Outcome State Fault Refusal := finish s (s.creditArrives l)

/-- FRAME_RECEIVED (R149, R151). -/
def execFrameReceived (l : Link) (bytes : List Byte) (s : State) : Host.Outcome State Fault Refusal :=
  finish s (s.frameArrives l (checkRight bytes) (readFrame bytes))

/-- FRAME_SENT (R150). -/
def execFrameSent (l : Link) (s : State) : Host.Outcome State Fault Refusal := finish s (s.frameGone l)

/-- NOTICE_SENT (R167). -/
def execNoticeSent (l : Link) (s : State) : Host.Outcome State Fault Refusal := finish s (s.modPort l Port.noticeGone)

/-- LINK_SILENCE_TIMEOUT (R151). -/
def execLinkSilenceTimeout (l : Link) (s : State) : Host.Outcome State Fault Refusal := finish s (s.linkSilent l)

/-- QUIET_INTERVAL_END (R151). -/
def execQuietIntervalEnd (l : Link) (s : State) : Host.Outcome State Fault Refusal := finish s (s.quietEnds l)

end Sys2Proof.Machine
end

