-- ==== Sys2Proof/Machine/Events.lean ====
section
/-! DEFINITION. The meanings of the commands that no link carries: resets and start-up, the media sequencer's signals and
records, the timers, the grants of the media arbiter and the work of the Relocation Engine. An event whose occasion does not hold
changes nothing of its own (log 4). -/

namespace Sys2Proof.Machine

/-! ### Format, reset and start-up -/

/-- FORMAT_COMPLETE (R8). -/
def execFormatComplete (s : State) : Host.Outcome State Fault Refusal := finish s s.completeFormat

/-- LEVEL_0_RESET (R176): nothing is answered and nothing is raised. -/
def execLevel0Reset (s : State) : Host.Outcome State Fault Refusal := .next s.level0

/-- START_UP (R177). -/
def execStartUp (s : State) : Host.Outcome State Fault Refusal := finish s s.beginStartUp

/-! ### The media sequencer -/

/-- SEQUENCER_READY (R100, R103). -/
def execSequencerReady (s : State) : Host.Outcome State Fault Refusal := finish s s.sequencerReady

/-- SEQUENCER_READY_WITHDRAWN (R91). -/
def execSequencerReadyWithdrawn (s : State) : Host.Outcome State Fault Refusal := finish s s.mediaFault

/-- WRITE_TRACK_COMPLETION (R80, R82). -/
def execWriteTrackCompletion (c : Completion) (s : State) : Host.Outcome State Fault Refusal := finish s (s.takeCompletion 1 c)

/-- READ_TRACK_COMPLETION (R93). -/
def execReadTrackCompletion (c : Completion) (s : State) : Host.Outcome State Fault Refusal := finish s (s.takeCompletion 2 c)

/-- GEOMETRY_COMPLETION (R5, R95). -/
def execGeometryCompletion (c : Completion) (s : State) : Host.Outcome State Fault Refusal := finish s (s.takeCompletion 3 c)

/-- MOTION_COMPLETION (R140, R143, R144). A kind that is no motion order's is not the oldest order's either (R91): the record
is a sequencer fault. -/
def execMotionCompletion (kind : Nat) (c : Completion) (s : State) : Host.Outcome State Fault Refusal :=
  finish s (if 4 ≤ kind ∧ kind ≤ 7 then s.takeCompletion kind c else s.mediaFault)

/-- SECTOR_DELIVERY (R94). -/
def execSectorDelivery (sector : Nat) (data : Sector) (check : BitVec 32) (s : State) : Host.Outcome State Fault Refusal :=
  finish s (s.takeSector sector data check)

/-! ### Timers -/

/-- DEADLINE_EXPIRY (R99): of the deadline that runs. -/
def execDeadlineExpiry (s : State) : Host.Outcome State Fault Refusal :=
  finish s (if s.deadline.isSome then s.mediaFault else s)

/-- RECOVERY_WAIT_END (R103). -/
def execRecoveryWaitEnd (s : State) : Host.Outcome State Fault Refusal := finish s (if s.recoveryWait then s.enterDown else s)

/-- STARTUP_WAIT_END (R100). -/
def execStartupWaitEnd (s : State) : Host.Outcome State Fault Refusal := finish s (if s.startWait then s.enterDown else s)

/-- ESCALATION_TIMER_EXPIRY (R104). -/
def execEscalationTimerExpiry (s : State) : Host.Outcome State Fault Refusal := finish s { s with escalation := false }

/-- A RUNNING hold timer expires (R59). -/
def HoldTimer.expire : HoldTimer → HoldTimer
  | .running _ => .expired
  | t => t

/-- HOLD_TIMER_EXPIRY (R59). -/
def execHoldTimerExpiry (q : Fin 16) (s : State) : Host.Outcome State Fault Refusal :=
  finish s (s.modQueue q fun x => { x with timer := x.timer.expire })

/-- The wake timer's expiry stops it, and is a release cause, honoured always; the release is not made while the media path is DOWN
(R141, R142). -/
def State.wakeTimerExpires (s : State) : State :=
  if s.spindle.wakeTimer.isSome then
    let t := { s with spindle := { s.spindle with wakeTimer := none } }
    if s.path = .down then t else t.release
  else s

/-- WAKE_TIMER_EXPIRY (R142). -/
def execWakeTimerExpiry (s : State) : Host.Outcome State Fault Refusal := finish s s.wakeTimerExpires

/-! ### Grants and relocation -/

/-- MEDIA_GRANT (R97). -/
def execMediaGrant (s : State) : Host.Outcome State Fault Refusal := finish s s.grantMedia

/-- VICTIM_SELECTION (R128). -/
def execVictimSelection (s : State) : Host.Outcome State Fault Refusal := finish s s.selectVictim

/-- RELOCATION_RECORDS (R132). -/
def execRelocationRecords (s : State) : Host.Outcome State Fault Refusal := finish s s.makeRecords

end Sys2Proof.Machine
end

