-- ==== Sys2Proof/Machine/Dispatch.lean ====
section
/-! DEFINITION. The dispatch of the commands: one arm for each constructor of Instr, each one call of its meaning. -/

namespace Sys2Proof.Machine

def exec (i : Instr) (s : State) : Host.Outcome State Fault Refusal :=
  match i with
  | .put l tag lsa count durability => Sys2Proof.Machine.execPut l tag lsa count durability s
  | .dataFrame l f => Sys2Proof.Machine.execDataFrame l f s
  | .get l tag lsa count => Sys2Proof.Machine.execGet l tag lsa count s
  | .trim l tag lsa count => Sys2Proof.Machine.execTrim l tag lsa count s
  | .flush l tag queue => Sys2Proof.Machine.execFlush l tag queue s
  | .select l tag queue => Sys2Proof.Machine.execSelect l tag queue s
  | .clean l tag band => Sys2Proof.Machine.execClean l tag band s
  | .setQueueDivision l tag depths => Sys2Proof.Machine.execSetQueueDivision l tag depths s
  | .setQueueThresholds l tag value => Sys2Proof.Machine.execSetQueueThresholds l tag value s
  | .setIntervals l tag value => Sys2Proof.Machine.execSetIntervals l tag value s
  | .setSpaceMarks l tag value => Sys2Proof.Machine.execSetSpaceMarks l tag value s
  | .setLinkMode l tag value => Sys2Proof.Machine.execSetLinkMode l tag value s
  | .setErrorScope l tag value => Sys2Proof.Machine.execSetErrorScope l tag value s
  | .setNoticeEnables l tag value => Sys2Proof.Machine.execSetNoticeEnables l tag value s
  | .setOrderLimit l tag value => Sys2Proof.Machine.execSetOrderLimit l tag value s
  | .setClearPendingNotices l tag value => Sys2Proof.Machine.execSetClearPendingNotices l tag value s
  | .queryBandRecord l tag band => Sys2Proof.Machine.execQueryBandRecord l tag band s
  | .queryQueueRecord l tag queue => Sys2Proof.Machine.execQueryQueueRecord l tag queue s
  | .queryMapLookup l tag lsa => Sys2Proof.Machine.execQueryMapLookup l tag lsa s
  | .queryCounts l tag => Sys2Proof.Machine.execQueryCounts l tag s
  | .queryMediaAndSpindleState l tag => Sys2Proof.Machine.execQueryMediaAndSpindleState l tag s
  | .queryRelocationState l tag => Sys2Proof.Machine.execQueryRelocationState l tag s
  | .queryLinkStatesAndTableUse l tag => Sys2Proof.Machine.execQueryLinkStatesAndTableUse l tag s
  | .queryProfileRecord l tag profile => Sys2Proof.Machine.execQueryProfileRecord l tag profile s
  | .querySetting l tag item => Sys2Proof.Machine.execQuerySetting l tag item s
  | .loadProfile l tag profile sectors tracks verify => Sys2Proof.Machine.execLoadProfile l tag profile sectors tracks verify s
  | .format l tag logical bands ranges => Sys2Proof.Machine.execFormat l tag logical bands ranges s
  | .formatComplete => Sys2Proof.Machine.execFormatComplete s
  | .quiesce l tag target release interval => Sys2Proof.Machine.execQuiesce l tag target release interval s
  | .wake l tag => Sys2Proof.Machine.execWake l tag s
  | .reset l tag level => Sys2Proof.Machine.execReset l tag level s
  | .holdLinkHold l tag named => Sys2Proof.Machine.execHoldLinkHold l tag named s
  | .holdLinkRelease l tag named => Sys2Proof.Machine.execHoldLinkRelease l tag named s
  | .mediaRestart l tag => Sys2Proof.Machine.execMediaRestart l tag s
  | .malformed l bytes => Sys2Proof.Machine.execMalformed l bytes s
  | .idleReceived l => Sys2Proof.Machine.execIdleReceived l s
  | .creditReceived l => Sys2Proof.Machine.execCreditReceived l s
  | .frameReceived l bytes => Sys2Proof.Machine.execFrameReceived l bytes s
  | .frameSent l => Sys2Proof.Machine.execFrameSent l s
  | .noticeSent l => Sys2Proof.Machine.execNoticeSent l s
  | .linkSilenceTimeout l => Sys2Proof.Machine.execLinkSilenceTimeout l s
  | .quietIntervalEnd l => Sys2Proof.Machine.execQuietIntervalEnd l s
  | .level0Reset => Sys2Proof.Machine.execLevel0Reset s
  | .startUp => Sys2Proof.Machine.execStartUp s
  | .sequencerReady => Sys2Proof.Machine.execSequencerReady s
  | .sequencerReadyWithdrawn => Sys2Proof.Machine.execSequencerReadyWithdrawn s
  | .writeTrackCompletion c => Sys2Proof.Machine.execWriteTrackCompletion c s
  | .readTrackCompletion c => Sys2Proof.Machine.execReadTrackCompletion c s
  | .geometryCompletion c => Sys2Proof.Machine.execGeometryCompletion c s
  | .motionCompletion kind c => Sys2Proof.Machine.execMotionCompletion kind c s
  | .sectorDelivery sector data check => Sys2Proof.Machine.execSectorDelivery sector data check s
  | .deadlineExpiry => Sys2Proof.Machine.execDeadlineExpiry s
  | .recoveryWaitEnd => Sys2Proof.Machine.execRecoveryWaitEnd s
  | .startupWaitEnd => Sys2Proof.Machine.execStartupWaitEnd s
  | .escalationTimerExpiry => Sys2Proof.Machine.execEscalationTimerExpiry s
  | .holdTimerExpiry q => Sys2Proof.Machine.execHoldTimerExpiry q s
  | .wakeTimerExpiry => Sys2Proof.Machine.execWakeTimerExpiry s
  | .mediaGrant => Sys2Proof.Machine.execMediaGrant s
  | .victimSelection => Sys2Proof.Machine.execVictimSelection s
  | .relocationRecords => Sys2Proof.Machine.execRelocationRecords s

end Sys2Proof.Machine
end

