-- ==== Sys2Proof/Safety.lean ====
section
/-! DEFINITION. The terms in which statements about the part are made: what the map holds for a sector, when a request's frame is
taken and passes the Request Unit's checks, what the settling of a step leaves as it was, and the invariants of a state. -/

namespace Sys2Proof.Machine

/-! ### What the map holds -/

/-- What the map holds for a sector: its sequence and, where VALID, its place; none for an unwritten sector (R20, R23). -/
def content (m : List Entry) (x : Nat) : Option (Nat × Option Location) :=
  (lookup m x).map fun e => (e.sequence, e.placeOf x)

/-- The place of a sector of a run at a location (R25, R29). -/
def Run.placeOf (run : Run) (x : Nat) : Option Location := run.location.map fun d => ⟨d.band, d.index + (x - run.lsa)⟩

/-- A sector lies in a run. -/
def Run.has (run : Run) (x : Nat) : Prop := run.lsa ≤ x ∧ x < run.lsa + run.length

/-! ### What a write order's pieces leave of the map -/

/-- The stretches of pieces, in order, each with its piece: one for each fragment record they hold (R65, R77). -/
def stretchesOf (ps : List Piece) : List (Piece × Stretch) := ps.flatMap fun p => p.stretches.map fun st => (p, st)

/-- The budget of an insert whose record is released with it, with so many pool records in use, its own included: the free entries
less those reserved, and 2 (R35, R36). -/
def budgetWith (inUse : Nat) (m : List Entry) : Nat := 8388608 - m.length + 2 - 2 * inUse

/-- The stretches put into the map one after another, each at its place (none: a LOST conversion) and with its record released, those
of pieces that do not act released alone; others is the number of pool records in use beside theirs. Each stretch with its piece and
what its insert did (R32, R36, R80, R83, R174). -/
def insertsOf (place : Piece → Stretch → Option Location) (acts : Piece → Bool) (others : Nat) :
    List (Piece × Stretch) → List Entry → List (Piece × Inserted)
  | [], _ => []
  | x :: rest, m =>
    let r :=
      if acts x.1 then x.1.insert m (place x.1 x.2) x.2 (budgetWith (others + rest.length + 1) m)
      else { entries := m, entered := [], dropped := [] }
    (x.1, r) :: insertsOf place acts others rest r.entries

/-- The map after inserts, from the map before them. -/
def mapAfter (m : List Entry) (rs : List (Piece × Inserted)) : List Entry := (rs.getLast?.map (·.2.entries)).getD m

/-- The records of the HOST pieces that name a Put. -/
def recordsNaming (k : Key) (ps : List Piece) : Nat :=
  ((ps.filter fun p => !p.reloc && p.origin == some k).map (·.stretches.length)).sum

/-- What the insert of one piece of a confirmed track's footer does: at its place in the track, a HOST or a RELOC piece, within the
headroom that so many reserved entries leave (R36, R178). -/
def footerInsert (band base reserved : Nat) (m : List Entry) (p : FooterPiece) : Inserted :=
  let run : Run := { lsa := p.lsa, length := p.length, sequence := p.sequence, location := some ⟨band, base + p.offset⟩ }
  if p.kind = 0 then insertHost m run (8388608 - m.length - reserved)
  else insertReloc m run p.source (8388608 - m.length - reserved)

/-- A notice kind is pending on both links. -/
def PendingOnBoth (s : State) (k : Notice) : Prop := ∀ l, ∃ n ∈ (s.port l).pending, n.kind = k

/-! ### A write order that fails -/

/-- What the failure of a write order, out of the window of s already, puts into the map: the stretches of the pieces at their third
failure, or, of an orphaned order, of the acknowledged HOST pieces, as LOST conversions (R83, R174). -/
def State.failureInserts (s : State) (w : WriteOrder) : List (Piece × Inserted) :=
  if w.orphaned then insertsOf (fun _ _ => none) (fun pc => !pc.reloc && pc.acknowledged) s.inUse (stretchesOf w.pieces) s.map
  else insertsOf (fun _ _ => none) (fun _ => true)
    (s.inUse + ((w.pieces.filter fun pc => pc.attempts < 2).map (·.stretches.length)).sum)
    (stretchesOf (w.pieces.filter fun pc => !(pc.attempts < 2))) s.map

/-- R11, R12: a track of a band has been skipped between two states: completed and skipped rise together, skipped holds at 4, and where
it comes to 4 the band has retire set and is closed if it was OPEN. A band whose last track it was is FULL else. -/
def TrackSkipped (s : State) (band : Nat) (y : State) : Prop :=
  y.bands.length = s.bands.length ∧ ∀ b, s.bands[band]? = some b → ∃ v, y.bands[band]? = some v ∧
    v.completed = b.completed + 1 ∧ v.issued = b.issued ∧ v.skipped = min 4 (b.skipped + 1) ∧
    v.retire = (b.retire || decide (3 ≤ b.skipped)) ∧
    (b.state ≠ .opened → v.state = b.state ∧ v.queue = b.queue) ∧
    (b.state = .opened → 3 ≤ b.skipped → v.state = .closed ∧ v.queue = none) ∧
    (b.state = .opened → b.skipped < 3 → b.completed + 1 = b.issued ∧ b.issued = (s.shapeOf band).tracks →
      v.state = .full ∧ v.queue = none) ∧
    (b.state = .opened → b.skipped < 3 → ¬ (b.completed + 1 = b.issued ∧ b.issued = (s.shapeOf band).tracks) →
      v.state = .opened ∧ v.queue = b.queue)

/-- A write order, out of the window of s already, has failed, and y is what its hand-over leaves (R12, R81, R82, R83, R174). The premise
on an orphaned order is R52's: an acknowledged piece names no Put. -/
structure FailedWrite (s : State) (w : WriteOrder) (y : State) : Prop where
  track : TrackSkipped s w.band y
  window : y.window = s.window
  returned : w.orphaned = false → (y.queue w.queue).records =
    ((w.pieces.filter fun pc => pc.attempts < 2).flatMap fun pc => Piece.fragments { pc with attempts := pc.attempts + 1 }) ++
      (s.queue w.queue).records
  otherQueues : ∀ q, q ≠ w.queue → y.queue q = s.queue q
  noneReturned : w.orphaned = true → y.queues = s.queues
  allReturned : w.orphaned = false → (∀ pc ∈ w.pieces, pc.attempts < 2) → y.map = s.map ∧ y.table = s.table
  map : y.map = mapAfter s.map (s.failureInserts w)
  lostPuts : w.orphaned = false → ∀ k put, s.putInfo k = some put →
    let n := recordsNaming k (w.pieces.filter fun pc => !(pc.attempts < 2))
    y.putInfo k = some { put with
      pieces := put.pieces - n, outcome := if put.durable && 0 < n then .mediaError else put.outcome }
  orphanPuts : w.orphaned = true → (∀ pc ∈ w.pieces, pc.acknowledged = true → pc.origin = none) → ∀ k put, s.putInfo k = some put →
    y.putInfo k = some { put with
      pieces := put.pieces - recordsNaming k w.pieces
      outcome := if 0 < recordsNaming k w.pieces then put.outcome.record .aborted else put.outcome }
  dataLost : ∀ r ∈ s.failureInserts w, r.1.reloc = false → r.2.entered ++ r.2.dropped ≠ [] → s.durableOrigin r.1.origin = false →
    PendingOnBoth y .dataLost

/-! ### A footer read that has ended -/

/-- The footer read of a track of a band has ended in s, with the pieces of an intact footer or none, and X is what it leaves (R178,
R179). -/
structure FooterTaken (s : State) (band track : Nat) (b : Band) (pieces : Option (List FooterPiece)) (X : State) : Prop where
  intact : ∀ ps, pieces = some ps →
    X.map = ps.foldl (fun m p => (footerInsert band (track * s.trackData band) (2 * s.inUse) m p).entries) s.map ∧
    ∀ v, X.bands[band]? = some v → v.completed = b.completed + 1 ∧ v.issued = b.issued ∧ v.skipped = b.skipped
  notIntact : pieces = none → X.map = s.map ∧ ∀ v, X.bands[band]? = some v → v.completed = b.issued ∧ v.issued = b.issued ∧
    v.skipped = min 4 (b.skipped + (b.issued - b.completed)) ∧ (4 ≤ b.skipped + (b.issued - b.completed) → v.retire = true)
  nextTrack : ∀ i v, X.bands[i]? = some v → v.completed < v.issued →
    (∀ j u, j < i → X.bands[j]? = some u → u.issued ≤ u.completed) →
    X.stage = .reconcile i v.completed 0 false [] ∧ X.service = s.service
  served : (∀ v ∈ X.bands, v.issued ≤ v.completed) → X.service = .inService ∧ X.stage = .done ∧
    (∀ v ∈ X.bands, v.state ≠ .opened ∧ v.state ≠ .cleaning ∧ v.pendingReads = 0) ∧
    (X.headroom < 65536 → PendingOnBoth X .mapLow)

/-- The band whose footer is read, at start-up: it is not CLEANING (R128), and no band's prior state is OPEN or CLEANING (R9). -/
abbrev Reconciled (s : State) (band : Nat) (b : Band) : Prop :=
  s.bands[band]? = some b ∧ b.state ≠ .cleaning ∧ b.completed < b.issued ∧
    ∀ v ∈ s.bands, v.prior ≠ some .opened ∧ v.prior ≠ some .cleaning

/-! ### Puts still filling -/

/-- The entry of a Put of a link that still takes data frames (R51, R156). -/
def ReqEntry.stillFills (l : Link) (e : ReqEntry) : Bool :=
  e.key.origin == l && !e.answered && match e.info with
    | .put put => decide (put.next < put.count) && !put.settling
    | _ => false

/-- The records of a Put still filling. -/
def State.fillingRecords (s : State) (k : Key) : Nat :=
  (hostQueues.flatMap fun q => (s.queue q).records).countP fun r => r.origin == some k && r.filling != 0

/-- What a link failure in s with a survivor answers on the survivor: the Put of an entry that is abandoned and waits for no piece
besides its filling records (R155, R156). -/
def State.abandonedAnswer (s : State) (l : Link) (e : ReqEntry) : Option OutFrame :=
  match e.info with
  | .put put =>
    if e.stillFills l && !e.discarded && decide (put.pieces ≤ s.fillingRecords e.key) then
      some { tag := e.key.tag, origin := l, redirected := e.redirected || e.reply == l, holds := .entry
             body := .response 1 (if put.outcome = .mediaError then .mediaError else .aborted)
               (.put (some put.sequence) put.queue.val put.almostFull) }
    else none
  | _ => none

/-! ### Orders failed and withdrawn -/

/-- The sectors a read of a Get still needs end as MEDIA_ERROR (R117, R118). -/
def State.failNeeded (s : State) (f : FetchRead) : State :=
  s.modSlot f.slot (FetchSlot.settle (f.needed.map (·.2)) .mediaError)

/-- R118: a read of a Get that the entry into DOWN ends: in an ACTIVE slot its sectors are settled and MEDIA_DOWN is recorded, no band
becomes suspect, and the read is released. -/
def State.readDown (s : State) (f : FetchRead) : State :=
  (if (s.slot f.slot).state = .active then (s.failNeeded f).modSlot f.slot fun x => { x with mediaDown := true } else s).releaseRead
    f.band

/-- R5, R105: a Load Profile ends without its shape: the profile is back in its state before update. A reinstall is dropped. -/
def State.loadEnds (s : State) (status : Status) (g : GeoOrder) : State :=
  match g.origin with
  | .loadProfile k => (s.modProfile g.profile fun p =>
      { state := p.before.getD .unset, shape := if p.before = some .active then p.shape else none, pending := none
        before := none }).answerEntry k status .none
  | .reinstall => s
  | .startUp => s

/-- R134, R16: the engine's victim abandoned: its band in its prior state and suspect, and deferred. -/
def State.abandoned (s : State) (v : Nat) (prior : BandState) : State :=
  { s with
    bands := s.bands.modify v fun u => { u with state := prior, prior := none, suspect := true }
    engine := { s.engine with victim := none, cursor := none, hand := none, deferred := some v } }

/-- R135: what an AUTO run whose victim has been abandoned needs to go on. -/
abbrev GoesOn (s : State) : Prop :=
  (∃ u ∈ s.bands, u.candidate = true) ∧
    (s.freeBands < s.marks.high ∨ ∃ i u, s.bands[i]? = some u ∧ u.candidate = true ∧ (u.retire = true ∨ u.suspect = true) ∧
      s.engine.deferred ≠ some i)

/-- An order, out of the window of s already, has failed as TIMED_OUT at an entry into RECOVERING, or into DOWN where down is set, and y
is what its hand-over to its owner leaves (R5, R82, R102, R117, R118, R133, R134, R137, R140, R144, R178). -/
structure HandedOver (s : State) (down : Bool) (o : Order) (y : State) : Prop where
  write : ∀ w, o = .write w → FailedWrite s w y
  fetchEnded : ∀ r f, o = .read r → r.owner = .fetch f → (s.slot f.slot).state ≠ .active → y = s.releaseRead f.band
  fetchFirst : ∀ r f, o = .read r → r.owner = .fetch f → (s.slot f.slot).state = .active → f.timeouts = 0 →
    y = if down then s.readDown f else { s with fetchList := s.fetchList ++ [{ f with timeouts := 1 }] }
  fetchSecond : ∀ r f, o = .read r → r.owner = .fetch f → (s.slot f.slot).state = .active → f.timeouts = 1 →
    y = ((s.failNeeded f).setSuspect f.band).releaseRead f.band
  relocStale : ∀ r, o = .read r → r.owner = .relocation true → y = s.releaseRead r.band
  relocFirst : ∀ r, o = .read r → r.owner = .relocation false → r.timeouts = 0 →
    let z := s.releaseRead r.band
    y = { z with engine := { z.engine with hand := z.engine.hand.map fun h => { h with phase := .presented, timeouts := 1 } } }
  relocSecond : ∀ r b prior, o = .read r → r.owner = .relocation false → r.timeouts ≠ 0 → s.engine.victim = some r.band →
    s.bands[r.band]? = some b → b.state = .cleaning → b.prior = some prior →
    let z := (s.releaseRead r.band).abandoned r.band prior
    let idle := { z with engine := { Engine.reset with deferred := some r.band } }
    (b.valid = 0 → b.pendingReads ≤ 1 → PendingOnBoth y .relocationDone ∧
      ∃ u, y.bands[r.band]? = some u ∧ u.state = (if b.retire then .retired else .free)) ∧
    (¬ (b.valid = 0 ∧ b.pendingReads ≤ 1) →
      (∀ k, s.engine.run = some .single → s.engine.clean = some k → y = idle.answerEntry k .mediaError .none) ∧
      (s.engine.run = some .auto →
        (GoesOn z → y = { z with engine := { z.engine with state := .selecting } }) ∧
        (¬ GoesOn z → (s.engine.clean = none → y = idle) ∧ ∀ k, s.engine.clean = some k → y = idle.answerEntry k .ok .none)))
  footerFirst : ∀ r, o = .read r → r.owner = .startUp → r.timeouts = 0 → y = { s with stage := .reconcile r.band r.track 1 false [] }
  footerSecond : ∀ r b, o = .read r → r.owner = .startUp → r.timeouts ≠ 0 → Reconciled s r.band b →
    FooterTaken s r.band r.track b none y
  geometry : ∀ g, o = .geometry g → y = s.loadEnds .mediaError g
  rest : ∀ m k, o = .motion m → m = .park ∨ m = .spinDown → s.spindle.quiesce = some k →
    y = (State.answerEntry { s with spindle := Spindle.turning } k .failed .none).answerAll s.spindle.wakes .ok
  spin : ∀ m, o = .motion m → m = .unpark ∨ m = .spinUp →
    y = if s.spindle.attempts = some 0 then { s with spindle := { s.spindle with attempts := some 1, motion := some m } } else s

/-! ### A grant of the write candidate -/

/-- R10: a FREE band opened for a queue. -/
def State.opening (s : State) (q : Fin 16) (b : Nat) : State :=
  { s with bands := s.bands.modify b fun r =>
      { r with state := .opened, queue := some q, issued := 0, completed := 0, skipped := 0, generation := (r.generation + 1) % 65536 } }

/-- R72: a queue stalled for POOL. -/
def State.poolStalled (s : State) (q : Fin 16) : State := s.modQueue q fun x => { x with poolStall := true }

/-- R75: a queue chosen in s can be served: on its OPEN band, or on one that is opened for it and leaves it ready; z is the state with
the band, b its number and r its record. -/
def Serves (s : State) (q : Fin 16) (z : State) (b : Nat) (r : Band) : Prop :=
  ((s.boundBand q = some b ∧ z = s) ∨ (s.boundBand q = none ∧ s.grantable q = some b ∧ z = s.opening q b ∧ z.ready q = true)) ∧
    z.bands[b]? = some r ∧ (z.build q b).pieces ≠ []

/-- R72, R75: a queue chosen in s yields no order, which leaves y: its build takes no piece, or a band opened for it, which it keeps,
leaves it not ready. -/
def Declines (s : State) (q : Fin 16) (y : State) : Prop :=
  (∃ b, s.boundBand q = some b ∧ (s.build q b).pieces = [] ∧ y = s.poolStalled q) ∨
    ∃ b, s.boundBand q = none ∧ s.grantable q = some b ∧
      (((s.opening q b).ready q = false ∧ y = s.opening q b) ∨
        ((s.opening q b).ready q = true ∧ ((s.opening q b).build q b).pieces = [] ∧ y = (s.opening q b).poolStalled q))

/-- R77, R79, R98: the write order of a queue issued on its band, the grant having found a space emergency or not. A split raises its
Put's pieces by 1 (R53), and its record may carry the headroom or the free pool records across their line (R39, R45). -/
def State.issued (z : State) (emergency : Bool) (q : Fin 16) (b : Nat) (r : Band) : State :=
  let y := z.movePieces ((z.build q b).split.bind (·.origin)) 1 2
  State.noteFalls { y with
    bands := z.bands.modify b fun r => { r with issued := r.issued + 1 }
    queues := z.queues.set q { z.queue q with
      records := (z.build q b).left
      timer := if (z.queue q).timer = .expired then .stopped else (z.queue q).timer }
    lastServed := q, fetchRun := if emergency then z.fetchRun else 0
    window := z.window ++ [.write { band := b, track := r.issued, generation := r.generation, profile := r.profile
                                    verify := (z.shapeOf b).verify, queue := q, pieces := (z.build q b).pieces
                                    orphaned := false }]
    deadline := if z.window = [] then some z.orderLimit else z.deadline } z

/-- R74, R75: the queue chosen once q has declined and left y. -/
def State.nextAfter (y : State) (q : Fin 16) : Option (Fin 16) :=
  if y.emergency && y.offered 15 && q != 15 then some 15 else (roundFrom q).find? fun x => y.offered x && x != q

/-! ### Frames taken -/

/-- A frame is taken from a link's receive buffer, which leaves the state p (log 5). -/
abbrev Taken (s : State) (l : Link) (f : InFrame) (p : State) : Prop := (s.frameReady l true f).frameTaken l f = some p

/-- A request is taken from its link's receive buffer, which leaves the state p, and passes the checks of the Request Unit
(R159). -/
structure Takes (s : State) (l : Link) (tag : Tag) (r : Request) (p : State) : Prop where
  taken : Taken s l (.request tag r) p
  passes : p.requestRefusal ⟨l, tag⟩ r = none

/-- The request a command carries, with its link and tag; none for a command that is no request, or whose frame has no readable
header. -/
def requestOf : Instr → Option (Link × Tag × Request)
  | .put l t a b c => some (l, t, .put a b c)
  | .get l t a b => some (l, t, .get a b)
  | .trim l t a b => some (l, t, .trim a b)
  | .flush l t a => some (l, t, .flush a)
  | .select l t a => some (l, t, .select a)
  | .clean l t a => some (l, t, .clean a)
  | .setQueueDivision l t v => some (l, t, .setQueueDivision v)
  | .setQueueThresholds l t v => some (l, t, .setQueueThresholds v)
  | .setIntervals l t v => some (l, t, .setIntervals v)
  | .setSpaceMarks l t v => some (l, t, .setSpaceMarks v)
  | .setLinkMode l t v => some (l, t, .setLinkMode v)
  | .setErrorScope l t v => some (l, t, .setErrorScope v)
  | .setNoticeEnables l t v => some (l, t, .setNoticeEnables v)
  | .setOrderLimit l t v => some (l, t, .setOrderLimit v)
  | .setClearPendingNotices l t v => some (l, t, .setClearPendingNotices v)
  | .queryBandRecord l t a => some (l, t, .queryBandRecord a)
  | .queryQueueRecord l t a => some (l, t, .queryQueueRecord a)
  | .queryMapLookup l t a => some (l, t, .queryMapLookup a)
  | .queryCounts l t => some (l, t, .queryCounts)
  | .queryMediaAndSpindleState l t => some (l, t, .queryMediaAndSpindleState)
  | .queryRelocationState l t => some (l, t, .queryRelocationState)
  | .queryLinkStatesAndTableUse l t => some (l, t, .queryLinkStatesAndTableUse)
  | .queryProfileRecord l t a => some (l, t, .queryProfileRecord a)
  | .querySetting l t a => some (l, t, .querySetting a)
  | .loadProfile l t a b c d => some (l, t, .loadProfile a b c d)
  | .format l t a b rs => some (l, t, .format a b rs)
  | .quiesce l t a b c => some (l, t, .quiesce a b c)
  | .wake l t => some (l, t, .wake)
  | .reset l t a => some (l, t, .reset a)
  | .holdLinkHold l t a => some (l, t, .hold a)
  | .holdLinkRelease l t a => some (l, t, .release a)
  | .mediaRestart l t => some (l, t, .mediaRestart)
  | _ => none

/-! ### What a step's settling leaves as it was -/

/-- What the settling of a step leaves of a port: it only appends to the transmit queue, raises notices and begins a
transmission. -/
structure PortKept (p q : Port) : Prop where
  state : q.state = p.state
  rx : q.rx = p.rx
  creditsHeld : q.creditsHeld = p.creditsHeld
  creditsGranted : q.creditsGranted = p.creditsGranted
  enabled : q.enabled = p.enabled
  selection : q.selection = p.selection
  pattern : q.pattern = p.pattern
  txq : p.txq <+: q.txq

/-- What the settling of a step leaves of a queue: its settings. -/
structure QueueKept (p q : Queue) : Prop where
  depth : q.depth = p.depth
  offset : q.offset = p.offset
  hold : q.hold = p.hold

/-- What the settling of a step leaves of the state (log 7). -/
structure Kept (s t : State) : Prop where
  pending : t.pending = s.pending
  format : t.format = s.format
  layout : t.layout = s.layout
  formatting : t.formatting = s.formatting
  profiles : t.profiles = s.profiles
  sequence : t.sequence = s.sequence
  scope : t.scope = s.scope
  intervals : t.intervals = s.intervals
  defaultQueue : t.defaultQueue = s.defaultQueue
  lastServed : t.lastServed = s.lastServed
  window : t.window.length = s.window.length
  deadline : t.deadline = s.deadline
  path : t.path = s.path
  mediaReset : t.mediaReset = s.mediaReset
  recoveryWait : t.recoveryWait = s.recoveryWait
  escalation : t.escalation = s.escalation
  fetchRun : t.fetchRun = s.fetchRun
  orderLimit : t.orderLimit = s.orderLimit
  geometry : t.geometry = s.geometry
  fetchList : t.fetchList = s.fetchList
  marks : t.marks = s.marks
  freeCount : t.freeCount = s.freeCount
  portA : PortKept s.portA t.portA
  portB : PortKept s.portB t.portB
  queues : ∀ q, QueueKept (s.queue q) (t.queue q)

/-- A frame has joined the transmit queue of a link between two states, behind the frames that stood there. -/
def Joined (s t : State) (l : Link) (f : OutFrame) : Prop := (s.port l).txq ++ [f] <+: (t.port l).txq

/-- The response of a request answered at its taking (R149, R162). -/
def immediate (l : Link) (tag : Tag) (kind : Nat) (status : Status) (result : Result) : OutFrame :=
  { tag := tag, origin := l, redirected := false, holds := .slotAndTag, body := .response kind status result }

/-! ### How a step ends -/

/-- The name of a request in the part (R160). -/
abbrev key (l : Link) (tag : Tag) : Key := ⟨l, tag⟩

/-- t is where a step that began in s ends, its command's own effect being X: what X settles to, which leaves X's settings,
window, media path, ports and sequence counter as X has them (log 7). -/
structure Ends (s X t : State) : Prop where
  settled : t = X.settle s
  kept : Kept X t

/-- A command run on s answers a next state, and its own effect is X. -/
def Gives (c : Instr) (s X : State) : Prop := ∃ t, exec c s = .next t ∧ Ends s X t

/-- The count is 1 to 256 and LSA + count is at most L (R49, R109). -/
abbrev InSpace (s : State) (lsa count : Nat) : Prop := 1 ≤ count ∧ count ≤ 256 ∧ lsa + count ≤ s.logical

/-- The part is FORMATTED and in service (R49, R62, R109). -/
abbrev Serving (s : State) : Prop := s.service = .inService ∧ s.formatNow = .formatted

/-- The answer of a part that is not: STARTING while not in service, else UNFORMATTED, or BUSY while FORMATTING (R6). -/
abbrev Unserving (s : State) (r : Status) : Prop :=
  (s.service = .starting ∧ r = .starting) ∨
    (s.service = .inService ∧ s.formatNow = .unformatted ∧ r = .unformatted) ∨
    (s.service = .inService ∧ s.formatNow = .formatting ∧ r = .busy)

/-- A record or a stretch of sectors from first up to stop lies outside a to b. -/
abbrev Outside (a b first stop : Nat) : Prop := stop ≤ a ∨ b ≤ first

/-! ### Invariants -/

/-- R34: every band's valid count is the total length of the VALID entries located in it. -/
def State.validCounts (s : State) : Prop := ∀ i b, s.bands[i]? = some b → b.valid = validOf s.map i

/-- R21: the map's entries are in ascending order and never overlap, and none is empty. -/
abbrev State.mapInForm (s : State) : Prop := mapSorted s.map = true

/-- R88: the order window never holds more than 4 orders. -/
abbrev State.windowFits (s : State) : Prop := s.window.length ≤ 4

/-- R98: the fetch-run count is at most 8. -/
abbrev State.fetchRunFits (s : State) : Prop := s.fetchRun ≤ 8

/-- R150: the credits held for transmitting are at most 16 on each link. -/
abbrev State.creditsFit (s : State) : Prop := s.portA.creditsHeld ≤ 16 ∧ s.portB.creditsHeld ≤ 16

/-- R70: every queue's stall reason is the first row of the table whose condition holds. -/
abbrev State.stallsStand (s : State) : Prop := ∀ q, (s.queue q).stall = s.stallOf q

/-- R57, R69: Q15 has no hold timer. -/
abbrev State.noTimer15 (s : State) : Prop := (s.queue 15).timer = .stopped

/-- R17: no band rests in CLEANING with nothing valid and no pending read. -/
abbrev State.noneEmptied (s : State) : Prop := ∀ b ∈ s.bands, b.emptied = false

/-- R158: at most 128 entries are in use, and at most 64 of each origin link; R160: no two hold the same tag of one link. -/
structure State.tableFits (s : State) : Prop where
  total : s.table.length ≤ 128
  ofLink : ∀ l, (s.table.countP fun e => e.key.origin == l) ≤ 64
  distinct : (s.table.map (·.key)).Nodup

/-- R108: at most 8 fetch slots in use belong to one origin link. -/
abbrev State.slotsFit (s : State) : Prop := ∀ l, s.slotsInUse l ≤ 8

/-- R42: the sequence counter holds a value from 1 to 2^48 - 1. -/
abbrev State.counterInRange (s : State) : Prop := 1 ≤ s.sequence ∧ s.sequence ≤ 2 ^ 48 - 1

/-- R52, R53, R173: no Put whose response is due waits for it. -/
def State.putsAnswered (s : State) : Prop :=
  ∀ e ∈ s.table, ∀ p, e.info = .put p → p.due = true → e.answered = true

/-- R57, R58: no queue's fill state stands at ALMOST_FULL above its offset; Q15's never does. -/
abbrev State.fillsStand (s : State) : Prop := ∀ q, (s.queue q).almostFull = true → s.fillsUp q = true

/-- R100, R176: while the reset pin is held the media path is OFFLINE, no wait of it runs, and the part is not in service. -/
abbrev State.heldOffline (s : State) : Prop :=
  s.stage = .held → s.path = .offline ∧ s.recoveryWait = false ∧ s.startWait = false ∧ s.service = .starting

/-- R123: every pattern Get has a data frame waiting on its reply link, is answered, or is owed no answer. -/
def State.patternsServed (s : State) : Prop :=
  ∀ e ∈ s.table, e.info.isPattern = true →
    e.answered = true ∨ e.discarded = true ∨ (s.port e.reply).txq.any (OutFrame.isDataOf e.key) = true

/-- R119: no ACTIVE slot whose Get is still owed its answer stands before a settled sector. -/
def State.slotsServed (s : State) : Prop :=
  ∀ i, (s.slot i).state = .active → (s.entry (s.slot i).key).isSome →
    ∀ t, (s.slot i).sectors[(s.slot i).next]? = some t → t.status = none

/-- R61: no queue keeps a mark whose drain set is empty. -/
abbrev State.marksStand (s : State) : Prop := ∀ q : Fin 16, q.val < 15 → (s.queue q).mark = true → s.draining q = true

/-- A sound state: every invariant above holds. -/
structure State.Sound (s : State) : Prop where
  validCounts : s.validCounts
  mapInForm : s.mapInForm
  windowFits : s.windowFits
  fetchRunFits : s.fetchRunFits
  creditsFit : s.creditsFit
  stallsStand : s.stallsStand
  noTimer15 : s.noTimer15
  noneEmptied : s.noneEmptied
  tableFits : s.tableFits
  slotsFit : s.slotsFit
  counterInRange : s.counterInRange
  putsAnswered : s.putsAnswered
  marksStand : s.marksStand
  fillsStand : s.fillsStand
  heldOffline : s.heldOffline
  patternsServed : s.patternsServed
  slotsServed : s.slotsServed

/-- An invariant that every step keeps. -/
def KeptByStep (inv : State → Prop) : Prop := ∀ s t, inv s → step s = .next t → inv t

/-- Nothing in s waits to be settled, in a step that began in old: no standing condition of the rules holds that would change a
record, answer a request or raise a notice. -/
structure State.Quiet (s old : State) : Prop where
  stage : s.stage ≠ .geometry
  lostrel : ∀ r, (s.queue 15).records.head? = some r → r.kind ≠ .lostrel
  bands : s.noneEmptied
  engine : s.engine.state ≠ .reading
  slots : ∀ i, (s.slot i).state = .free
  patterns : s.patternsServed
  puts : s.putsAnswered
  marks : ∀ q, s.markCleared q = false
  reset : s.resetWaits ≠ some 0
  run : s.relocationDue = false
  release : s.placeReleases = false
  pool : s.inUse = old.inUse
  headroom : s.headroom = old.headroom
  space : ∀ q, s.holdTimers.spaceStalled q = true → old.spaceStalled q = true

/-- A safe step: it neither faults nor refuses. -/
def State.Safe (s : State) : Prop := ∃ t, step s = .next t

end Sys2Proof.Machine
end

