-- ==== Sys2Proof/Certificates/Slice0/Obligations.lean ====
section
/-! DEFINITION. The statements for the provers. Each names the rules of spec/ it rests on. A statement that a command GIVES an
effect (Gives, Ends) says that exec answers a next state, which is that effect and what the step settles (log 7). p is the state in
which the command's frame has left the receive buffer (Taken, Takes; log 5). -/

open Sys2Proof Sys2Proof.Machine

/-! ### The step and the states after reset -/

/-- The command at the front of the queue is run on the state with the queue's rest. The queue is the model's own (log 1).
With no command waiting the part idles (log 2). -/
def Obligations.StepRunsTheFrontCommand : Prop :=
  (∀ (s : State) (c : Instr) (rest : List Instr), s.pending = c :: rest → step s = exec c { s with pending := rest }) ∧
  (∀ s : State, s.pending = [] → step s = .next s)

/-- No command stops the part, and none looks at or changes the commands that wait. -/
def Obligations.EveryCommandAnswersANextState : Prop :=
  ∀ (c : Instr) (s : State), ∃ t, exec c s = .next t ∧ t.pending = s.pending

/-- What power applied to a blank part leaves: R6, R42, R47, R48, R56, R57, R99, R100, R125, R146, R148, R154, R176.
Every invariant of Sound holds in the state after reset. -/
def Obligations.ResetState : Prop :=
  (State.reset.sequence = 1 ∧ State.reset.map = [] ∧ State.reset.formatNow = .unformatted ∧ State.reset.service = .starting ∧
    State.reset.path = .offline ∧ State.reset.window = [] ∧ State.reset.escalation = false ∧ State.reset.table = [] ∧
    State.reset.orderLimit = 2000 ∧ State.reset.marks = ⟨2, 8, 12⟩ ∧ State.reset.scope = ⟨false, false⟩ ∧
    State.reset.intervals = [] ∧ State.reset.defaultQueue = 0 ∧ State.reset.lastServed = 15 ∧ State.reset.fetchRun = 0 ∧
    State.reset.spindle.state = .stopped ∧ State.reset.spindle.release = some ⟨false, false, false⟩ ∧
    State.reset.engine.state = .idle ∧
    (∀ l, (State.reset.port l).state = .ready ∧ (State.reset.port l).creditsHeld = 0 ∧
      (State.reset.port l).creditsGranted = 16 ∧ (State.reset.port l).pending = [] ∧
      (State.reset.port l).enabled = Notice.all ∧ (State.reset.port l).selection = none ∧ (State.reset.port l).pattern = false) ∧
    ∀ q, (State.reset.queue q).records = [] ∧ (State.reset.queue q).depth = 16384 ∧ (State.reset.queue q).offset = 1024 ∧
      (State.reset.queue q).hold = 500 ∧ (State.reset.queue q).timer = .stopped ∧ (State.reset.queue q).mark = false ∧
      (State.reset.queue q).almostFull = false) ∧
  (State.reset.Sound)

/-- A level 0 reset keeps map memory and nothing else of the part (R8, R21, R42, R176). The queue of commands and the counter of
free values are the model's own and stay. -/
def Obligations.LevelZeroResetKeepsMapMemory : Prop :=
  ∀ s : State, exec .level0Reset s = .next { State.reset with
    pending := s.pending, freeCount := s.freeCount, profiles := s.profiles, bands := s.bands, map := s.map
    sequence := s.sequence, format := if s.format = .formatting then .unformatted else s.format
    layout := if s.format = .formatting then none else s.layout }

/-! ### Invariants -/

/-- R34: every band's valid count stays the total length of the VALID entries located in it. -/
def Obligations.ValidCountsAreKept : Prop :=
  KeptByStep State.validCounts

/-- R21: the map stays in ascending order, without overlap and without empty entries. -/
def Obligations.MapFormIsKept : Prop :=
  KeptByStep State.mapInForm

/-- R88: the window holds at most 4 orders; R98: the fetch-run count is at most 8; R150: at most 16 credits are held for
transmitting; R57: Q15's hold timer never runs; R57, R58: no queue stands at ALMOST_FULL with its free space above its offset, and Q15
never does.
R42: the counter never falls, rises by at most 1 in a step, and never passes 2^48 - 1. -/
def Obligations.BoundsAreKept : Prop :=
  (KeptByStep State.windowFits ∧ KeptByStep State.fetchRunFits ∧ KeptByStep State.creditsFit ∧ KeptByStep State.noTimer15 ∧
    KeptByStep State.fillsStand) ∧
  (∀ s t, s.counterInRange → step s = .next t → s.sequence ≤ t.sequence ∧ t.sequence ≤ s.sequence + 1 ∧ t.counterInRange)

/-- R70: each queue's stall reason stays the first row of the table whose condition holds.
R17: a CLEANING band with nothing valid and no pending read has left CLEANING by the end of the step. -/
def Obligations.StallReasonsAndEmptiedBands : Prop :=
  (KeptByStep State.stallsStand) ∧
  (KeptByStep State.noneEmptied)

/-- R158, R160: the Request Table keeps within its sizes, and no two entries share a tag of one link.
R108: no origin link has more than 8 fetch slots in use. -/
def Obligations.TableAndSlotsKeepTheirSizes : Prop :=
  (KeptByStep State.tableFits) ∧
  (KeptByStep State.slotsFit)

/-- R52, R53, R61, R173: at the end of a step no Put whose response is due still waits for it, and no drain mark with an empty
drain set still stands. -/
def Obligations.DueAnswersAreGiven : Prop :=
  KeptByStep (fun s => s.tableFits ∧ s.putsAnswered) ∧ KeptByStep State.marksStand

/-- Where nothing waits to be settled, what a step settles is the fill states whose occupancy, offset or depth has changed (R58), the
hold timers (R59), the stall reasons as they are reported (R70) and the beginning of a transmission (R150), and nothing else of the
part changes beyond the command's own effect. -/
def Obligations.QuietSettling : Prop :=
  ∀ s old : State, s.Quiet old → s.settle old = (s.storeFills old).holdTimers.storeStalls.beginSending

/-! ### The map -/

/-- R33: after a Trim of a to b every LSA of the range is unwritten and every other as before; entries outside stay, and an entry
that reaches out of the range keeps its parts outside, the part after it advanced. -/
def Obligations.TrimOfTheMap : Prop :=
  ∀ (m : List Entry) (a b : Nat), mapSorted m = true → a < b →
    mapSorted (cutRange a b m) = true ∧
    (∀ x, content (cutRange a b m) x = if a ≤ x ∧ x < b then none else content m x) ∧
    ∀ e ∈ m, (Outside a b e.start e.stop → e ∈ cutRange a b m) ∧
      (e.start < a → a < e.stop → { e with length := a - e.start } ∈ cutRange a b m) ∧
      (e.start < b → b < e.stop → e.advance (b - e.start) ∈ cutRange a b m)

/-- R25: a host run's copy of a sector replaces an unwritten sector, a LOST one, and a VALID one of lower sequence; every other
sector stays. Only unwritten sectors of the run are ever dropped under R37, and they stay unwritten. -/
def Obligations.HostInsertContent : Prop :=
  ∀ (m : List Entry) (run : Run) (budget : Nat), mapSorted m = true →
    mapSorted (insertHost m run budget).entries = true ∧
    (∀ st ∈ (insertHost m run budget).dropped, ∀ x, st.1 ≤ x → x < st.2 → run.has x ∧ content m x = none) ∧
    ∀ x,
      (¬ run.has x → content (insertHost m run budget).entries x = content m x) ∧
      ((∃ st ∈ (insertHost m run budget).dropped, st.1 ≤ x ∧ x < st.2) →
        content (insertHost m run budget).entries x = none) ∧
      (run.has x → (∀ st ∈ (insertHost m run budget).dropped, ¬ (st.1 ≤ x ∧ x < st.2)) →
        (content m x = none ∨ (∃ q, content m x = some (q, none)) ∨
            (∃ q d, content m x = some (q, some d) ∧ q < run.sequence) →
          content (insertHost m run budget).entries x = some (run.sequence, run.placeOf x)) ∧
        (∀ q d, content m x = some (q, some d) → run.sequence ≤ q →
          content (insertHost m run budget).entries x = content m x))

/-- R28: two host runs of different sequences leave the same map whichever is inserted first where the sectors they share are VALID
or unwritten before both, and each ends with the copy of the greater sequence; a VALID run and a LOST conversion leave what R28
lays down for each order. -/
def Obligations.HostInsertsInEitherOrder : Prop :=
  ∀ (m : List Entry) (r1 r2 : Run) (b : Nat), mapSorted m = true → r1.sequence < r2.sequence →
    (insertHost m r1 b).dropped = [] → (insertHost (insertHost m r1 b).entries r2 b).dropped = [] →
    (insertHost m r2 b).dropped = [] → (insertHost (insertHost m r2 b).entries r1 b).dropped = [] →
    let first1 := (insertHost (insertHost m r1 b).entries r2 b).entries
    let first2 := (insertHost (insertHost m r2 b).entries r1 b).entries
    (r1.location.isSome → r2.location.isSome →
      (∀ x, r1.has x → r2.has x → ∀ q, content m x ≠ some (q, none)) → ∀ x, content first1 x = content first2 x ∧
        (r1.has x → r2.has x → (content m x = none ∨ ∃ q d, content m x = some (q, some d) ∧ q < r2.sequence) →
          content first1 x = some (r2.sequence, r2.placeOf x))) ∧
    (r1.location.isSome → r2.location = none → ∀ x, r1.has x → r2.has x →
      (content m x = none ∨ ∃ q d, content m x = some (q, some d) ∧ q < r1.sequence) →
      content first1 x = some (r2.sequence, none) ∧ content first2 x = some (r1.sequence, r1.placeOf x)) ∧
    (r1.location = none → r2.location.isSome → ∀ x, r1.has x → r2.has x →
      (content m x = none ∨ ∃ q d, content m x = some (q, some d) ∧ q < r1.sequence) →
      content first1 x = some (r2.sequence, r2.placeOf x) ∧ content first2 x = some (r2.sequence, r2.placeOf x))

/-- R29, and R32's relocation form: a relocation run's copy of a sector replaces exactly the VALID copy of the run's sequence that
lies at the source location; a relocation insert adds at most two entries. -/
def Obligations.RelocationInsertContent : Prop :=
  ∀ (m : List Entry) (run : Run) (source : Location) (budget : Nat), mapSorted m = true →
    mapSorted (insertReloc m run source budget).entries = true ∧ (insertReloc m run source budget).dropped = [] ∧
    (insertReloc m run source budget).entries.length ≤ m.length + 2 ∧
    ∀ x,
      (run.has x → content m x = some (run.sequence, some ⟨source.band, source.index + (x - run.lsa)⟩) →
        content (insertReloc m run source budget).entries x = some (run.sequence, run.placeOf x)) ∧
      (¬ (run.has x ∧ content m x = some (run.sequence, some ⟨source.band, source.index + (x - run.lsa)⟩)) →
        content (insertReloc m run source budget).entries x = content m x)

/-! ### Taking a request (R159) -/

/-- R159: the Request Unit's checks, in order; a request refused there reaches no owner. It holds for every request. -/
def Obligations.RequestUnitChecks : Prop :=
  ∀ (c : Instr) (s : State) (l : Link) (tag : Tag) (r : Request) (p : State),
    requestOf c = some (l, tag, r) → Taken s l (.request tag r) p →
    (p.tagInUse (key l tag) = true → Gives c s (p.answerNow (key l tag) r.kind .tagInUse .none)) ∧
    (p.tagInUse (key l tag) = false → p.resetting = true → r.isQuery = false →
      Gives c s (p.answerNow (key l tag) r.kind .busy .none)) ∧
    (p.tagInUse (key l tag) = false → (p.resetting = false ∨ r.isQuery = true) →
      (p.tableFull l = true → r.isQuery = false → r.isReset = false →
        Gives c s (p.answerNow (key l tag) r.kind .busy .none)) ∧
      ((p.tableFull l = false ∨ r.isQuery = true ∨ r.isReset = true) →
        ((p.port l).pattern = true → r.inPattern = false → Gives c s (p.answerNow (key l tag) r.kind .mode .none)) ∧
        (((p.port l).pattern = false ∨ r.inPattern = true) → p.service = .starting → r.ownStarting = false →
          Gives c s (p.answerNow (key l tag) r.kind .starting .none))))

/-! ### Put (R46, R49 to R53, R58) -/

/-- R49: the checks of a Put, in order. A refusal of checks 4 to 7 carries the target queue and its fill state; its sequence field is
a free value (log 15). -/
def Obligations.PutRefusals : Prop :=
  ∀ (s : State) (l : Link) (tag : Tag) (lsa count durability : Nat) (p : State),
    Takes s l tag (.put lsa count durability) p →
    let c := Instr.put l tag lsa count durability
    let q := p.targetQueue l lsa
    let room := Result.put none q.val (p.queue (hostQueue q)).almostFull
    (1 < durability → Gives c s (p.answerNow (key l tag) 1 .invalid .none)) ∧
    (durability ≤ 1 →
      (¬ InSpace p lsa count → Gives c s (p.answerNow (key l tag) 1 .range .none)) ∧
      (InSpace p lsa count →
        (∀ r, Unserving p r → Gives c s (p.answerNow (key l tag) 1 r .none)) ∧
        (Serving p →
          (p.path = .down → Gives c s (p.answerNow (key l tag) 1 .mediaDown .none)) ∧
          (p.path ≠ .down →
            (p.space (hostQueue q) < count → Gives c s (p.answerNow (key l tag) 1 .full room)) ∧
            (count ≤ p.space (hostQueue q) →
              (p.poolFree = 0 → Gives c s (p.answerNow (key l tag) 1 .poolEmpty room)) ∧
              (1 ≤ p.poolFree →
                (p.headroom < 2 → Gives c s (p.answerNow (key l tag) 1 .mapFull room)) ∧
                (2 ≤ p.headroom → p.sequence = 2 ^ 48 - 1 →
                  Gives c s (p.answerNow (key l tag) 1 .failed room))))))))

/-- R50, R58: a Put that passes every check receives the next sequence number and an entry, and its record stands at the tail of the
target queue; QUEUE_ALMOST_FULL is raised on its link when the admission carries the fill state across. No response is sent.
R39, R45: a claim that carries the headroom or the free pool records across their line raises MAP_LOW or POOL_LOW on both links
(log 7). -/
def Obligations.PutAdmission : Prop :=
  (∀ (s : State) (l : Link) (tag : Tag) (lsa count durability : Nat) (p : State) (q : Fin 15) (full : Bool),
    Takes s l tag (.put lsa count durability) p → durability ≤ 1 → InSpace p lsa count → Serving p → p.path ≠ .down →
    q = p.targetQueue l lsa → count ≤ p.space (hostQueue q) → 1 ≤ p.poolFree → 2 ≤ p.headroom → p.sequence ≠ 2 ^ 48 - 1 →
    (full = true ↔ p.space (hostQueue q) - count ≤ (p.queue (hostQueue q)).offset) →
    let x := p.modQueue (hostQueue q) fun x => { x with records := x.records ++
      [{ kind := .host, lsa := lsa, length := count, sequence := p.sequence, filling := count, origin := some (key l tag),
         attempts := 0, source := none, acknowledged := false, drain := false, data := [] }] }
    let y := State.enterTable { x with sequence := p.sequence + 1 } (key l tag) (.put
      { lsa := lsa, count := count, durable := durability == 1, sequence := p.sequence, queue := q, almostFull := full,
        next := 0, settling := false, pieces := 1, outcome := .none })
    Gives (.put l tag lsa count durability) s (State.noteFalls
      (if full = true ∧ (p.queue (hostQueue q)).almostFull = false then y.raise l .queueAlmostFull q.val else y) p)) ∧
  (∀ p t : State,
    (65536 ≤ p.headroom → t.headroom < 65536 → PendingOnBoth (t.noteFalls p) .mapLow) ∧
    (256 ≤ p.poolFree → t.poolFree < 256 → PendingOnBoth (t.noteFalls p) .poolLow) ∧
    ((p.headroom < 65536 ∨ 65536 ≤ t.headroom) → (p.poolFree < 256 ∨ 256 ≤ t.poolFree) → t.noteFalls p = t))

/-- R51, R64, R182: a data frame with the offset its filling Put expects is accepted, and its data joins the record that awaits the
sector; any other is discarded. Either way its receive slot is free and a CREDIT is sent (R149). -/
def Obligations.DataFrames : Prop :=
  ∀ (s : State) (l : Link) (f : DataFrame) (p : State), Taken s l (.data f) p →
    (∀ put, p.putInfo (key l f.tag) = some put → put.next < put.count → put.settling = false → put.next = f.offset →
      dataInForm f = true →
      Gives (.dataFrame l f) s ((((p.modPut (key l f.tag) fun x => { x with next := x.next + 1 }).modQueue (hostQueue put.queue)
        fun q => { q with records := q.records.map (Fragment.receive (key l f.tag) (put.lsa + f.offset) f.data) }).freeSlot l))) ∧
    ((∀ put, p.putInfo (key l f.tag) = some put →
        ¬ (put.next < put.count ∧ put.settling = false ∧ put.next = f.offset ∧ dataInForm f = true)) →
      Gives (.dataFrame l f) s (p.freeSlot l))

/-- R52: the last data frame of a non-durable Put brings its response, OK with its sequence number, its queue and the fill state
recorded at its admission. Once the response has joined the transmit queue every record of a host queue and every piece in flight
that named the Put is acknowledged, and nothing names it as origin any longer: R52 says 'when the response is sent', and the model
takes the joining for it (log 10, DEDUCED). -/
def Obligations.FilledNonDurablePutIsAnswered : Prop :=
  ∀ (s : State) (l : Link) (f : DataFrame) (p : State) (e : ReqEntry) (put : PutInfo), Taken s l (.data f) p →
    p.entry (key l f.tag) = some e → e.info = .put put → e.answered = false → e.discarded = false → put.durable = false →
    put.settling = false → put.outcome = .none → put.next + 1 = put.count → put.next = f.offset → dataInForm f = true →
    p.tableFits → p.engine.clean ≠ some (key l f.tag) →
    (∀ i, (p.slot i).state = .active → (p.slot i).key ≠ key l f.tag) →
    ∃ t, exec (.dataFrame l f) s = .next t ∧
      { tag := f.tag, origin := l, redirected := e.redirected, holds := .entry
        body := .response 1 .ok (.put (some put.sequence) put.queue.val put.almostFull) } ∈ (t.port e.reply).txq ∧
      (∀ q, ∀ r ∈ (t.queue q).records, r.origin ≠ some (key l f.tag)) ∧
      (∀ c ∈ t.allPieces, c.origin ≠ some (key l f.tag)) ∧
      (∀ q : Fin 16, q.val < 15 → ∀ r ∈ (p.queue q).records, r.origin = some (key l f.tag) →
        ∃ v ∈ (t.queue q).records, v.lsa = r.lsa ∧ v.length = r.length ∧ v.sequence = r.sequence ∧ v.kind = r.kind ∧
          v.acknowledged = true ∧ v.origin = none) ∧
      (∀ c ∈ p.allPieces, c.origin = some (key l f.tag) → { c with acknowledged := true, origin := none } ∈ t.allPieces)

/-! ### Get (R109 to R112, R114, R123) -/

/-- R109, R114: the checks of a Get on a link in NORMAL mode, in order. A refused Get changes nothing else.
R109, R112, R114: a Get that passes takes the FREE slot of lowest number (log 26), which becomes ACTIVE with what R110 resolves;
each of its reads claims its band and joins the fetch read list, and a release is asked of Spindle Control where it reads. -/
def Obligations.Gets : Prop :=
  (∀ (s : State) (l : Link) (tag : Tag) (lsa count : Nat) (p : State),
    Takes s l tag (.get lsa count) p → (p.port l).pattern = false →
    let c := Instr.get l tag lsa count
    (¬ InSpace p lsa count → Gives c s (p.answerNow (key l tag) 2 .range .none)) ∧
    (InSpace p lsa count →
      (∀ r, Unserving p r → Gives c s (p.answerNow (key l tag) 2 r .none)) ∧
      (Serving p →
        ((∀ i, (p.slot i).state ≠ .free) ∨ 8 ≤ p.slotsInUse l → Gives c s (p.answerNow (key l tag) 2 .busy .none)) ∧
        (∀ i, p.freeFetchSlot = some i → p.slotsInUse l < 8 → p.readsOf i (p.resolve lsa count) ≠ [] →
          (p.path = .down → Gives c s (p.answerNow (key l tag) 2 .mediaDown .none)) ∧
          (p.path ≠ .down →
            (p.spindle.state ≠ .spinning ∧ p.spindle.state ≠ .starting ∧ p.getReleases = false →
              Gives c s (p.answerNow (key l tag) 2 .asleep .none)) ∧
            (p.spindle.state = .spinning ∨ p.spindle.state = .starting ∨ p.getReleases = true →
              (∃ r ∈ p.readsOf i (p.resolve lsa count), p.claimable r.band
                ((p.readsOf i (p.resolve lsa count)).countP fun x => x.band == r.band) = false) →
              Gives c s (p.answerNow (key l tag) 2 .busy .none))))))) ∧
  (∀ (s : State) (l : Link) (tag : Tag) (lsa count : Nat) (p : State) (i : Fin 16) (reads : List FetchRead),
    Takes s l tag (.get lsa count) p → (p.port l).pattern = false → InSpace p lsa count → Serving p →
    p.freeFetchSlot = some i → p.slotsInUse l < 8 → reads = p.readsOf i (p.resolve lsa count) →
    (reads ≠ [] → p.path ≠ .down ∧
      (p.spindle.state = .spinning ∨ p.spindle.state = .starting ∨ p.getReleases = true) ∧
      ∀ r ∈ reads, p.claimable r.band (reads.countP fun x => x.band == r.band) = true) →
    let x := (p.enterTable (key l tag) .get).modSlot i fun _ =>
      { state := .active, key := key l tag, lsa := lsa, count := count, next := 0, sectors := p.resolve lsa count
        mediaDown := false }
    let y := reads.foldl (fun s r => s.claimRead r.band) x
    let z := { y with fetchList := y.fetchList ++ reads }
    Gives (.get l tag lsa count) s (if reads = [] then z else z.release))

/-- R110, R111: a sector is served from the staged HOST copy of highest sequence, unless the map holds a VALID copy at least as new;
then from the first staged RELOC copy of the map's own sequence, and where there is none from the media. An unwritten or LOST sector
without a copy is settled at once as such, with zero data. -/
def Obligations.GetResolution : Prop :=
  ∀ (p : State) (x : Nat),
    (∀ c ∈ p.hostCopies, c.covers x = true →
      (∀ d ∈ p.hostCopies, d.covers x = true → d = c ∨ d.sequence < c.sequence) →
      (∀ q d, content p.map x = some (q, some d) → q < c.sequence) →
      p.resolveSector x = { source := .staged, status := some .ok, place := none, data := c.data.getD (x - c.lsa) [] }) ∧
    ((∀ c ∈ p.hostCopies, c.covers x = false) →
      (content p.map x = none → p.resolveSector x =
        { source := .unwritten, status := some .unwritten, place := none, data := List.replicate 4096 0 }) ∧
      (∀ q, content p.map x = some (q, none) → p.resolveSector x =
        { source := .lost, status := some .lost, place := none, data := List.replicate 4096 0 })) ∧
    (∀ q d, content p.map x = some (q, some d) → (∀ c ∈ p.hostCopies, c.covers x = true → c.sequence ≤ q) →
      ((∀ c ∈ p.relocCopies, ¬ (c.covers x = true ∧ c.sequence = q)) →
        p.resolveSector x = { source := .media, status := none, place := some (p.placeAt d), data := [] }) ∧
      (∀ before c after, p.relocCopies = before ++ c :: after → c.covers x = true → c.sequence = q →
        (∀ e ∈ before, ¬ (e.covers x = true ∧ e.sequence = q)) →
        p.resolveSector x = { source := .staged, status := some .ok, place := none, data := c.data.getD (x - c.lsa) [] }))

/-- R123: a Get on a link in PATTERN mode is refused for its range or while the part is not in service; else it uses no slot, read
or claim: it holds an entry alone. Byte j of the sector of LSA x is (x + j) mod 256. Its frames follow one another in the order of
their offsets, each joining the transmit queue of the reply link when none of its frames waits there, and its response, OK, behind the
last (log 11); at the end of every step a frame of it waits.
R121, R123: a level 1 or level 2 reset ends it with ABORTED; a failure of its reply link without a paired survivor ends it with no
response. -/
def Obligations.PatternGet : Prop :=
  (∀ (s : State) (l : Link) (tag : Tag) (lsa count : Nat) (p : State),
    Takes s l tag (.get lsa count) p → (p.port l).pattern = true →
    let c := Instr.get l tag lsa count
    (¬ InSpace p lsa count → Gives c s (p.answerNow (key l tag) 2 .range .none)) ∧
    (InSpace p lsa count → p.service = .starting → Gives c s (p.answerNow (key l tag) 2 .starting .none)) ∧
    (InSpace p lsa count → p.service = .inService → Gives c s
      { (p.modPort l fun x => { x with creditsGranted := x.creditsGranted + 1 }) with
        table := p.table ++ [{ key := key l tag, reply := l, redirected := false, discarded := false, answered := false
                               info := .patternGet lsa count 0 }] })) ∧
  (∀ x j, j < 4096 → ((patternSector x)[j]?).map BitVec.toNat = some ((x + j) % 256)) ∧
  (∀ (s : State) (e : ReqEntry) (lsa count next : Nat), s.entry e.key = some e → e.info = .patternGet lsa count next →
    e.answered = false → e.discarded = false →
    let t := s.deliverPattern e
    ((s.port e.reply).txq.any (OutFrame.isDataOf e.key) = true → t = s) ∧
    ((s.port e.reply).txq.any (OutFrame.isDataOf e.key) = false →
      (t.port e.reply).txq = (s.port e.reply).txq ++
        { tag := e.key.tag, origin := e.key.origin, redirected := e.redirected, holds := .nothing
          body := .data .ok next (patternSector (lsa + next)) } ::
        (if next + 1 = count then
          [{ tag := e.key.tag, origin := e.key.origin, redirected := e.redirected, holds := .entry
             body := .response 2 .ok .none }] else []) ∧
      t.port e.reply.other = s.port e.reply.other ∧
      t.entry e.key = some { e with answered := next + 1 == count, info := .patternGet lsa count (next + 1) })) ∧
  KeptByStep (fun s => s.tableFits ∧ s.patternsServed) ∧
  (∀ (p : State) (one : Bool) (e : ReqEntry), p.tableFits → e ∈ p.table → e.info.isPattern = true → e.answered = false →
    e.discarded = false → p.engine.clean ≠ some e.key →
    { tag := e.key.tag, origin := e.key.origin, redirected := e.redirected, holds := .entry
      body := .response 2 .aborted .none } ∈ ((p.performReset one).port e.reply).txq) ∧
  (∀ (s : State) (l : Link) (st : LinkState), s.service = .inService →
    ¬ (s.scope.link = true ∧ s.scope.paired = true ∧ (s.port l.other).state = .running) →
    (∀ e ∈ (s.linkFails l st).table, e.info.isPattern = true → e.reply ≠ l) ∧
    (s.tableFits → ∀ e ∈ s.table, e.info.isPattern = true → e.reply = l → ∀ f ∈ (s.linkFails l st).table, f.key ≠ e.key))

/-! ### Trim (R62 to R65) -/

/-- R62: the checks of a Trim, in order; a Trim that passes takes the next sequence number, is applied to the map, the queues and the
write orders in flight as one change, and is answered OK with its number. -/
def Obligations.Trims : Prop :=
  ∀ (s : State) (l : Link) (tag : Tag) (lsa count : Nat) (p : State), Takes s l tag (.trim lsa count) p →
    let c := Instr.trim l tag lsa count
    (¬ (1 ≤ count ∧ lsa + count ≤ p.logical) → Gives c s (p.answerNow (key l tag) 3 .range .none)) ∧
    (1 ≤ count → lsa + count ≤ p.logical →
      (∀ r, Unserving p r → Gives c s (p.answerNow (key l tag) 3 r .none)) ∧
      (Serving p →
        (p.poolFree < p.recordNeed lsa (lsa + count) → Gives c s (p.answerNow (key l tag) 3 .poolEmpty .none)) ∧
        (p.recordNeed lsa (lsa + count) ≤ p.poolFree →
          (p.headroom < p.entryNeed lsa (lsa + count) → Gives c s (p.answerNow (key l tag) 3 .mapFull .none)) ∧
          (p.entryNeed lsa (lsa + count) ≤ p.headroom →
            (p.sequence = 2 ^ 48 - 1 → Gives c s (p.answerNow (key l tag) 3 .failed .none)) ∧
            (p.sequence ≠ 2 ^ 48 - 1 →
              Gives c s ((State.applyTrim { p with sequence := p.sequence + 1 } lsa (lsa + count)).answerNow (key l tag) 3 .ok
                (.trim p.sequence)))))))

/-- R33, R63, R64, R65: a Trim applied to the range a to b leaves nothing of it in the map, in the queues or in the write orders in
flight, leaves the rest of the map as it was, and withdraws no order. -/
def Obligations.TrimLeavesNothingInRange : Prop :=
  ∀ (p : State) (a b : Nat), a < b → mapSorted p.map = true →
    (∀ x, content (p.applyTrim a b).map x = if a ≤ x ∧ x < b then none else content p.map x) ∧
    (∀ q, ∀ r ∈ ((p.applyTrim a b).queue q).records, Outside a b r.lsa r.stop) ∧
    (∀ w ∈ (p.applyTrim a b).writeOrders, ∀ c ∈ w.pieces, ∀ st ∈ c.stretches,
      Outside a b (c.lsa + st.start) (c.lsa + st.start + st.length)) ∧
    (p.applyTrim a b).window.length = p.window.length ∧
    (p.applyTrim a b).writeOrders.map (fun w => (w.band, w.track, w.queue, w.pieces.map fun c => (c.lsa, c.length, c.sequence))) =
      p.writeOrders.map (fun w => (w.band, w.track, w.queue, w.pieces.map fun c => (c.lsa, c.length, c.sequence)))

/-! ### Flush, Select, Clean -/

/-- R60, R161: a Flush names a host queue or ALL, else INVALID; it needs the part FORMATTED; it is answered OK at its taking where
every drain set it names is empty; else each queue with something to drain gets its mark behind the present tail, every record and
piece in flight joins the drain set, and the Flush waits on it. -/
def Obligations.Flushes : Prop :=
  ∀ (s : State) (l : Link) (tag : Tag) (queue : Nat) (p : State), Takes s l tag (.flush queue) p →
    let c := Instr.flush l tag queue
    let qs := (hostQueues.filter fun q => queue == 255 || q.val == queue).filter p.drainable
    (14 < queue → queue ≠ 255 → Gives c s (p.answerNow (key l tag) 4 .invalid .none)) ∧
    (queue ≤ 14 ∨ queue = 255 →
      (p.formatNow = .unformatted → Gives c s (p.answerNow (key l tag) 4 .unformatted .none)) ∧
      (p.formatNow = .formatting → Gives c s (p.answerNow (key l tag) 4 .busy .none)) ∧
      (p.formatNow = .formatted → qs = [] → Gives c s (p.answerNow (key l tag) 4 .ok .none)) ∧
      (p.formatNow = .formatted → qs ≠ [] → ∃ X, Gives c s X ∧
        X.table = p.table ++ [{ key := key l tag, reply := l, redirected := false, discarded := false, answered := false
                                info := .flush }] ∧
        (∀ q, q ∈ qs → X.queue q = { p.queue q with
          mark := true, waiting := (p.queue q).waiting ++ [key l tag]
          records := (p.queue q).records.map fun r => { r with drain := true } }) ∧
        (∀ q, q ∉ qs → X.queue q = p.queue q) ∧
        (∀ w ∈ X.writeOrders, w.queue ∈ qs → ∀ c ∈ w.pieces, c.drain = true) ∧
        X.map = p.map ∧ X.sequence = p.sequence ∧ X.bands = p.bands ∧ X.window.length = p.window.length))

/-- R47: Select, and what it governs.
R46: the queue a Put enters. -/
def Obligations.SelectRule : Prop :=
  ((∀ (s : State) (l : Link) (tag : Tag) (queue : Nat) (p : State), Takes s l tag (.select queue) p →
    (∀ h : queue < 15, Gives (.select l tag queue) s
      ((p.modPort l fun x => { x with selection := some ⟨queue, h⟩ }).answerNow (key l tag) 5 .ok .none)) ∧
    (queue = 255 → Gives (.select l tag queue) s
      ((p.modPort l fun x => { x with selection := none }).answerNow (key l tag) 5 .ok .none)) ∧
    (15 ≤ queue → queue ≠ 255 → Gives (.select l tag queue) s (p.answerNow (key l tag) 5 .invalid .none))) ∧
  (∀ (p : State) (l : Link) (lsa : Nat) (q : Fin 15), (p.port l).selection = some q → p.targetQueue l lsa = q) ∧
  (∀ (p : State) (l : Link), ((p.performReset false).port l).selection = (p.port l).selection ∧
    ((p.performReset true).port l).selection = none ∧ (p.level0.port l).selection = none)) ∧
  (∀ (p : State) (l : Link) (lsa : Nat), intervalsSorted none p.intervals = true →
    (∀ q, (p.port l).selection = some q → p.targetQueue l lsa = q) ∧
    ((p.port l).selection = none →
      (∀ i ∈ p.intervals, i.first ≤ lsa → lsa ≤ i.last → (p.targetQueue l lsa).val = i.queue) ∧
      ((∀ i ∈ p.intervals, ¬ (i.first ≤ lsa ∧ lsa ≤ i.last)) → p.targetQueue l lsa = p.defaultQueue)))

/-- R127: the checks of a Clean, in order; one that passes starts a run at once, whatever the spindle state, and clears the deferred
band. 0xFFFFFFFF names AUTO. That the start asks no release of the spindle is the model's (log 46, DESIGN CHOICE). -/
def Obligations.Cleans : Prop :=
  ∀ (s : State) (l : Link) (tag : Tag) (band : Nat) (p : State), Takes s l tag (.clean band) p →
    let c := Instr.clean l tag band
    let named := band = 4294967295 ∨ band < p.bands.length
    let found := (band = 4294967295 ∧ ∃ b ∈ p.bands, b.candidate = true) ∨
      (band ≠ 4294967295 ∧ ∃ b, p.bands[band]? = some b ∧ b.candidate = true)
    (p.formatNow = .formatted → ¬ named → Gives c s (p.answerNow (key l tag) 6 .invalid .none)) ∧
    ((p.formatNow = .formatted → named) →
      (∀ r, Unserving p r → Gives c s (p.answerNow (key l tag) 6 r .none)) ∧
      (Serving p →
        (¬ found → Gives c s (p.answerNow (key l tag) 6 .state .none)) ∧
        (found →
          (p.engine.state ≠ .idle → Gives c s (p.answerNow (key l tag) 6 .busy .none)) ∧
          (p.engine.state = .idle → Gives c s (State.enterTable { p with engine :=
            { state := .selecting, run := some (if band = 4294967295 then .auto else .single), clean := some (key l tag)
              target := if band = 4294967295 then none else some band, victim := none, cursor := none, hand := none
              deferred := none } } (key l tag) .clean)))))

/-! ### Set (R163) -/

/-- R56: a queue division of the right form is taken while no queue holds a record and no write order is in flight; offsets are lowered
to their depths, and every OPEN band of a queue whose depth changed becomes CLOSED. A value of another form is INVALID. -/
def Obligations.QueueDivision : Prop :=
  ∀ (s : State) (l : Link) (tag : Tag) (depths : List Nat) (p : State), Takes s l tag (.setQueueDivision depths) p →
    let c := Instr.setQueueDivision l tag depths
    let right := depths.length = 16 ∧ (∀ d ∈ depths, d ≤ 262144) ∧ 1024 ≤ depths.getD 15 0 ∧ depths.sum ≤ 262144
    let quiet := (∀ q, (p.queue q).records = []) ∧ p.writeOrders = []
    (¬ right → Gives c s (p.answerNow (key l tag) 7 .invalid .none)) ∧
    (right → ¬ quiet → Gives c s (p.answerNow (key l tag) 7 .busy .none)) ∧
    (right → quiet → ∃ X : State, Gives c s (X.answerNow (key l tag) 7 .ok .none) ∧
      X = { p with queues := X.queues, bands := X.bands } ∧
      (∀ q, X.queue q = { p.queue q with
        depth := depths.getD q.val 0, offset := min (p.queue q).offset (depths.getD q.val 0) }) ∧
      ∀ (i : Nat) (b : Band), p.bands[i]? = some b →
        X.bands[i]? = some (if b.state = .opened ∧ ∃ q, b.queue = some q ∧ (p.queue q).depth ≠ depths.getD q.val 0 then
          { b with state := .closed, queue := none } else b))

/-- R57: both thresholds of a host queue are replaced and its fill state is worked out again at once, or the Set is INVALID with nothing
changed.
R48: a table that passes replaces the Interval Table and the default queue whole; any other value is INVALID.
R125, R99: the space marks are replaced when 1 ≤ reserve < low < high ≤ 64, and the order limit when it is 100 to 10,000 ms; any
other value is INVALID, with nothing changed. A deadline already running keeps its moment. -/
def Obligations.ThresholdsIntervalsMarksAndLimit : Prop :=
  (∀ (s : State) (l : Link) (tag : Tag) (v : Option (Nat × Nat × Nat)) (p : State), Takes s l tag (.setQueueThresholds v) p →
    let c := Instr.setQueueThresholds l tag v
    (v = none → Gives c s (p.answerNow (key l tag) 7 .invalid .none)) ∧
    (∀ queue offset hold, v = some (queue, offset, hold) →
      (15 ≤ queue → Gives c s (p.answerNow (key l tag) 7 .invalid .none)) ∧
      ∀ q : Fin 16, q.val = queue → queue < 15 →
        ((p.queue q).depth < offset ∨ 60000 < hold → Gives c s (p.answerNow (key l tag) 7 .invalid .none)) ∧
        (offset ≤ (p.queue q).depth → hold ≤ 60000 →
          Gives c s ((p.modQueue q fun x => { x with
            offset := offset, hold := hold, almostFull := decide (p.space q ≤ offset) }).answerNow (key l tag) 7 .ok .none)))) ∧
  (∀ (s : State) (l : Link) (tag : Tag) (v : Option (Nat × List Interval)) (p : State), Takes s l tag (.setIntervals v) p →
    let c := Instr.setIntervals l tag v
    (v = none → Gives c s (p.answerNow (key l tag) 7 .invalid .none)) ∧
    (∀ default is, v = some (default, is) →
      let right := default < 15 ∧ is.length ≤ 32 ∧
        (∀ i ∈ is, i.first ≤ i.last ∧ i.last ≤ 2 ^ 36 - 1 ∧ i.queue < 15) ∧ is.Pairwise fun i j => i.last < j.first
      (¬ right → Gives c s (p.answerNow (key l tag) 7 .invalid .none)) ∧
      (right → ∀ q : Fin 15, q.val = default →
        Gives c s (State.answerNow { p with intervals := is, defaultQueue := q } (key l tag) 7 .ok .none)))) ∧
  ((∀ (s : State) (l : Link) (tag : Tag) (v : Option (Nat × Nat × Nat)) (p : State), Takes s l tag (.setSpaceMarks v) p →
    (v = none → Gives (.setSpaceMarks l tag v) s (p.answerNow (key l tag) 7 .invalid .none)) ∧
    ∀ reserve low high, v = some (reserve, low, high) →
      (¬ (1 ≤ reserve ∧ reserve < low ∧ low < high ∧ high ≤ 64) →
        Gives (.setSpaceMarks l tag v) s (p.answerNow (key l tag) 7 .invalid .none)) ∧
      (1 ≤ reserve → reserve < low → low < high → high ≤ 64 →
        Gives (.setSpaceMarks l tag v) s (State.answerNow { p with marks := ⟨reserve, low, high⟩ } (key l tag) 7 .ok .none))) ∧
  (∀ (s : State) (l : Link) (tag : Tag) (v : Option Nat) (p : State), Takes s l tag (.setOrderLimit v) p →
    (v = none → Gives (.setOrderLimit l tag v) s (p.answerNow (key l tag) 7 .invalid .none)) ∧
    ∀ ms, v = some ms →
      (ms < 100 ∨ 10000 < ms → Gives (.setOrderLimit l tag v) s (p.answerNow (key l tag) 7 .invalid .none)) ∧
      (100 ≤ ms → ms ≤ 10000 →
        Gives (.setOrderLimit l tag v) s (State.answerNow { p with orderLimit := ms } (key l tag) 7 .ok .none))))

/-- R122: BUSY while the link has a Request Table entry; else the mode is set, or the value INVALID.
R154: the error scope. PART is 0, LINK 1; pairing is 0 or 1. -/
def Obligations.LinkModeAndErrorScope : Prop :=
  (∀ (s : State) (l : Link) (tag : Tag) (v : Option Nat) (p : State), Takes s l tag (.setLinkMode v) p →
    let c := Instr.setLinkMode l tag v
    ((∃ e ∈ p.table, e.key.origin = l) → Gives c s (p.answerNow (key l tag) 7 .busy .none)) ∧
    ((∀ e ∈ p.table, e.key.origin ≠ l) →
      (v ≠ some 0 → v ≠ some 1 → Gives c s (p.answerNow (key l tag) 7 .invalid .none)) ∧
      (v = some 0 → Gives c s ((p.modPort l fun x => { x with pattern := false }).answerNow (key l tag) 7 .ok .none)) ∧
      (v = some 1 → Gives c s ((p.modPort l fun x => { x with pattern := true }).answerNow (key l tag) 7 .ok .none)))) ∧
  ((∀ (s : State) (l : Link) (tag : Tag) (v : Option (Nat × Nat)) (p : State), Takes s l tag (.setErrorScope v) p →
    let c := Instr.setErrorScope l tag v
    (v ≠ some (0, 0) → v ≠ some (1, 0) → v ≠ some (1, 1) → Gives c s (p.answerNow (key l tag) 7 .invalid .none)) ∧
    (v = some (0, 0) → Gives c s (State.answerNow { p with scope := ⟨false, false⟩ } (key l tag) 7 .ok .none)) ∧
    (v = some (1, 0) → Gives c s (State.answerNow { p with scope := ⟨true, false⟩ } (key l tag) 7 .ok .none)) ∧
    (v = some (1, 1) → Gives c s (State.answerNow { p with scope := ⟨true, true⟩ } (key l tag) 7 .ok .none))) ∧
  (∀ p : State, (p.performReset true).scope = ⟨false, false⟩ ∧ p.level0.scope = ⟨false, false⟩ ∧
    State.reset.scope = ⟨false, false⟩ ∧ (p.performReset false).scope = p.scope ∧ p.completeFormat.scope = p.scope) ∧
  (∀ (s : State) (l : Link) (tag : Tag) (p : State), Takes s l tag (.querySetting 6) p →
    Gives (.querySetting l tag 6) s (p.answerNow (key l tag) 8 .ok
      (.record [.num 1 (if p.scope.link then 1 else 0), .num 1 (if p.scope.paired then 1 else 0)]))))

/-- R164: the named link's enable set is replaced, and the named kinds leave the named link's pending set, whichever link asks; a value
that names no link or a kind the part does not have is INVALID. The transmission of a notice whose kind is disabled goes on (log 48,
DEDUCED). -/
def Obligations.NoticeSets : Prop :=
  ∀ (s : State) (l : Link) (tag : Tag) (v : Option (Nat × Nat)) (p : State),
    (Takes s l tag (.setNoticeEnables v) p →
      ((∀ set, v ≠ some (0, set) ∧ v ≠ some (1, set)) ∨ (∃ n set, v = some (n, set) ∧ 1024 ≤ set) →
        Gives (.setNoticeEnables l tag v) s (p.answerNow (key l tag) 7 .invalid .none)) ∧
      ∀ (m : Link) (set : Nat), v = some (m.code, set) → set < 1024 →
        Gives (.setNoticeEnables l tag v) s
          ((p.modPort m fun x => { x with enabled := Notice.all.filter fun k => set.testBit (k.code - 1) }).answerNow
            (key l tag) 7 .ok .none)) ∧
    (Takes s l tag (.setClearPendingNotices v) p →
      ((∀ set, v ≠ some (0, set) ∧ v ≠ some (1, set)) ∨ (∃ n set, v = some (n, set) ∧ 1024 ≤ set) →
        Gives (.setClearPendingNotices l tag v) s (p.answerNow (key l tag) 7 .invalid .none)) ∧
      ∀ (m : Link) (set : Nat), v = some (m.code, set) → set < 1024 → ∃ X : State,
        Gives (.setClearPendingNotices l tag v) s (X.answerNow (key l tag) 7 .ok .none) ∧ X.port m.other = p.port m.other ∧
        X = p.setPort m (X.port m) ∧
        X.port m = { p.port m with sending := (X.port m).sending, pending :=
          (p.port m).pending.filter fun n => !set.testBit (n.kind.code - 1) })

/-! ### Query (R165, R166) -/

/-- R165, R166: each Query is answered at once with its record, as it stands, or its refusal; it holds no entry and changes no record
beyond its own answer (the counter of free values is the model's own, log 14).
R23, R41: a lookup reports the covering entry's sequence, state and place, or the start of the next entry above, or L. The records'
content is the rules'; the order and the widths of their fields are R180's where it gives a coding and the model's elsewhere (log 20). A
place and a location are each one field, present or absent whole (R180), and so are the Clean request and the track in hand of the
relocation state (R124). The counts are those of the records in map memory before START_UP too (log 49), and a queue record while
FORMATTING is read from the Band Table of before the Format (log 50, DESIGN CHOICE both). -/
def Obligations.QueriesAndLookups : Prop :=
  (∀ (s : State) (l : Link) (tag : Tag) (p : State),
    (∀ n, Takes s l tag (.queryBandRecord n) p →
      (p.formatNow = .unformatted → Gives (.queryBandRecord l tag n) s (p.answerNow (key l tag) 8 .unformatted .none)) ∧
      (p.formatNow = .formatting → Gives (.queryBandRecord l tag n) s (p.answerNow (key l tag) 8 .busy .none)) ∧
      (p.formatNow = .formatted → p.bands.length ≤ n →
        Gives (.queryBandRecord l tag n) s (p.answerNow (key l tag) 8 .range .none)) ∧
      (p.formatNow = .formatted → ∀ b, p.bands[n]? = some b →
        Gives (.queryBandRecord l tag n) s (p.answerNow (key l tag) 8 .ok (.record b.fields)))) ∧
    (∀ n, Takes s l tag (.queryQueueRecord n) p →
      (16 ≤ n → ∃ X, Gives (.queryQueueRecord l tag n) s X ∧
        X = { p.answerNow (key l tag) 8 .invalid .none with freeCount := X.freeCount }) ∧
      (∀ q : Fin 16, q.val = n → ∃ X, Gives (.queryQueueRecord l tag n) s X ∧
        X = { p.answerNow (key l tag) 8 .ok (.record (p.queueFields q)) with freeCount := X.freeCount })) ∧
    (∀ x, Takes s l tag (.queryMapLookup x) p →
      (p.formatNow = .unformatted → Gives (.queryMapLookup l tag x) s (p.answerNow (key l tag) 8 .unformatted .none)) ∧
      (p.formatNow = .formatting → Gives (.queryMapLookup l tag x) s (p.answerNow (key l tag) 8 .busy .none)) ∧
      (p.formatNow = .formatted → p.logical ≤ x →
        Gives (.queryMapLookup l tag x) s (p.answerNow (key l tag) 8 .range .none)) ∧
      (p.formatNow = .formatted → x < p.logical →
        Gives (.queryMapLookup l tag x) s (p.answerNow (key l tag) 8 .ok (.record (p.lookupFields x))))) ∧
    (Takes s l tag .queryCounts p → Gives (.queryCounts l tag) s (p.answerNow (key l tag) 8 .ok (.record
      [.num 1 p.formatNow.code, .num 1 (if p.service = .inService then 1 else 0), .num 3 p.freeBands, .num 3 p.retiredBands,
       .num 2 p.poolFree, .num 3 p.freeEntries, .num 2 p.reservedEntries, .num 3 p.headroom, .num 6 p.sequence]))) ∧
    (Takes s l tag .queryMediaAndSpindleState p → ∃ X, Gives (.queryMediaAndSpindleState l tag) s X ∧
      X = { p.answerNow (key l tag) 8 .ok (.record p.mediaFields) with freeCount := X.freeCount }) ∧
    (Takes s l tag .queryRelocationState p →
      Gives (.queryRelocationState l tag) s (p.answerNow (key l tag) 8 .ok (.record p.relocationFields))) ∧
    (Takes s l tag .queryLinkStatesAndTableUse p →
      Gives (.queryLinkStatesAndTableUse l tag) s (p.answerNow (key l tag) 8 .ok (.record p.linksFields))) ∧
    (∀ n, Takes s l tag (.queryProfileRecord n) p →
      (8 ≤ n → Gives (.queryProfileRecord l tag n) s (p.answerNow (key l tag) 8 .invalid .none)) ∧
      (n < 8 → Gives (.queryProfileRecord l tag n) s (p.answerNow (key l tag) 8 .ok (.record (p.profile n).fields)))) ∧
    (∀ n, Takes s l tag (.querySetting n) p →
      (n = 0 ∨ 9 ≤ n → Gives (.querySetting l tag n) s (p.answerNow (key l tag) 8 .invalid .none)) ∧
      (1 ≤ n → n ≤ 8 → ∃ fields, p.settingFields l n = some fields ∧
        Gives (.querySetting l tag n) s (p.answerNow (key l tag) 8 .ok (.record fields))))) ∧
  (∀ (p : State) (x : Nat), mapSorted p.map = true →
    (∀ e ∈ p.map, e.start ≤ x → x < e.stop → p.lookupFields x =
      [.opt 6 (some e.sequence), .opt 1 (some e.stateCode),
       .parts (e.location.map fun d => [(3, d.band), (3, d.index + (x - e.start))]), .opt 5 (some e.start), .opt 3 (some e.length),
       .opt 6 (some e.sequence), .opt 1 (some e.stateCode), .parts (e.location.map fun d => [(3, d.band), (3, d.index)]),
       .opt 5 none]) ∧
    ((∀ e ∈ p.map, ¬ (e.start ≤ x ∧ x < e.stop)) →
      ∃ n, p.lookupFields x = [.opt 6 none, .opt 1 none, .parts none, .opt 5 none, .opt 3 none, .opt 6 none, .opt 1 none,
          .parts none, .opt 5 (some n)] ∧
        ((∃ e ∈ p.map, e.start = n ∧ x < n ∧ ∀ d ∈ p.map, x < d.start → n ≤ d.start) ∨
          (n = p.logical ∧ ∀ d ∈ p.map, ¬ x < d.start)))) ∧
  (∀ p : State, p.relocationFields =
    [.num 1 p.engine.state.code, .opt 1 (p.engine.run.map (·.code)),
     .parts (p.engine.clean.map fun k => [(1, k.origin.code), (2, k.tag.toNat)]), .opt 3 p.engine.victim, .opt 1 p.engine.cursor,
     .parts (p.engine.hand.map fun h => [(1, h.track), (1, h.phase.code), (1, h.stage.code), (2, (p.handCounts h).1),
       (2, (p.handCounts h).2)]),
     .opt 3 p.engine.deferred, .num 1 p.marks.reserve, .num 1 p.marks.low, .num 1 p.marks.high])

/-! ### Load Profile and Format -/

/-- R3: the checks of a Load Profile, in order; one that passes makes the profile UPDATING with its pending values and puts a GEOMETRY
order to the Media Port. -/
def Obligations.LoadProfiles : Prop :=
  ∀ (s : State) (l : Link) (tag : Tag) (profile sectors tracks verify : Nat) (p : State),
    Takes s l tag (.loadProfile profile sectors tracks verify) p →
    let c := Instr.loadProfile l tag profile sectors tracks verify
    let ranges := profile < 8 ∧ 64 ≤ sectors ∧ sectors ≤ 1024 ∧ 8 ≤ tracks ∧ tracks ≤ 128 ∧ verify ≤ 1
    let fitting := ∀ x, p.format = .formatted → p.layout = some x → x.assigns profile = true →
      x.holds (fun n => if n = profile then tracks * (sectors - 1) else p.capacityOf n) = true
    (¬ (ranges ∧ fitting) → Gives c s (p.answerNow (key l tag) 9 .invalid .none)) ∧
    (ranges → fitting →
      ((p.profile profile).state = .updating ∨ p.format = .formatting → Gives c s (p.answerNow (key l tag) 9 .busy .none)) ∧
      ((p.profile profile).state ≠ .updating → p.format ≠ .formatting →
        (p.format = .formatted → (∃ b ∈ p.bands, b.profile = profile ∧ b.state ≠ .free) →
          Gives c s (p.answerNow (key l tag) 9 .inUse .none)) ∧
        ((p.format = .formatted → ∀ b ∈ p.bands, b.profile = profile → b.state = .free) →
          (p.path = .down → Gives c s (p.answerNow (key l tag) 9 .mediaDown .none)) ∧
          (p.path ≠ .down → ∃ X, Gives c s X ∧
            X = { (p.modProfile profile fun x =>
                { state := .updating, shape := x.shape, pending := some ⟨sectors, tracks, verify == 1⟩
                  before := some x.state }).enterTable (key l tag) .loadProfile with
              geometry := p.geometry ++ [⟨profile, sectors, tracks, .loadProfile (key l tag)⟩] }))))

/-- R7: the checks of a Format, in order; one that passes puts the part in FORMATTING. That a fetch slot not FREE, and a Get's entry
of either mode, count as requests at work is the model's reading (log 33, DEDUCED).
R8, R67: when the format mark is written the part is FORMATTED under the layout, with B FREE bands, an empty map and every fill state
NORMAL (log 41), and the Format is answered OK. The sequence counter and the settings stay. An event with no Format under way changes
nothing of its own (log 4). -/
def Obligations.Formats : Prop :=
  (∀ (s : State) (l : Link) (tag : Tag) (logical bands : Nat) (ranges : List LayoutRange) (p : State),
    Takes s l tag (.format logical bands ranges) p →
    let c := Instr.format l tag logical bands ranges
    let x : Layout := ⟨logical, bands, ranges⟩
    let quiet := p.inUse = 0 ∧ p.window = [] ∧ p.geometry = [] ∧ p.spindle.motion = none ∧ p.fetchList = [] ∧
      (∀ i, (p.slot i).state = .free) ∧ (∀ e ∈ p.table, e.info.isGet = false) ∧ p.engine.state = .idle
    (x.wellFormed = false → Gives c s (p.answerNow (key l tag) 10 .invalid .none)) ∧
    (x.wellFormed = true →
      ((∃ r ∈ ranges, (p.profile r.profile).state = .unset) → Gives c s (p.answerNow (key l tag) 10 .state .none)) ∧
      ((∀ r ∈ ranges, (p.profile r.profile).state ≠ .unset) →
        ((∃ n, n < 8 ∧ (p.profile n).state = .updating) ∨ p.format = .formatting →
          Gives c s (p.answerNow (key l tag) 10 .busy .none)) ∧
        ((∀ n, n < 8 → (p.profile n).state ≠ .updating) → p.format ≠ .formatting →
          (¬ quiet → Gives c s (p.answerNow (key l tag) 10 .busy .none)) ∧
          (quiet → x.holds p.capacityOf = false → Gives c s (p.answerNow (key l tag) 10 .invalid .none)) ∧
          (quiet → x.holds p.capacityOf = true →
            Gives c s (State.enterTable { p with format := .formatting, formatting := some x } (key l tag) .format)))))) ∧
  (∀ s : State,
    (∀ x, s.format = .formatting → s.formatting = some x →
      Gives .formatComplete s (State.answerAll { s.mapQueues fun _ q => { q with almostFull := false } with
        format := .formatted, layout := some x, formatting := none, map := [], engine := { s.engine with deferred := none }
        bands := x.ranges.flatMap fun r => List.replicate (r.last + 1 - r.first)
          { state := .free, profile := r.profile, issued := 0, completed := 0, skipped := 0, valid := 0, pendingReads := 0
            queue := none, generation := 0, retire := false, suspect := false, prior := none } } s.formats .ok)) ∧
    (s.format ≠ .formatting ∨ s.formatting = none → Gives .formatComplete s s) ∧
    ∀ x : Layout, x.wellFormed = true →
      (x.ranges.flatMap fun r => List.replicate (r.last + 1 - r.first) r.profile).length = x.bands)

/-! ### Quiesce, Wake, Media Restart -/

/-- R139, R140: the checks of a Quiesce, in order; one that passes enters PARKING or STOPPING and presents PARK or SPIN DOWN. -/
def Obligations.Quiesces : Prop :=
  ∀ (s : State) (l : Link) (tag : Tag) (target release interval : Nat) (p : State),
    Takes s l tag (.quiesce target release interval) p →
    let c := Instr.quiesce l tag target release interval
    let right := target ≤ 1 ∧ release < 8 ∧ (release.testBit 2 = true → 1 ≤ interval ∧ interval ≤ 86400)
    let restless := p.path = .offline ∨ p.path = .recovering ∨ p.window ≠ [] ∨ p.awaitsMedia = true ∨
      (release.testBit 1 = true ∧ ((∃ q, p.ready q = true) ∨ p.engine.state ≠ .idle))
    (¬ right → Gives c s (p.answerNow (key l tag) 11 .invalid .none)) ∧
    (right →
      (∀ r, Unserving p r → Gives c s (p.answerNow (key l tag) 11 r .none)) ∧
      (Serving p →
        (p.spindle.state ≠ .spinning → Gives c s (p.answerNow (key l tag) 11 .busy .none)) ∧
        (p.spindle.state = .spinning →
          (p.path = .down → Gives c s (p.answerNow (key l tag) 11 .mediaDown .none)) ∧
          (p.path ≠ .down → restless → Gives c s (p.answerNow (key l tag) 11 .notIdle .none)) ∧
          (p.path ≠ .down → ¬ restless → Gives c s (State.enterTable { p with spindle :=
            { state := if target = 0 then .parking else .stopping
              resting := some (if target = 0 then .parked else .stopped)
              release := some ⟨release.testBit 0, release.testBit 1, release.testBit 2⟩
              wakeInterval := if release.testBit 2 then some interval else none
              wakeTimer := none, releasePending := false, quiesce := some (key l tag), attempts := none, wakes := []
              motion := some (if target = 0 then .park else .spinDown) } } (key l tag) .quiesce)))))

/-- R141, R143, R145: what a Wake does in each state of the spindle.
R101, R106: Media Restart is answered STATE unless the path is DOWN; then the path enters RECOVERING with an empty window, a
recovery wait and MEDIA_RECOVERING on both links, the request keeps its entry, and the spindle is released.
R141: what a release does in each state of the spindle, whatever the path; where PLACE is in the release set, a queue newly offered and
a relocation read newly presented each ask for one (log 22). -/
def Obligations.WakesAndMediaRestarts : Prop :=
  (∀ (s : State) (l : Link) (tag : Tag) (p : State), Takes s l tag .wake p →
    let c := Instr.wake l tag
    let joined := State.enterTable { p with spindle := { p.spindle with wakes := p.spindle.wakes ++ [key l tag] } }
      (key l tag) .wake
    let rests := p.spindle.state = .parked ∨ p.spindle.state = .stopped
    (p.service = .starting → Gives c s (p.answerNow (key l tag) 12 .starting .none)) ∧
    (p.service = .inService →
      (p.spindle.state = .spinning → Gives c s (p.answerNow (key l tag) 12 .ok .none)) ∧
      (rests → p.path = .down → Gives c s (p.answerNow (key l tag) 12 .mediaDown .none)) ∧
      (rests → p.path ≠ .down → Gives c s { joined with spindle := { joined.spindle with
        state := .starting, attempts := some 0, wakeTimer := none, releasePending := false
        motion := some (if p.spindle.resting = some .parked then .unpark else .spinUp) } }) ∧
      (p.spindle.state = .parking ∨ p.spindle.state = .stopping →
        Gives c s { joined with spindle := { joined.spindle with releasePending := true } }) ∧
      (p.spindle.state = .starting → Gives c s joined))) ∧
  (∀ (s : State) (l : Link) (tag : Tag) (p : State), Takes s l tag .mediaRestart p →
    let c := Instr.mediaRestart l tag
    (p.path ≠ .down → Gives c s (p.answerNow (key l tag) 15 .state .none)) ∧
    (p.path = .down → p.window = [] → p.geometry = [] → Gives c s
      (State.release (State.raiseBoth { p.enterTable (key l tag) .mediaRestart with
        path := .recovering, deadline := none, mediaReset := false, recoveryWait := true } .mediaRecovering 0)))) ∧
  (∀ s : State,
    (s.spindle.state = .parked ∨ s.spindle.state = .stopped → s.release = { s with spindle := { s.spindle with
      state := .starting, attempts := some 0, wakeTimer := none, releasePending := false
      motion := some (if s.spindle.resting = some .parked then .unpark else .spinUp) } }) ∧
    (s.spindle.state = .parking ∨ s.spindle.state = .stopping →
      s.release = { s with spindle := { s.spindle with releasePending := true } }) ∧
    (s.spindle.state = .starting ∨ s.spindle.state = .spinning → s.release = s)) ∧
  (∀ s old : State,
    let asked := (∃ q, s.offered q = true ∧ old.offered q = false) ∨
      (s.relocPresented = true ∧ (old.relocPresented = false ∨ s.engine.victim ≠ old.engine.victim ∨
        s.engine.hand.map (·.track) ≠ old.engine.hand.map (·.track)))
    (s.placeReleases = true → asked → s.askRelease old = s.release) ∧
    (s.placeReleases = false ∨ ¬ asked → s.askRelease old = s))

/-! ### Reset (R171 to R175) -/

/-- R171: a level other than 1 and 2 is FAILED; a level 1 or 2 reset is performed, and answered OK at its taking where the window is
empty, the reset being over with the step (log 12); else its link and tag stand in the reset record until the orders of the window have
left it. -/
def Obligations.Resets : Prop :=
  ∀ (s : State) (l : Link) (tag : Tag) (level : Nat) (p : State), Takes s l tag (.reset level) p →
    let c := Instr.reset l tag level
    (level ≠ 1 → level ≠ 2 → Gives c s (p.answerNow (key l tag) 13 .failed .none)) ∧
    (level = 1 ∨ level = 2 →
      (p.window = [] → Gives c s ((p.performReset (level == 1)).answerNow (key l tag) 13 .ok .none) ∧
        ∃ t, exec c s = .next t ∧ t.resetting = false) ∧
      (p.window ≠ [] → Gives c s (State.freeSlot { p.performReset (level == 1) with
        resetRecord := some { key := key l tag, reply := l, redirected := false, discarded := false } } l)))

/-- R85, R121, R137, R172, R175: what the work of a level 1 or level 2 reset leaves. The premise on prior states is R9's.
R172: with one acknowledged record staged, a reset converts its sectors to LOST where the map holds no VALID copy as new, and raises
DATA_LOST on both links, with the lowest sector lost where none was pending; every other sector stays. Its premise says that the map
has the room for it that R35 keeps for every record.
R17: a CLEANING band without pending reads that the conversions leave with nothing valid becomes FREE or RETIRED, and RELOCATION_DONE
is raised on both links.
R13, R172: an OPEN band becomes CLOSED and bound to no queue; R16, R137: the engine's victim, where it does not leave CLEANING so,
returns to its prior state; neither changes otherwise but for its valid count and the pending reads of Gets that end. That
the victim returns before those reads are released is the model's (log 51, DESIGN CHOICE).
R61, R121, R127, R172: a Get in an ACTIVE slot, a Flush waiting on a mark, and the Clean of a run whose victim does not leave CLEANING are
answered ABORTED, and the Get's slot is in ENDING. The premise on the Clean is that it is no other request's entry.
R173: a Put not answered yet stops taking data: with no piece in flight it is answered at the reset, MEDIA_ERROR where that was its
outcome, else ABORTED where it was filling or had a record staged, else OK; with pieces in flight it waits for them, its outcome so
recorded. -/
def Obligations.ResetWork : Prop :=
  (∀ (p : State) (one : Bool), (∀ b ∈ p.bands, b.prior ≠ some .opened) →
    let t := p.performReset one
    (∀ q, (t.queue q).records = [] ∧ (t.queue q).almostFull = false ∧ (t.queue q).timer = .stopped ∧ (t.queue q).mark = false ∧
      (t.queue q).waiting = []) ∧
    (∀ w ∈ t.writeOrders, w.orphaned = true) ∧ t.window.length = p.window.length ∧
    t.resetWaits = some p.window.length ∧
    (∀ b ∈ t.bands, b.state ≠ .opened) ∧ t.bands.length = p.bands.length ∧ t.engine = Engine.reset ∧
    (∀ i, (t.slot i).state ≠ .active) ∧
    t.sequence = p.sequence ∧ t.profiles = p.profiles ∧ t.format = p.format ∧ t.layout = p.layout ∧ t.path = p.path ∧
    t.deadline = p.deadline ∧ t.escalation = p.escalation ∧ t.spindle = p.spindle ∧ t.geometry = p.geometry ∧
    t.fetchRun = p.fetchRun ∧ t.lastServed = p.lastServed ∧
    (∀ l, (t.port l).state = (p.port l).state ∧ (t.port l).creditsHeld = (p.port l).creditsHeld ∧
      (t.port l).rx = (p.port l).rx) ∧
    (one = true → t.intervals = [] ∧ t.defaultQueue = 0 ∧ t.marks = ⟨2, 8, 12⟩ ∧ t.scope = ⟨false, false⟩ ∧
      t.orderLimit = 2000 ∧
      (∀ l, (t.port l).selection = none ∧ (t.port l).pattern = false ∧ (t.port l).enabled = Notice.all) ∧
      ∀ q, (t.queue q).depth = 16384 ∧ (t.queue q).offset = 1024 ∧ (t.queue q).hold = 500) ∧
    (one = false → t.intervals = p.intervals ∧ t.defaultQueue = p.defaultQueue ∧ t.marks = p.marks ∧ t.scope = p.scope ∧
      t.orderLimit = p.orderLimit ∧
      (∀ l, (t.port l).selection = (p.port l).selection ∧ (t.port l).pattern = (p.port l).pattern ∧
        (t.port l).enabled = (p.port l).enabled) ∧
      ∀ q, QueueKept (p.queue q) (t.queue q))) ∧
  (∀ (p : State) (one : Bool) (r : Fragment), mapSorted p.map = true → p.acknowledgedRecords = [r] →
    2 * p.inUse + 2 * r.length ≤ p.freeEntries →
    let t := p.performReset one
    let lost := fun x => r.lsa ≤ x ∧ x < r.lsa + r.length ∧ ∀ q d, content p.map x = some (q, some d) → q < r.sequence
    (∀ x, (lost x → content t.map x = some (r.sequence, none)) ∧ (¬ lost x → content t.map x = content p.map x)) ∧
    (∀ l, (∃ x, lost x) → ∃ n ∈ (t.port l).pending, n.kind = .dataLost) ∧
    (∀ l x, lost x → (∀ y, lost y → x ≤ y) → (∀ n ∈ (p.port l).pending, n.kind ≠ .dataLost) →
      ∃ n ∈ (t.port l).pending, n.kind = .dataLost ∧ n.detail = x)) ∧
  (∀ (p : State) (one : Bool) (i : Nat) (b : Band), p.validCounts → p.bands[i]? = some b → b.state = .cleaning →
    b.pendingReads = 0 → validOf p.convertRecords.map i = 0 →
    let t := p.performReset one
    (∃ v, t.bands[i]? = some v ∧ v.state = (if b.retire then .retired else .free) ∧ v.issued = 0 ∧ v.completed = 0 ∧
      v.skipped = 0 ∧ v.retire = false ∧ v.suspect = false) ∧ PendingOnBoth t .relocationDone) ∧
  (∀ (p : State) (one : Bool) (i : Nat) (b : Band), p.bands[i]? = some b →
    let t := p.performReset one
    (b.state = .opened → ∃ v, t.bands[i]? = some v ∧
      v = { b with state := .closed, queue := none, valid := v.valid, pendingReads := v.pendingReads }) ∧
    (∀ prior, b.state = .cleaning → b.prior = some prior → p.engine.victim = some i → p.validCounts →
      (b.pendingReads ≠ 0 ∨ validOf p.convertRecords.map i ≠ 0) → ∃ v, t.bands[i]? = some v ∧
        v = { b with state := prior, prior := none, valid := v.valid, pendingReads := v.pendingReads })) ∧
  (∀ (p : State) (one : Bool) (e : ReqEntry), p.tableFits → e ∈ p.table → e.answered = false → e.discarded = false →
    let t := p.performReset one
    let aborted : OutFrame := { tag := e.key.tag, origin := e.key.origin, redirected := e.redirected, holds := .entry
                                body := .response e.info.kind .aborted .none }
    (∀ i, p.engine.clean ≠ some e.key → (p.slot i).state = .active → (p.slot i).key = e.key → e.info = .get →
      aborted ∈ (t.port e.reply).txq ∧ (t.slot i).state = .ending) ∧
    (∀ q : Fin 16, q.val < 15 → p.engine.clean ≠ some e.key → e.key ∈ (p.queue q).waiting → e.info = .flush →
      aborted ∈ (t.port e.reply).txq) ∧
    (∀ v b, p.engine.clean = some e.key → e.info = .clean → p.validCounts →
      (p.engine.victim = none ∨ (p.engine.victim = some v ∧ p.bands[v]? = some b ∧
        (b.state ≠ .cleaning ∨ b.pendingReads ≠ 0 ∨ validOf p.convertRecords.map v ≠ 0))) →
      aborted ∈ (t.port e.reply).txq)) ∧
  (∀ (p : State) (one : Bool) (e : ReqEntry) (put : PutInfo), p.tableFits → e ∈ p.table → e.info = .put put →
    e.answered = false → p.engine.clean ≠ some e.key → (∀ i, (p.slot i).state = .active → (p.slot i).key ≠ e.key) →
    (∀ q, e.key ∉ (p.queue q).waiting) →
    let t := p.performReset one
    let flight := (p.allPieces.map fun c => if c.origin = some e.key then c.stretches.length else 0).sum
    let cut := (put.next < put.count ∧ put.settling = false) ∨
      ∃ q : Fin 16, q.val < 15 ∧ ∃ r ∈ (p.queue q).records, r.origin = some e.key
    ∃ outcome : Outcome,
      (put.outcome = .mediaError → outcome = .mediaError) ∧ (put.outcome ≠ .mediaError → cut → outcome = .aborted) ∧
      (¬ cut → outcome = put.outcome) ∧
      (flight = 0 → e.discarded = false →
        { tag := e.key.tag, origin := e.key.origin, redirected := e.redirected, holds := .entry
          body := .response 1 outcome.status (.put (some put.sequence) put.queue.val put.almostFull) } ∈ (t.port e.reply).txq) ∧
      (flight = 0 → e.discarded = true → t.entry e.key = none) ∧
      (flight ≠ 0 → t.entry e.key = some { e with info := .put { put with
        settling := true, pieces := flight, outcome := outcome } }))

/-! ### Hold Link and malformed frames -/

/-- R152: Hold Link names the other link, else INVALID. HOLD cuts the other link off, which is a link failure where it was RUNNING, and
does nothing to a HELD one; RELEASE moves a HELD link to READY with a full grant, else STATE. -/
def Obligations.HoldAndRelease : Prop :=
  ∀ (s : State) (l : Link) (tag : Tag) (named : Nat) (p : State),
    (Takes s l tag (.hold named) p →
      (named ≠ l.other.code → Gives (.holdLinkHold l tag named) s (p.answerNow (key l tag) 14 .invalid .none)) ∧
      (named = l.other.code →
        ((p.port l.other).state = .running →
          Gives (.holdLinkHold l tag named) s ((p.linkFails l.other .held).answerNow (key l tag) 14 .ok .none)) ∧
        ((p.port l.other).state = .ready ∨ (p.port l.other).state = .error →
          Gives (.holdLinkHold l tag named) s ((p.modPort l.other fun x =>
            { x with state := .held, rx := [], txq := [], sending := none }).answerNow (key l tag) 14 .ok .none)) ∧
        ((p.port l.other).state = .held →
          Gives (.holdLinkHold l tag named) s (p.answerNow (key l tag) 14 .ok .none)))) ∧
    (Takes s l tag (.release named) p →
      (named ≠ l.other.code → Gives (.holdLinkRelease l tag named) s (p.answerNow (key l tag) 14 .invalid .none)) ∧
      (named = l.other.code →
        ((p.port l.other).state ≠ .held →
          Gives (.holdLinkRelease l tag named) s (p.answerNow (key l tag) 14 .state .none)) ∧
        ((p.port l.other).state = .held →
          Gives (.holdLinkRelease l tag named) s ((p.modPort l.other fun x => { x with
            state := .ready, rx := [], txq := [], creditsHeld := 0, creditsGranted := 16, sending := none }).answerNow
              (key l tag) 14 .ok .none))))

/-- R159, R160, R182: a frame whose header cannot be read is answered MALFORMED with its kind and tag, and puts no tag in use; one that
names an item or an action the part does not have is INVALID (log 6, log 32). Its check value is right there.
R151, R181: where such a frame arrives on a RUNNING link with a wrong check value, it is a link error, and so it is on a READY link, which
it makes RUNNING (R148). -/
def Obligations.MalformedFrames : Prop :=
  (∀ (s : State) (l : Link) (bytes : List Byte) (p : State), checkRight bytes = true →
    (∀ kind tag, readFrame bytes = .malformed kind tag → Taken s l (.malformed kind tag) p →
      Gives (.malformed l bytes) s (p.pushFrame l { tag := tag, origin := l, redirected := false, holds := .slot
                                                    body := .response kind .malformed .none })) ∧
    (∀ kind tag, readFrame bytes = .request tag (.unknown kind) → Takes s l tag (.unknown kind) p →
      Gives (.malformed l bytes) s (p.answerNow (key l tag) kind .invalid .none)) ∧
    (∀ kind tag, (fieldAt bytes 0 1 ≠ 1 ∧ fieldAt bytes 0 1 ≠ 3) → kind = fieldAt bytes 1 1 →
      tag = BitVec.ofNat 16 (fieldAt bytes 2 2) → readFrame bytes = .malformed kind tag)) ∧
  (∀ (s : State) (l : Link) (bytes : List Byte), checkRight bytes = false → (s.port l).rx = [] →
    ((∃ kind tag, readFrame bytes = .malformed kind tag) ∨ ∃ kind tag, readFrame bytes = .request tag (.unknown kind)) →
    ((s.port l).state = .running → Gives (.malformed l bytes) s (s.linkFails l .error)) ∧
    ((s.port l).state = .ready → Gives (.malformed l bytes) s
      (((s.modPort l fun x => { x with state := .running }).raise l.other .peerLink 0).linkFails l .error)))

/-! ### Units of a link (R147 to R151, R157) -/

/-- R148, R157: an IDLE makes a READY link RUNNING and raises PEER_LINK on the other link; on a link in another state it changes
nothing.
R150, R151: a CREDIT raises the credits held by 1; one that would carry them above 16 is a link error; ERROR and HELD ignore it.
R149, R151: a frame with a right check value that arrives within the credits granted takes a slot; any other frame is a link error;
ERROR and HELD ignore it. R148: each of them makes a READY link RUNNING before it is taken, the one that is a link error too. -/
def Obligations.UnitsReceived : Prop :=
  (∀ (s : State) (l : Link),
    ((s.port l).state = .ready →
      Gives (.idleReceived l) s ((s.modPort l fun x => { x with state := .running }).raise l.other .peerLink 0)) ∧
    ((s.port l).state ≠ .ready → Gives (.idleReceived l) s s)) ∧
  (∀ (s : State) (l : Link),
    ((s.port l).state = .running → (s.port l).creditsHeld ≠ 16 →
      Gives (.creditReceived l) s (s.modPort l fun x => { x with creditsHeld := x.creditsHeld + 1 })) ∧
    ((s.port l).state = .running → (s.port l).creditsHeld = 16 → Gives (.creditReceived l) s (s.linkFails l .error)) ∧
    ((s.port l).state = .ready → (s.port l).creditsHeld ≠ 16 →
      Gives (.creditReceived l) s ((s.modPort l fun x =>
        { x with state := .running, creditsHeld := x.creditsHeld + 1 }).raise l.other .peerLink 0)) ∧
    ((s.port l).state = .ready → (s.port l).creditsHeld = 16 → Gives (.creditReceived l) s
      (((s.modPort l fun x => { x with state := .running }).raise l.other .peerLink 0).linkFails l .error)) ∧
    ((s.port l).state = .error ∨ (s.port l).state = .held → Gives (.creditReceived l) s s)) ∧
  (∀ (s : State) (l : Link) (bytes : List Byte),
    ((s.port l).state = .running → checkRight bytes = true → 1 ≤ (s.port l).creditsGranted →
      Gives (.frameReceived l bytes) s (s.modPort l fun x =>
        { x with rx := x.rx ++ [readFrame bytes], creditsGranted := x.creditsGranted - 1 })) ∧
    ((s.port l).state = .running → (checkRight bytes = false ∨ (s.port l).creditsGranted = 0) →
      Gives (.frameReceived l bytes) s (s.linkFails l .error)) ∧
    ((s.port l).state = .ready → checkRight bytes = true → 1 ≤ (s.port l).creditsGranted →
      Gives (.frameReceived l bytes) s ((s.modPort l fun x => { x with
        state := .running, rx := x.rx ++ [readFrame bytes], creditsGranted := x.creditsGranted - 1 }).raise l.other .peerLink 0)) ∧
    ((s.port l).state = .ready → (checkRight bytes = false ∨ (s.port l).creditsGranted = 0) → Gives (.frameReceived l bytes) s
      (((s.modPort l fun x => { x with state := .running }).raise l.other .peerLink 0).linkFails l .error)) ∧
    ((s.port l).state = .error ∨ (s.port l).state = .held → Gives (.frameReceived l bytes) s s))

/-- R149, R150, R160: the frame being transmitted leaves the transmit queue with its credit, and what it held is free: the receive slot
of an immediate answer, or the Request Table entry. With no frame being transmitted nothing changes (log 4).
R164, R167: a notice sent leaves the pending set with its credit; one whose kind was cleared meanwhile is still sent: it takes its
credit and leaves the pending set as it is (log 31, DEDUCED). One whose kind was disabled meanwhile leaves the pending set like any
other (log 48, DEDUCED). With no notice being transmitted nothing changes (log 4). -/
def Obligations.UnitsSent : Prop :=
  (∀ (s : State) (l : Link),
    (∀ f rest, (s.port l).sending = some .frame → (s.port l).txq = f :: rest →
      let sent := s.modPort l fun x => { x with txq := rest, creditsHeld := x.creditsHeld - 1, sending := none }
      (f.holds = .slotAndTag ∨ f.holds = .slot →
        Gives (.frameSent l) s (sent.modPort l fun x => { x with creditsGranted := x.creditsGranted + 1 })) ∧
      (f.holds = .entry → Gives (.frameSent l) s { sent with table := s.table.filter fun e => !e.has ⟨f.origin, f.tag⟩ }) ∧
      (f.holds = .resetTag ∨ f.holds = .nothing → Gives (.frameSent l) s sent)) ∧
    ((s.port l).sending ≠ some .frame → Gives (.frameSent l) s s)) ∧
  (∀ (s : State) (l : Link),
    (∀ k, (s.port l).sending = some (.notice k) → Gives (.noticeSent l) s (s.modPort l fun x =>
      { x with pending := x.pending.filter fun n => n.kind != k, creditsHeld := x.creditsHeld - 1, sending := none })) ∧
    ((s.port l).sending = some .cleared → Gives (.noticeSent l) s (s.modPort l fun x =>
      { x with creditsHeld := x.creditsHeld - 1, sending := none })) ∧
    ((s.port l).sending = none ∨ (s.port l).sending = some .frame → Gives (.noticeSent l) s s))

/-- R151: 16 µs of silence on a RUNNING link is a link error; the end of the quiet interval brings an ERROR link to READY with empty
buffers and 16 credits granted. In another state of the link neither changes anything.
R153, R155, R156: what a link failure leaves under each scope: the link cut off with its buffers empty and every notice pending still
pending; under PART scope a level 2 reset in progress or done; under paired LINK scope every entry of the link replying on the survivor,
redirected, and PEER_LINK pending there; else every entry that replies on it discarded. That the credits held for transmitting read as
before the failure is the model's (log 43, DESIGN CHOICE).
R155: the survivor's transmit queue takes, behind its own frames, the answers of the Puts abandoned that wait for no piece, and behind them
the frames that waited in the failed link's, but the immediate answers, redirected; that the latter are moved, and this order, are the
model's (log 11, log 47, DESIGN CHOICE).
R155, R156: under LINK scope every Put of the failed link still filling is abandoned: its filling records leave their queues, it takes no
more data, its count falls by them and its outcome is ABORTED, or MEDIA_ERROR where that was recorded. With a survivor it is answered
there with that outcome, redirected, once no piece is left. -/
def Obligations.SilenceQuietAndLinkFailures : Prop :=
  (∀ (s : State) (l : Link),
    ((s.port l).state = .running → Gives (.linkSilenceTimeout l) s (s.linkFails l .error)) ∧
    ((s.port l).state ≠ .running → Gives (.linkSilenceTimeout l) s s) ∧
    ((s.port l).state = .error → Gives (.quietIntervalEnd l) s (s.modPort l fun x => { x with
      state := .ready, rx := [], txq := [], creditsHeld := 0, creditsGranted := 16, sending := none })) ∧
    ((s.port l).state ≠ .error → Gives (.quietIntervalEnd l) s s)) ∧
  (∀ (s : State) (l : Link) (st : LinkState),
    let t := s.linkFails l st
    let paired := s.scope.link = true ∧ s.scope.paired = true ∧ (s.port l.other).state = .running
    (t.port l).state = st ∧ (t.port l).rx = [] ∧ (t.port l).txq = [] ∧ (t.port l).creditsHeld = (s.port l).creditsHeld ∧
    (∀ n ∈ (s.port l).pending, ∃ m ∈ (t.port l).pending, m.kind = n.kind ∧ m.detail = n.detail) ∧
    (s.scope.link = true → (t.port l).pending = (s.port l).pending) ∧
    (s.service = .starting → t = s.modPort l (Port.cut st)) ∧
    (s.service = .inService →
      (s.scope.link = false → (∀ e ∈ t.table, e.reply = l → e.discarded = true) ∧
        (s.resetting = true → t.resetWaits = s.resetWaits) ∧
        (s.resetting = false → (∀ q, (t.queue q).records = []) ∧ ∀ w ∈ t.writeOrders, w.orphaned = true)) ∧
      (paired → (∀ e ∈ t.table, e.reply = l.other) ∧
        (s.tableFits → ∀ e ∈ s.table, e.reply = l → e.discarded = false ∨ e.stillFills l = false →
          ∃ f ∈ t.table, f.key = e.key ∧ f.redirected = true) ∧
        (∃ n ∈ (t.port l.other).pending, n.kind = .peerLink) ∧ t.resetWaits = s.resetWaits ∧
        (s.tableFits → (t.port l.other).txq = (s.port l.other).txq ++ s.table.filterMap (s.abandonedAnswer l) ++
          (((s.port l).txq.filter fun f => f.holds != .slotAndTag && f.holds != .slot).map fun f => { f with redirected := true }))) ∧
      (s.scope.link = true → ¬ paired → (∀ e ∈ t.table, e.reply = l → e.discarded = true) ∧
        t.resetWaits = s.resetWaits ∧ (t.port l.other) = (s.port l.other)))) ∧
  (∀ (s : State) (l : Link) (st : LinkState), s.service = .inService → s.scope.link = true →
    let t := s.linkFails l st
    let abandoned := fun (r : Fragment) => r.filling != 0 && s.table.any fun e => e.stillFills l && r.origin == some e.key
    (∀ q : Fin 16, (t.queue q).records = (s.queue q).records.filter fun r => !abandoned r) ∧ t.map = s.map ∧ t.window = s.window ∧
    ∀ e put, s.tableFits → e ∈ s.table → e.info = .put put → e.key.origin = l → e.answered = false → put.next < put.count →
      put.settling = false → (∀ i, (s.slot i).state = .active → (s.slot i).key ≠ e.key) →
      let n := s.fillingRecords e.key
      (e.discarded = false ∨ s.scope.paired = false ∨ (s.port l.other).state ≠ .running →
        (t.entry e.key).map (·.info) = some (.put { put with
          settling := true, pieces := put.pieces - n, outcome := if put.outcome = .mediaError then .mediaError else .aborted })) ∧
      ((s.port l).state = .running → s.scope.paired = true → (s.port l.other).state = .running → e.discarded = false →
        put.pieces ≤ n → ∃ x f, exec (.linkSilenceTimeout l) s = .next x ∧ s.abandonedAnswer l e = some f ∧
          f ∈ (x.port l.other).txq))

/-! ### Start-up and the sequencer's signals (R91, R99 to R105, R176, R177) -/

/-- R100, R103, R106, R177: START_UP reads map memory, and the path stands OFFLINE and waits for ready; ready then starts the spin-up;
ready while RECOVERING makes the path READY, starts the escalation timer, makes the reinstalls and answers the Media Restart OK; ready
while READY or DOWN, and ready while the reset pin is held (log 24), changes nothing. A START_UP when start-up has begun changes
nothing of its own (log 4).
R100, R176: while the reset pin is held the path stays OFFLINE with no wait running. R87: until the part is in service no queue has a
band. -/
def Obligations.StartUpAndReady : Prop :=
  (∀ s : State,
    (s.stage = .held → Gives .startUp s { s.readMapMemory with stage := .waitReady, path := .offline, startWait := true }) ∧
    (s.stage ≠ .held → Gives .startUp s s) ∧
    (s.path = .offline → s.stage = .waitReady → Gives .sequencerReady s { s with
      path := .ready, startWait := false, stage := .spinUp false
      spindle := { s.spindle with
        state := .starting, attempts := some 0, wakeTimer := none, releasePending := false
        motion := some (if s.spindle.resting = some .parked then .unpark else .spinUp) } }) ∧
    (s.path = .recovering → Gives .sequencerReady s (State.answerAll { s with
      path := .ready, recoveryWait := false, escalation := true, stage := s.stage.reinstalled
      geometry := s.reinstalls .reinstall ++ s.geometry.filter GeoOrder.forLoad } s.mediaRestarts .ok)) ∧
    (s.path = .ready ∨ s.path = .down ∨ (s.path = .offline ∧ s.stage = .held) → Gives .sequencerReady s s) ∧
    (s.service = .starting → ∀ q, s.boundBand q = none) ∧
    (s.format ≠ .formatted → s.readMapMemory.map = [] ∧ s.readMapMemory.bands = [] ∧ s.readMapMemory.layout = none) ∧
    (s.format = .formatted → s.readMapMemory.map = s.map ∧ s.readMapMemory.bands = s.bands) ∧
    ∀ n, n < 8 → (s.profile n).state = .updating → s.readMapMemory.profile n =
      { state := (s.profile n).before.getD .unset, shape := if (s.profile n).before = some .active then (s.profile n).shape else none
        pending := none, before := none }) ∧
  KeptByStep State.heldOffline

/-- R91, R99, R101, R104, R105: a deadline expiry, or ready withdrawn, takes a READY path into RECOVERING, or into DOWN while the
escalation timer runs; with another path, or no deadline running, it changes nothing. The recovery wait's end and the start-up
wait's end take the path into DOWN; the escalation timer's expiry stops it.
R59: a RUNNING hold timer expires; another changes nothing. R142, R143: a running wake timer's expiry stops it and releases a resting
spindle, unless the path is DOWN; with no timer running nothing changes. -/
def Obligations.MediaFaultsAndTimers : Prop :=
  (∀ s : State,
    (s.path = .ready → s.escalation = false → Gives .sequencerReadyWithdrawn s s.enterRecovering ∧
      (s.deadline ≠ none → Gives .deadlineExpiry s s.enterRecovering)) ∧
    (s.path = .ready → s.escalation = true → Gives .sequencerReadyWithdrawn s s.enterDown ∧
      (s.deadline ≠ none → Gives .deadlineExpiry s s.enterDown)) ∧
    (s.path ≠ .ready → Gives .sequencerReadyWithdrawn s s ∧ Gives .deadlineExpiry s s) ∧
    (s.deadline = none → Gives .deadlineExpiry s s) ∧
    (s.recoveryWait = true → Gives .recoveryWaitEnd s s.enterDown) ∧
    (s.recoveryWait = false → Gives .recoveryWaitEnd s s) ∧
    (s.startWait = true → Gives .startupWaitEnd s s.enterDown) ∧
    (s.startWait = false → Gives .startupWaitEnd s s) ∧
    Gives .escalationTimerExpiry s { s with escalation := false }) ∧
  (∀ s : State,
    (∀ q i, (s.queue q).timer = .running i → Gives (.holdTimerExpiry q) s (s.modQueue q fun x => { x with timer := .expired })) ∧
    (∀ q, (s.queue q).timer = .stopped ∨ (s.queue q).timer = .expired → Gives (.holdTimerExpiry q) s s) ∧
    (∀ i, s.spindle.wakeTimer = some i → (s.spindle.state = .parked ∨ s.spindle.state = .stopped) →
      (s.path ≠ .down → Gives .wakeTimerExpiry s { s with spindle := { s.spindle with
        state := .starting, attempts := some 0, wakeTimer := none, releasePending := false
        motion := some (if s.spindle.resting = some .parked then .unpark else .spinUp) } }) ∧
      (s.path = .down → Gives .wakeTimerExpiry s { s with spindle := { s.spindle with wakeTimer := none } })) ∧
    (s.spindle.wakeTimer = none → Gives .wakeTimerExpiry s s))

/-- R101, R103, R105, R144: what the entries into RECOVERING and DOWN leave: an empty window, no deadline, the recovery wait running or
every timer of the path stopped and no order waiting, and the notice pending on both links.
R101, R102, R105: the orders of the window leave it one by one, oldest first, each handed to its owner as TIMED_OUT before the next:
a write order fails (R82), a Get's read joins the list again or ends as MEDIA_ERROR (R117, R118), a relocation read is presented again or
abandons its victim (R133, R134, R137), a footer read is presented again or its track skipped (R178), a Load Profile is answered
MEDIA_ERROR (R5), a PARK or SPIN DOWN returns the spindle to SPINNING (R140), an UNPARK or SPIN UP is presented once more (R144).
R105, R118, R140, R144: at the entry into DOWN, the window being empty, the reads waiting are settled MEDIA_ERROR and their Gets marked
MEDIA_DOWN, the Load Profiles waiting are answered MEDIA_DOWN, a PARK or SPIN DOWN not issued is withdrawn with the Quiesce answered
MEDIA_DOWN, and a spindle in STARTING is back at rest with every waiting Wake answered MEDIA_DOWN. -/
def Obligations.PathEntries : Prop :=
  (∀ s : State,
    (s.secondSpinFailure = false →
      s.enterRecovering.path = .recovering ∧ s.enterRecovering.window = [] ∧ s.enterRecovering.deadline = none ∧
      s.enterRecovering.recoveryWait = true ∧ (∀ g ∈ s.enterRecovering.geometry, g.forLoad = true) ∧
      ∀ l, ∃ n ∈ (s.enterRecovering.port l).pending, n.kind = .mediaRecovering) ∧
    (s.secondSpinFailure = true → s.enterRecovering.path = .down) ∧
    s.enterDown.path = .down ∧ s.enterDown.window = [] ∧ s.enterDown.deadline = none ∧ s.enterDown.recoveryWait = false ∧
    s.enterDown.startWait = false ∧ s.enterDown.escalation = false ∧ s.enterDown.mediaReset = true ∧
    s.enterDown.fetchList = [] ∧ s.enterDown.geometry = [] ∧ s.enterDown.spindle.state ≠ .starting ∧
    ∀ l, ∃ n ∈ (s.enterDown.port l).pending, n.kind = .mediaDown) ∧
  (∀ (s : State) (o : Order) (rest : List Order), s.window = o :: rest →
    (s.secondSpinFailure = false → (∀ m, Order.motion m ∉ rest) →
      ∃ y, HandedOver { s with window := rest, path := .recovering } false o y ∧
        s.enterRecovering = State.enterRecovering { y with resetWaits := y.resetWaits.map fun n => n - 1 }) ∧
    (∃ y, HandedOver { s with window := rest, path := .down } true o y ∧
      s.enterDown = State.enterDown { y with resetWaits := y.resetWaits.map fun n => n - 1 })) ∧
  (∀ s : State, s.window = [] →
    s.enterRecovering = State.raiseBoth { s with
      path := .recovering, deadline := none, mediaReset := false, recoveryWait := true
      geometry := s.geometry.filter GeoOrder.forLoad } .mediaRecovering 0 ∧
    (s.service = .inService →
      let reads := s.fetchList.foldl State.readDown { s with path := .down, fetchList := [], geometry := [] }
      let loads := s.geometry.foldl (State.loadEnds (status := .mediaDown)) reads
      let ended := fun (z : State) =>
        (State.raiseBoth { z with
          deadline := none, recoveryWait := false, startWait := false, escalation := false, mediaReset := true } .mediaDown 0).answerAll
            z.mediaRestarts .mediaDown
      (s.spindle.state = .starting → s.enterDown = ended (State.answerAll { loads with spindle := { s.spindle with
        state := if s.spindle.resting = some .parked then .parked else .stopped
        wakeTimer := none, attempts := none, wakes := [], motion := none } } s.spindle.wakes .mediaDown)) ∧
      (∀ k, s.spindle.state = .parking ∨ s.spindle.state = .stopping → s.spindle.quiesce = some k →
        s.enterDown = ended ((State.answerEntry { loads with spindle := Spindle.turning } k .mediaDown .none).answerAll
          s.spindle.wakes .ok)) ∧
      (s.spindle.state = .parked ∨ s.spindle.state = .stopped ∨ s.spindle.state = .spinning → s.enterDown = ended loads)))

/-- R183: the records the Media Port takes as sequencer faults, and the data it does not look into. -/
def Obligations.RecordFaults : Prop :=
  (∀ (s : State) (kind : Nat) (c : Completion) (o : Order) (rest : List Order), s.path = .ready → s.window = o :: rest →
    c.check = checkValue (completionBytes kind c) →
    (4 < c.status ∨
      (∃ x ∈ c.unreadable, ∀ r, o = .read r → x < r.first ∨ r.first + r.count ≤ x) ∨
      ¬ c.unreadable.Pairwise (· < ·) ∨
      (c.unreadable ≠ [] ∧ ¬ ((∃ r, o = .read r) ∧ c.status = 0))) →
    (kind = 1 → Gives (.writeTrackCompletion c) s s.mediaFault) ∧ (kind = 2 → Gives (.readTrackCompletion c) s s.mediaFault) ∧
    (kind = 3 → Gives (.geometryCompletion c) s s.mediaFault) ∧
    (4 ≤ kind → kind ≤ 7 → Gives (.motionCompletion kind c) s s.mediaFault)) ∧
  (∀ (s : State) (sector : Nat) (data : Sector) (r : ReadOrder) (rest : List Order), s.path = .ready →
    s.window = .read r :: rest → r.first ≤ sector → sector < r.first + r.count → sector ∉ r.delivered →
    Gives (.sectorDelivery sector data (checkValue (deliveryBytes sector data))) s
      (State.landSector { s with window := .read { r with delivered := r.delivered ++ [sector] } :: rest } r sector data))

/-- R90, R91, R181: while the path is not READY a record is discarded; with an empty window, or another kind, check value, status or
sector than the oldest order's, it is a sequencer fault. R92 to R96: the statuses of a WRITE TRACK's completion are 0 to 3, of a READ
TRACK's and a GEOMETRY's 0 and 3, of a motion order's 0 and 4. -/
def Obligations.RecordsOutOfTurn : Prop :=
  ∀ (s : State) (c : Completion) (sector : Nat) (data : Sector) (check : BitVec 32),
    (s.path ≠ .ready → Gives (.writeTrackCompletion c) s s ∧ Gives (.readTrackCompletion c) s s ∧
      Gives (.geometryCompletion c) s s ∧ (∀ kind, Gives (.motionCompletion kind c) s s) ∧
      Gives (.sectorDelivery sector data check) s s) ∧
    (s.path = .ready → (∀ o, s.window.head? = some o → o.code ≠ 1) → Gives (.writeTrackCompletion c) s s.mediaFault) ∧
    (s.path = .ready → (∀ o, s.window.head? = some o → o.code ≠ 2) → Gives (.readTrackCompletion c) s s.mediaFault) ∧
    (s.path = .ready → (∀ o, s.window.head? = some o → o.code ≠ 3) → Gives (.geometryCompletion c) s s.mediaFault) ∧
    (∀ kind, s.path = .ready → (kind < 4 ∨ 7 < kind ∨ ∀ o, s.window.head? = some o → o.code ≠ kind) →
      Gives (.motionCompletion kind c) s s.mediaFault) ∧
    (s.path = .ready → (∀ r, s.window.head? = some (.read r) → r.expects sector = false) →
      Gives (.sectorDelivery sector data check) s s.mediaFault) ∧
    (s.path = .ready → (c.check ≠ checkValue (completionBytes 1 c) ∨ 3 < c.status) →
      Gives (.writeTrackCompletion c) s s.mediaFault) ∧
    (s.path = .ready → (c.check ≠ checkValue (completionBytes 2 c) ∨ (c.status ≠ 0 ∧ c.status ≠ 3)) →
      Gives (.readTrackCompletion c) s s.mediaFault) ∧
    (s.path = .ready → (c.check ≠ checkValue (completionBytes 3 c) ∨ (c.status ≠ 0 ∧ c.status ≠ 3)) →
      Gives (.geometryCompletion c) s s.mediaFault) ∧
    (∀ kind, s.path = .ready → (c.check ≠ checkValue (completionBytes kind c) ∨ (c.status ≠ 0 ∧ c.status ≠ 4)) →
      Gives (.motionCompletion kind c) s s.mediaFault) ∧
    (s.path = .ready → check ≠ checkValue (deliveryBytes sector data) →
      Gives (.sectorDelivery sector data check) s s.mediaFault)

/-! ### Completions of orders (R80 to R83, R93, R115, R131, R140, R143, R144) -/

/-- R11, R80, R99: a WRITE TRACK that completes DONE leaves the window, the next order's deadline starts, each stretch of its pieces
enters the map in order, at its place in the track and under the budget R36 gives it, and its band's completed count rises by 1, which
may make the band FULL.
R53, R81: a Put's count of pieces outstanding falls by the records of the HOST pieces that name it; sectors dropped under R37 record
MEDIA_ERROR at a durable Put, and raise DATA_LOST on both links for any other piece. A durable Put filled, and a Put settled by a reset
(R174), is answered when its last piece is resolved, with its outcome. -/
def Obligations.WriteCompletesDone : Prop :=
  ∀ (s : State) (w : WriteOrder) (rest : List Order) (c : Completion), s.path = .ready → s.window = .write w :: rest →
    c.status = 0 → c.unreadable = [] → c.check = checkValue (completionBytes 1 c) →
    let x : State := { s with
      window := rest, deadline := rest.head?.map s.limitOf, resetWaits := s.resetWaits.map fun n => n - 1 }
    let rs := insertsOf (fun pc st => some ⟨w.band, w.track * s.trackData w.band + pc.offset + st.start⟩) (fun _ => true)
      x.inUse (stretchesOf w.pieces) s.map
    let dropped := fun k => rs.any fun r => !r.1.reloc && r.1.origin == some k && !r.2.dropped.isEmpty
    let outcome := fun k (put : PutInfo) => if put.durable && dropped k then .mediaError else put.outcome
    (∃ X, Gives (.writeTrackCompletion c) s X ∧
      X.window.length = rest.length ∧ X.deadline = x.deadline ∧ X.resetWaits = x.resetWaits ∧ X.queues = x.queues ∧
      X.sequence = s.sequence ∧ X.profiles = s.profiles ∧ X.slots = s.slots ∧ X.engine = s.engine ∧
      (∀ b, X.bands[w.band]? = some b → ∃ b0, s.bands[w.band]? = some b0 ∧ b.completed = b0.completed + 1 ∧
        b.issued = b0.issued ∧ b.skipped = b0.skipped ∧
        (b0.state = .opened → b0.completed + 1 = b0.issued → b0.issued = (s.shapeOf w.band).tracks →
          b.state = .full ∧ b.queue = none)) ∧
      X.map = mapAfter s.map rs ∧
      (∀ k put, s.putInfo k = some put →
        X.putInfo k = some { put with pieces := put.pieces - recordsNaming k w.pieces, outcome := outcome k put }) ∧
      (∀ r ∈ rs, r.1.reloc = false → r.2.dropped ≠ [] → s.durableOrigin r.1.origin = false → PendingOnBoth X .dataLost)) ∧
    (∀ e put, s.entry e.key = some e → e.info = .put put → e.answered = false → e.discarded = false →
      (put.settling = true ∨ (put.durable = true ∧ put.next = put.count)) → put.pieces ≤ recordsNaming e.key w.pieces →
      s.tableFits → s.engine.clean ≠ some e.key → (∀ i, (s.slot i).state = .active → (s.slot i).key ≠ e.key) →
      ∃ t, exec (.writeTrackCompletion c) s = .next t ∧
        { tag := e.key.tag, origin := e.key.origin, redirected := e.redirected, holds := .entry
          body := .response 1 (outcome e.key put).status (.put (some put.sequence) put.queue.val put.almostFull) } ∈
            (t.port e.reply).txq)

/-- R11, R12, R82: a WRITE TRACK that completes otherwise makes its track skipped, the orphaned one too (R174).
R32, R36, R81 to R83: of one not orphaned, the pieces with attempts left return to the head of the queue in their order, one attempt more;
those at their third failure become LOST stretch by stretch, in order, where the insert of their kind finds sectors to replace; a HOST
piece of no durable Put that lost a sector raises DATA_LOST on both links; a Put's pieces fall by the records of its HOST pieces resolved,
and a durable Put's outcome is MEDIA_ERROR, with which it is answered when the last of its pieces is resolved.
R174: of an orphaned order that fails nothing returns: an acknowledged HOST piece becomes LOST, with DATA_LOST where it lost a sector; a
HOST piece not acknowledged is discarded and its Put's outcome is ABORTED; a RELOC piece is discarded. -/
def Obligations.WriteFails : Prop :=
  ∀ (s : State) (w : WriteOrder) (rest : List Order) (c : Completion), s.path = .ready → s.window = .write w :: rest →
    1 ≤ c.status → c.status ≤ 3 → c.unreadable = [] → c.check = checkValue (completionBytes 1 c) →
    let x : State := { s with
      window := rest, deadline := rest.head?.map s.limitOf, resetWaits := s.resetWaits.map fun n => n - 1 }
    let gone := w.pieces.filter fun pc => !(pc.attempts < 2)
    (∃ X, Gives (.writeTrackCompletion c) s X ∧ FailedWrite x w X) ∧
    (w.orphaned = false → ∀ e put, s.entry e.key = some e → e.info = .put put → e.answered = false → e.discarded = false →
      (put.settling = true ∨ (put.durable = true ∧ put.next = put.count)) → put.pieces ≤ recordsNaming e.key gone →
      s.tableFits → s.engine.clean ≠ some e.key → (∀ i, (s.slot i).state = .active → (s.slot i).key ≠ e.key) →
      ∃ t, exec (.writeTrackCompletion c) s = .next t ∧
        { tag := e.key.tag, origin := e.key.origin, redirected := e.redirected, holds := .entry
          body := .response 1 (if put.durable && 0 < recordsNaming e.key gone then Outcome.mediaError else put.outcome).status
            (.put (some put.sequence) put.queue.val put.almostFull) } ∈ (t.port e.reply).txq)

/-- R93, R115, R116: a Get's read that completes settles OK each needed position delivered and not listed; where some are left an INITIAL
read goes to the list as a REREAD of them with its claim, and a REREAD settles them MEDIA_ERROR, marks the band suspect and is
released; with none left the read is released.
R119: in every step, whatever its command's effect X, a Get's sectors settled from its next offset on, with none unsettled between, join
the transmit queue of its reply link as data frames in the order of their offsets, each with its status and data, and the next offset
stands behind them (log 11); at the end of every step no settled sector stands at the next offset of a Get still owed its answer.
R120: behind the last of them joins the final response: MEDIA_DOWN where a sector was settled under R118, else PARTIAL where one is LOST or
MEDIA_ERROR, else OK; the slot is FREE then. The premise on the Clean and on the other slots is that they are no other request's. -/
def Obligations.FetchReadCompletes : Prop :=
  (∀ (s : State) (r : ReadOrder) (f : FetchRead) (rest : List Order) (c : Completion), s.path = .ready →
    s.window = .read r :: rest → r.owner = .fetch f → (Order.read r).accepts c = true →
    c.check = checkValue (completionBytes 2 c) → (s.slot f.slot).state = .active →
    let x : State := { s with
      window := rest, deadline := rest.head?.map s.limitOf, resetWaits := s.resetWaits.map fun n => n - 1 }
    let read := fun i => c.status == 0 && r.delivered.contains i && !c.unreadable.contains i
    let got := f.needed.filter fun y => read y.1
    let left := f.needed.filter fun y => !read y.1
    let y := x.modSlot f.slot (FetchSlot.settle (got.map (·.2)) .ok)
    (left = [] → Gives (.readTrackCompletion c) s (y.releaseRead f.band)) ∧
    (left ≠ [] → f.stage = .initial → Gives (.readTrackCompletion c) s { y with fetchList := y.fetchList ++
      [{ f with first := lowest (left.map (·.1)), count := highest (left.map (·.1)) - lowest (left.map (·.1)) + 1
                needed := left, stage := .reread, timeouts := 0 }] }) ∧
    (left ≠ [] → f.stage = .reread → Gives (.readTrackCompletion c) s
      (((y.modSlot f.slot (FetchSlot.settle (left.map (·.2)) .mediaError)).setSuspect f.band).releaseRead f.band))) ∧
  (∀ (X old : State) (i : Fin 16) (e : ReqEntry), (X.slot i).state = .active → X.entry (X.slot i).key = some e → e.answered = false →
    e.discarded = false → X.engine.clean ≠ some e.key → (∀ j, j ≠ i → (X.slot j).state = .active → (X.slot j).key ≠ e.key) →
    let x := X.slot i
    let t := X.settle old
    let ready := (x.sectors.drop x.next).takeWhile fun y => y.status.isSome
    let frames := ready.mapIdx fun n y => ({ tag := e.key.tag, origin := e.key.origin, redirected := e.redirected, holds := .nothing
                                             body := .data (y.status.getD .ok) (x.next + n) y.data } : OutFrame)
    let final := if x.mediaDown = true then Status.mediaDown
      else if ∃ y ∈ x.sectors, y.status = some .lost ∨ y.status = some .mediaError then .partial_ else .ok
    (x.next + ready.length = x.count → (t.slot i).state = .free ∧
      frames ++ [{ tag := e.key.tag, origin := e.key.origin, redirected := e.redirected, holds := .entry
                   body := .response e.info.kind final .none }] <:+: (t.port e.reply).txq) ∧
    (x.next + ready.length ≠ x.count → t.slot i = { x with next := x.next + ready.length } ∧ frames <:+: (t.port e.reply).txq)) ∧
  KeptByStep State.slotsServed

/-- R131: a relocation read that completes settles as read each live sector delivered and not listed, and at a REREAD every other as
unreadable, and its claim is released; with every live sector settled the track in hand enters RECORDS, else it is presented again as a
REREAD. R137: the claim of a relocation read a reset has left over is released, and nothing else is done.
R121: a read of a slot that is not ACTIVE is released, and a slot in ENDING whose last read it was is FREE at the end of the step.
R178, R179: a reconciliation read whose footer was delivered, not listed and intact has the footer's pieces inserted in order, each
within the headroom, and the band's completed count rises by 1; any other makes the band's tracks from completed to issued skipped. Then
the footer of the lowest-numbered band with a track left is read, or the part enters service: no OPEN or CLEANING band and no pending
read is left, and MAP_LOW is raised where the headroom is below its line. The premises are R9's and R128's: no band's prior state is
OPEN or CLEANING, and the band whose footer is read is not CLEANING. -/
def Obligations.OtherReadsComplete : Prop :=
  ∀ (s : State) (r : ReadOrder) (rest : List Order) (c : Completion), s.path = .ready → s.window = .read r :: rest →
    (Order.read r).accepts c = true → c.check = checkValue (completionBytes 2 c) →
    let x : State := { s with
      window := rest, deadline := rest.head?.map s.limitOf, resetWaits := s.resetWaits.map fun n => n - 1 }
    let read := fun i => c.status == 0 && r.delivered.contains i && !c.unreadable.contains i
    (∀ h, r.owner = .relocation false → s.engine.victim = some r.band → s.engine.hand = some h →
      let live := h.live.map fun y =>
        if y.outcome = none then
          (if read (y.index - h.track * s.trackData r.band) then { y with outcome := some true }
           else if h.stage = .reread then { y with outcome := some false } else y)
        else y
      let z := x.releaseRead r.band
      ((∀ y ∈ live, y.outcome ≠ none) → Gives (.readTrackCompletion c) s { z with engine := { z.engine with
        hand := some { h with phase := .records, timeouts := 0, live := live, claimWait := false } } }) ∧
      ((∃ y ∈ live, y.outcome = none) → Gives (.readTrackCompletion c) s { z with engine := { z.engine with
        hand := some { h with phase := .presented, stage := .reread, timeouts := 0, live := live, claimWait := false } } })) ∧
    (r.owner = .relocation true → Gives (.readTrackCompletion c) s (x.releaseRead r.band)) ∧
    (∀ f, r.owner = .fetch f → (s.slot f.slot).state ≠ .active →
      Gives (.readTrackCompletion c) s (x.releaseRead f.band) ∧
      ((s.slot f.slot).state = .ending → x.slotReads f.slot = false →
        ∃ t, exec (.readTrackCompletion c) s = .next t ∧ (t.slot f.slot).state = .free)) ∧
    (∀ b, r.owner = .startUp → Reconciled s r.band b →
      ∃ X, Gives (.readTrackCompletion c) s X ∧ FooterTaken x r.band r.track b
        (if read r.first then
          intactFooter s.footerData r.band b.generation r.track b.profile (s.shapeOf r.band).sectors else none) X)

/-- R5, R95, R177: a Load Profile's GEOMETRY that completes DONE makes the profile ACTIVE with its pending values and is answered OK; one
REJECTED returns it to its state before update and is answered REJECTED. A reinstall DONE changes no record; one REJECTED takes
the path into DOWN. -/
def Obligations.GeometryCompletes : Prop :=
  ∀ (s : State) (g : GeoOrder) (rest : List Order) (c : Completion), s.path = .ready → s.window = .geometry g :: rest →
    c.unreadable = [] → c.check = checkValue (completionBytes 3 c) →
    let x : State := { s with
      window := rest, deadline := rest.head?.map s.limitOf, resetWaits := s.resetWaits.map fun n => n - 1 }
    (∀ k, g.origin = .loadProfile k →
      (c.status = 0 → Gives (.geometryCompletion c) s ((x.modProfile g.profile fun p =>
        { state := .active, shape := p.pending, pending := none, before := none }).answerEntry k .ok .none)) ∧
      (c.status = 3 → Gives (.geometryCompletion c) s ((x.modProfile g.profile fun p =>
        { state := p.before.getD .unset, shape := if p.before = some .active then p.shape else none, pending := none
          before := none }).answerEntry k .rejected .none))) ∧
    (g.origin = .reinstall ∨ g.origin = .startUp →
      (c.status = 0 → Gives (.geometryCompletion c) s x) ∧ (c.status = 3 → Gives (.geometryCompletion c) s x.enterDown))

/-- R140, R142, R143, R144: what the end of a motion order does to the spindle. R140, R141: with release pending, a PARK or SPIN DOWN that
ends DONE answers the Quiesce OK, starts no wake timer and releases the spindle at once. R146, R177: the start-up's own SPIN UP raises no
WAKE, and calls for the start-up GEOMETRY orders, or for the reinstalls of a recovery in their place (log 23). -/
def Obligations.MotionCompletes : Prop :=
  ∀ (s : State) (m : Motion) (rest : List Order) (c : Completion), s.path = .ready → s.window = .motion m :: rest →
    c.unreadable = [] → c.check = checkValue (completionBytes m.code c) →
    let x : State := { s with
      window := rest, deadline := rest.head?.map s.limitOf, resetWaits := s.resetWaits.map fun n => n - 1 }
    let turning : Spindle :=
      { state := .spinning, resting := none, release := none, wakeInterval := none, wakeTimer := none, releasePending := false
        quiesce := none, attempts := none, wakes := [], motion := none }
    (m = .park ∨ m = .spinDown → c.status = 0 → s.spindle.releasePending = false → ∀ k, s.spindle.quiesce = some k →
      Gives (.motionCompletion m.code c) s (State.answerEntry { x with spindle := { s.spindle with
        state := if s.spindle.resting = some .parked then .parked else .stopped
        quiesce := none, releasePending := false
        wakeTimer := if s.spindle.release.any (·.timer) then s.spindle.wakeInterval else none } } k .ok .none)) ∧
    (m = .park ∨ m = .spinDown → c.status = 0 → s.spindle.releasePending = true → ∀ k, s.spindle.quiesce = some k →
      Gives (.motionCompletion m.code c) s (State.answerEntry { x with spindle := { s.spindle with
        state := .starting, quiesce := none, releasePending := false, wakeTimer := none, attempts := some 0
        motion := some (if s.spindle.resting = some .parked then .unpark else .spinUp) } } k .ok .none)) ∧
    (∀ reinstalled, m = .unpark ∨ m = .spinUp → c.status = 0 → s.service = .starting → s.stage = .spinUp reinstalled →
      Gives (.motionCompletion m.code c) s (State.answerAll { x with
        spindle := turning, stage := .geometry
        geometry := if reinstalled then s.geometry else s.reinstalls .startUp ++ s.geometry } s.spindle.wakes .ok)) ∧
    (m = .park ∨ m = .spinDown → c.status = 4 → ∀ k, s.spindle.quiesce = some k →
      Gives (.motionCompletion m.code c) s
        ((State.answerEntry { x with spindle := turning } k .failed .none).answerAll s.spindle.wakes .ok)) ∧
    (m = .unpark ∨ m = .spinUp → c.status = 0 → s.service = .inService → s.stage = .done →
      Gives (.motionCompletion m.code c) s
        ((State.answerAll { x with spindle := turning } s.spindle.wakes .ok).raiseBoth .wake 0)) ∧
    (m = .unpark ∨ m = .spinUp → c.status = 4 →
      (s.spindle.attempts = some 0 → Gives (.motionCompletion m.code c) s
        (State.enterRecovering { x with spindle := { s.spindle with attempts := some 1, motion := some m } })) ∧
      (s.spindle.attempts ≠ some 0 → Gives (.motionCompletion m.code c) s x.enterDown))

/-! ### Grants (R74 to R79, R89, R96 to R98) -/

/-- R89, R96, R97: nothing is granted while the path is not READY, the window is full or holds a motion order, or a motion order waits for
the window to empty; a motion order goes first into an empty window, then a GEOMETRY order.
R97, R98: outside a space emergency the fetch read at the head of the list is granted while the fetch-run count is below 8 or no write
candidate stands; the count rises by 1 where the candidate stands, and is 0 where none does. At a count of 8 with a candidate that
declines, the fetch read is granted and the count stays 8. In a space emergency a fetch read ranks behind a relocation read and a Q15
write and leaves the count as it is. A start-up footer read ranks with the fetch reads.
R130: a relocation read presented ranks first in a space emergency and last outside it. It is issued where both gates hold at the grant,
or its live set is fixed already, and its claim is granted; else it returns to GATE, or waits for a release of the claim. -/
def Obligations.GrantsInRank : Prop :=
  (∀ s : State,
    (s.path ≠ .ready ∨ 4 ≤ s.window.length ∨ (∃ m, Order.motion m ∈ s.window) → Gives .mediaGrant s s) ∧
    (s.path = .ready → (∀ m, Order.motion m ∉ s.window) → s.window.length < 4 →
      (∀ m, s.spindle.motion = some m → s.window ≠ [] → Gives .mediaGrant s s) ∧
      (∀ m, s.spindle.motion = some m → s.window = [] → Gives .mediaGrant s { s with
        window := [.motion m], spindle := { s.spindle with motion := none }
        deadline := some (if m = .unpark ∨ m = .spinUp then 30000 else 5000) }) ∧
      (∀ g rest, s.spindle.motion = none → s.geometry = g :: rest → Gives .mediaGrant s { s with
        window := s.window ++ [.geometry g], geometry := rest
        deadline := if s.window = [] then some 5000 else s.deadline }) ∧
      (s.spindle.motion = none → s.geometry = [] → s.spindle.state ≠ .spinning → Gives .mediaGrant s s))) ∧
  (∀ s : State, s.path = .ready → s.window.length < 4 → (∀ m, Order.motion m ∉ s.window) → s.spindle.motion = none →
    s.geometry = [] → s.spindle.state = .spinning →
    let deadline := if s.window = [] then some s.orderLimit else s.deadline
    (∀ f rest, s.stage = .done → s.fetchList = f :: rest →
      let order : Order := .read { owner := .fetch f, band := f.band, track := f.track, profile := f.profile
                                   first := f.first, count := f.count, timeouts := f.timeouts, delivered := [] }
      (s.emergency = false → (s.fetchRun < 8 ∨ s.candidate = false) → s.fetchRun ≤ 8 → Gives .mediaGrant s { s with
        fetchList := rest, fetchRun := if s.candidate then s.fetchRun + 1 else 0, window := s.window ++ [order]
        deadline := deadline }) ∧
      (∀ y, s.emergency = false → s.fetchRun = 8 → s.candidate = true → s.placementGrant = (y, false) →
        Gives .mediaGrant s { y with
          fetchList := rest, fetchRun := 8, window := s.window ++ [order], deadline := deadline }) ∧
      (s.emergency = true → s.relocPresented = false → s.offered 15 = false → Gives .mediaGrant s { s with
        fetchList := rest, window := s.window ++ [order], deadline := deadline })) ∧
    (∀ b n k f, s.stage = .reconcile b n k false f → s.relocPresented = false → s.candidate = false → Gives .mediaGrant s { s with
      stage := .reconcile b n k true f, fetchRun := if s.emergency = true then s.fetchRun else 0
      window := s.window ++ [.read { owner := .startUp, band := b, track := n, profile := ((s.bands[b]?).map (·.profile)).getD 0
                                     first := (s.shapeOf b).sectors - 1, count := 1, timeouts := k, delivered := [] }]
      deadline := deadline }) ∧
    (∀ v h, s.engine.state = .reading → s.engine.victim = some v → s.engine.hand = some h → h.phase = .presented →
      h.claimWait = false →
      let last := s.stage = .done ∧ s.candidate = false ∧ s.fetchList = []
      let live := if h.fixed then h.live else liveSectors (s.piecesOn v h.track)
      let ps := (live.filter fun y => y.outcome == none).map fun y => y.index - h.track * s.trackData v
      let gates := h.fixed = true ∨ (pieceSectors (s.piecesOn v h.track) ≤ s.space 15 ∧
        2 * (s.piecesOn v h.track).length ≤ s.poolFree)
      (s.emergency = true ∨ last → gates → s.claimable v 1 = true → Gives .mediaGrant s { s.claimRead v with
        engine := { s.engine with hand := some { h with phase := .inWindow, fixed := true, live := live } }
        window := s.window ++ [.read { owner := .relocation false, band := v, track := h.track
                                       profile := ((s.bands[v]?).map (·.profile)).getD 0, first := lowest ps
                                       count := highest ps - lowest ps + 1, timeouts := h.timeouts, delivered := [] }]
        deadline := deadline }) ∧
      (last → ¬ gates → Gives .mediaGrant s { s with
        engine := { s.engine with hand := some { h with phase := .gate, live := [] } } }) ∧
      (last → gates → s.claimable v 1 = false → Gives .mediaGrant s { s with
        engine := { s.engine with hand := some { h with claimWait := true, live := if h.fixed then h.live else [] } } })))

/-- R74 to R79, R97, R98: the write candidate is served from the first offered queue after the last served, with no fetch read waiting or
at a fetch-run count of 8; in a space emergency, with no relocation read presented, Q15's is served first where it is offered, and a
host queue's behind the fetch reads. Where the queue has its band, or one is opened for it and leaves it ready, and the walk takes a
piece, the order is issued at the track equal to issued: issued rises by 1, the records taken leave the queue, an EXPIRED hold timer
stops, the fetch-run count is 0 outside a space emergency and as it was in one (log 23), and a split raises its Put's pieces by 1. R39,
R45: the record a split claims may carry the headroom or the free pool records across their line.
R75: a queue that yields no order keeps the band opened for it, and the arbiter chooses again, after it, among the queues still offered;
where none is left the grant is declined, and with no read to grant nothing more changes. That the emergency is read anew for that choice is
the model's (log 53, DESIGN CHOICE).
R10: the band opened is the lowest-numbered FREE band of an ACTIVE profile; a host queue is given one only above the reserve, Q15 always.
R70, R71: a queue whose request would be refused is stalled for SPACE, the rows ahead not holding, and one that enters the stall ready, or
becomes ready in it, raises SPACE_LOW on both links, with readiness as it stands after the change (log 42, DESIGN CHOICE), one
whose MEDIA or SPINDLE reason ceases among them (log 52, DESIGN CHOICE).
R72: the walk takes no piece of a queue where its head record is longer than the track and no record or headroom is there for a split; the
queue is stalled for POOL then, ahead of which no row holds, until a pool record is released or the headroom rises. -/
def Obligations.WriteIsGranted : Prop :=
  (∀ (s : State) (q : Fin 16), s.path = .ready → s.window.length < 4 →
    (∀ m, Order.motion m ∉ s.window) → s.spindle.motion = none → s.geometry = [] → s.spindle.state = .spinning →
    s.stage = .done →
    (s.emergency = false → (s.fetchList = [] ∨ s.fetchRun = 8) ∧ (roundFrom s.lastServed).find? s.offered = some q) →
    (s.emergency = true → s.relocPresented = false ∧ ((s.offered 15 = true ∧ q = 15) ∨
      (s.offered 15 = false ∧ s.fetchList = [] ∧ (roundFrom s.lastServed).find? s.offered = some q))) →
    (∀ z b r, Serves s q z b r → Gives .mediaGrant s (z.issued s.emergency q b r)) ∧
    (∀ y, Declines s q y →
      (y.nextAfter q = none → s.fetchList = [] → s.relocPresented = false → Gives .mediaGrant s y) ∧
      (∀ next z b r, y.nextAfter q = some next → (s.emergency = true → s.fetchList = []) → Serves y next z b r →
        Gives .mediaGrant s (z.issued s.emergency next b r)))) ∧
  (∀ (s : State) (q : Fin 16),
    (∀ b, s.grantable q = some b → (q.val < 15 → s.marks.reserve < s.freeBands) ∧
      ∃ r, s.bands[b]? = some r ∧ r.state = .free ∧ (s.profile r.profile).state = .active ∧
        ∀ i u, i < b → s.bands[i]? = some u → u.state = .free → (s.profile u.profile).state ≠ .active) ∧
    (s.grantable q = none ↔ (q.val < 15 ∧ s.freeBands ≤ s.marks.reserve) ∨
      ∀ r ∈ s.bands, r.state = .free → (s.profile r.profile).state ≠ .active) ∧
    (s.path = .ready → s.spindle.state = .spinning → (s.stallOf q = .space ↔ s.boundBand q = none ∧ s.grantable q = none)) ∧
    (∀ old, (s.ready q = true → s.stallOf q = .space → (old.ready q = false ∨ old.stallOf q ≠ .space) →
        PendingOnBoth (s.raiseSpace old) .spaceLow) ∧
      ((∀ i, s.ready i = true → s.stallOf i = .space → old.ready i = true ∧ old.stallOf i = .space) → s.raiseSpace old = s)) ∧
    (∀ b r rest, (s.queue q).records = r :: rest → r.kind ≠ .lostrel → r.filling = 0 → 0 < s.trackData b →
      ((s.build q b).pieces = [] ↔ s.trackData b < r.length ∧ (s.poolFree = 0 ∨ s.headroom < 2))) ∧
    (s.stallOf q = .none → (s.poolStalled q).stallOf q = .pool) ∧
    (∀ old, (s.inUse < old.inUse ∨ old.headroom < s.headroom → ∀ i, ((s.clearStalls old).queue i).poolStall = false) ∧
      (old.inUse ≤ s.inUse → s.headroom ≤ old.headroom → s.clearStalls old = s)))

/-- R76: the walk that builds a track takes complete records from the head in order, at data offsets that rise without a gap from 0, at
most 160 pieces within the room; a LOSTREL record is passed over and stays (R79), and a filling one ends the walk.
R76, R77: there are n records such that each of the first n but the LOSTREL ones is a piece, with the record's LSA, length, kind,
sequence, source, origin, attempts and data, and the LOSTREL ones and all the records behind the n-th are left, in order; the walk ended
for a reason of R76. Or the next record is split as well: its first sectors, to the end of the room, are the last piece, and a record of
the rest of it stands in its place. -/
def Obligations.TrackBuilding : Prop :=
  (∀ (canSplit : Bool) (room : Nat) (rs : List Fragment), (∀ r ∈ rs, r.filling = 0 ∧ r.kind ≠ .lostrel ∧ 0 < r.length) →
    let t := buildWalk canSplit room 160 0 rs
    t.pieces.length ≤ 160 ∧ (t.pieces.map (·.length)).sum ≤ room ∧
    (∀ i p, t.pieces[i]? = some p → p.offset = ((t.pieces.take i).map (·.length)).sum) ∧
    (t.pieces.map (·.length)).sum + (t.left.map (·.length)).sum = (rs.map (·.length)).sum ∧
    (canSplit = false → t.split = none ∧ t.left = rs.drop t.pieces.length) ∧
    (rs ≠ [] → (∀ r ∈ rs, r.length ≤ room) → t.pieces ≠ [])) ∧
  (∀ (canSplit : Bool) (room : Nat) (rs : List Fragment),
    let t := buildWalk canSplit room 160 0 rs
    let taken := fun (r : Fragment) (offset n : Nat) (data : List Sector) =>
      ({ reloc := r.kind == .reloc, lsa := r.lsa, length := n, offset := offset, sequence := r.sequence, source := r.source
         origin := r.origin, attempts := r.attempts, acknowledged := r.acknowledged, drain := r.drain
         stretches := [⟨0, n, data⟩] } : Piece)
    ∃ n,
      let got := (rs.take n).filter fun r => r.kind != .lostrel
      let kept := (rs.take n).filter fun r => r.kind == .lostrel
      let whole := got.mapIdx fun i r => taken r ((got.take i).map (·.length)).sum r.length r.data
      let used := (got.map (·.length)).sum
      (∀ r ∈ got, r.filling = 0) ∧ got.length ≤ 160 ∧ used ≤ room ∧
      ((t.split = none ∧ t.pieces = whole ∧ t.left = kept ++ rs.drop n ∧
          ∀ r, rs[n]? = some r → used = room ∨ got.length = 160 ∨
            (r.kind ≠ .lostrel ∧ (r.filling ≠ 0 ∨ (room < used + r.length ∧ canSplit = false)))) ∨
        (∃ r, rs[n]? = some r ∧ r.kind ≠ .lostrel ∧ r.filling = 0 ∧ canSplit = true ∧ got.length < 160 ∧ used < room ∧
          room < used + r.length ∧ t.split = some r ∧
          t.pieces = whole ++ [taken r used (room - used) (r.data.take (room - used))] ∧
          t.left = kept ++ { r with
            lsa := r.lsa + (room - used), length := r.length - (room - used)
            data := (r.data.drop (room - used)).take (r.length - (room - used))
            source := r.source.map fun d => ⟨d.band, d.index + (room - used)⟩ } :: rs.drop (n + 1))))

/-! ### Relocation (R128, R132) -/

/-- R16, R128: an engine in SELECTING takes its victim: the band of a SINGLE run exactly where it is a candidate, or the first of the
candidates but the deferred band by suspect, retire, valid count and number, and some band wherever there is one; the band becomes
CLEANING and the engine enters READING at track 0. An AUTO selection that finds none ends the run, and so does a SINGLE one whose band
is no candidate any longer, answered OK (log 35, DESIGN CHOICE). An engine in another state takes none (log 4). -/
def Obligations.VictimIsChosen : Prop :=
  ∀ s : State,
    (s.engine.state ≠ .selecting → Gives .victimSelection s s) ∧
    (∀ b, s.engine.state = .selecting → s.chosenVictim = some b → Gives .victimSelection s { s with
      bands := s.bands.modify b fun r => { r with state := .cleaning, prior := some r.state }
      engine := { s.engine with state := .reading, victim := some b, cursor := some 0, hand := none } }) ∧
    (s.engine.state = .selecting → s.chosenVictim = none → s.engine.clean = none → Gives .victimSelection s { s with
      engine := { Engine.reset with deferred := s.engine.deferred } }) ∧
    (∀ k, s.engine.state = .selecting → s.chosenVictim = none → s.engine.clean = some k → Gives .victimSelection s
      (State.answerEntry { s with engine := { Engine.reset with deferred := s.engine.deferred } } k .ok .none)) ∧
    (s.engine.run = some .single → ∀ b, s.chosenVictim = some b ↔ s.engine.target = some b ∧
      ∃ v, s.bands[b]? = some v ∧ (v.state = .full ∨ v.state = .closed) ∧ v.completed = v.issued) ∧
    (s.engine.run = some .auto → ∀ i v, s.bands[i]? = some v → (v.state = .full ∨ v.state = .closed) →
      v.completed = v.issued → s.engine.deferred ≠ some i → ∃ b, s.chosenVictim = some b) ∧
    (∀ b, s.engine.run = some .auto → s.chosenVictim = some b →
      ∃ v, s.bands[b]? = some v ∧ (v.state = .full ∨ v.state = .closed) ∧ v.completed = v.issued ∧
        s.engine.deferred ≠ some b ∧
        ∀ i u, s.bands[i]? = some u → u.candidate = true → s.engine.deferred ≠ some i →
          (u.suspect = true → v.suspect = true) ∧
          (v.suspect = false → u.suspect = false ∧ (u.retire = true → v.retire = true)) ∧
          (u.suspect = v.suspect → (u.suspect = true ∨ u.retire = v.retire) →
            v.valid < u.valid ∨ (v.valid = u.valid ∧ b ≤ i)))

/-- R132: a track in hand in RECORDS gives its records, which join Q15 at the tail where the pool and the headroom grant them all, and the
cursor moves past the track; else, and with no track in RECORDS (log 4), the step changes nothing of its own. R39, R45: the claim may
carry the headroom or the free pool records across their line.
R129, R132: the records made hold every live-set sector the map still places in the victim at its data index, each in exactly one record,
at its source index and LSA, with the sequence of the covering entry, and nothing else; they ascend and do not overlap. A record holds
sectors of one outcome: a RELOC record those read, with the data delivered for each, a LOSTREL record the others. Sectors of one read
piece that follow one another with the same outcome and sequence share a record. The premises are what R124 makes a live set: ascending
data indexes, and an LSA and an index that rise together in a read piece. -/
def Obligations.RelocationRecords : Prop :=
  (∀ s : State,
    (∀ v h, s.engine.victim = some v → s.engine.hand = some h → h.phase = .records →
      let rs := s.relocRecords v h
      (rs.length ≤ s.poolFree → 2 * rs.length ≤ s.headroom → Gives .relocationRecords s (State.noteFalls { s with
        queues := s.queues.set 15 { s.queue 15 with records := (s.queue 15).records ++ rs }
        engine := { s.engine with cursor := some (h.track + 1), hand := none } } s)) ∧
      (s.poolFree < rs.length ∨ s.headroom < 2 * rs.length → Gives .relocationRecords s s)) ∧
    (s.engine.hand = none → Gives .relocationRecords s s) ∧
    (∀ h, s.engine.hand = some h → h.phase ≠ .records → Gives .relocationRecords s s)) ∧
  (∀ (s : State) (v : Nat) (h : TrackInHand), (h.live.map (·.index)).Pairwise (· < ·) →
    (∀ x ∈ h.live, ∀ y ∈ h.live, x.piece = y.piece → x.lsa + y.index = y.lsa + x.index) →
    let rs := s.relocRecords v h
    let holds := fun (r : Fragment) (x : LiveSector) => ∃ d, r.source = some d ∧ d.index ≤ x.index ∧ x.index < d.index + r.length ∧
      x.lsa = r.lsa + (x.index - d.index) ∧ s.stillLive v x = some r.sequence ∧ (r.kind = .reloc ↔ x.outcome = some true)
    (rs.map (·.length)).sum = (h.live.filter fun x => (s.stillLive v x).isSome).length ∧
    (∀ r ∈ rs, r.filling = 0 ∧ r.origin = none ∧ r.attempts = 0 ∧ r.acknowledged = false ∧ r.drain = false ∧
      (r.kind = .reloc ∨ r.kind = .lostrel) ∧ 0 < r.length ∧
      ∃ d, r.source = some d ∧ d.band = v ∧
        (∀ i, i < r.length → ∃ x ∈ h.live, x.index = d.index + i ∧ holds r x ∧ (r.kind = .reloc → r.data[i]? = some x.data)) ∧
        (r.kind = .reloc → r.data.length = r.length) ∧ (r.kind = .lostrel → r.data = [])) ∧
    (∀ x ∈ h.live, s.stillLive v x ≠ none → ∃ r ∈ rs, holds r x) ∧
    rs.Pairwise (fun a b => ∀ d e, a.source = some d → b.source = some e → d.index + a.length ≤ e.index) ∧
    (∀ x ∈ h.live, ∀ y ∈ h.live, x.piece = y.piece → y.index = x.index + 1 → s.stillLive v x ≠ none →
      s.stillLive v x = s.stillLive v y → (x.outcome = some true ↔ y.outcome = some true) →
      ∃ r ∈ rs, holds r x ∧ holds r y))
end

