-- ==== Sys2Proof/Laws/State.lean ====
section
/-! SUPPORT. What every update of the state leaves as it was, field by field, and what it makes of the field it changes, so that
no proof unfolds a record update. -/

namespace Sys2Proof.Machine

/-! ### setPort -/

@[simp] theorem State.setPort_pending (s : State) (l : Link) (p : Port) : (s.setPort l p).pending = s.pending := by cases l <;> rfl
@[simp] theorem State.setPort_format (s : State) (l : Link) (p : Port) : (s.setPort l p).format = s.format := by cases l <;> rfl
@[simp] theorem State.setPort_layout (s : State) (l : Link) (p : Port) : (s.setPort l p).layout = s.layout := by cases l <;> rfl
@[simp] theorem State.setPort_formatting (s : State) (l : Link) (p : Port) : (s.setPort l p).formatting = s.formatting := by cases l <;> rfl
@[simp] theorem State.setPort_profiles (s : State) (l : Link) (p : Port) : (s.setPort l p).profiles = s.profiles := by cases l <;> rfl
@[simp] theorem State.setPort_bands (s : State) (l : Link) (p : Port) : (s.setPort l p).bands = s.bands := by cases l <;> rfl
@[simp] theorem State.setPort_map (s : State) (l : Link) (p : Port) : (s.setPort l p).map = s.map := by cases l <;> rfl
@[simp] theorem State.setPort_sequence (s : State) (l : Link) (p : Port) : (s.setPort l p).sequence = s.sequence := by cases l <;> rfl
@[simp] theorem State.setPort_table (s : State) (l : Link) (p : Port) : (s.setPort l p).table = s.table := by cases l <;> rfl
@[simp] theorem State.setPort_resetRecord (s : State) (l : Link) (p : Port) : (s.setPort l p).resetRecord = s.resetRecord := by cases l <;> rfl
@[simp] theorem State.setPort_resetWaits (s : State) (l : Link) (p : Port) : (s.setPort l p).resetWaits = s.resetWaits := by cases l <;> rfl
@[simp] theorem State.setPort_scope (s : State) (l : Link) (p : Port) : (s.setPort l p).scope = s.scope := by cases l <;> rfl
@[simp] theorem State.setPort_intervals (s : State) (l : Link) (p : Port) : (s.setPort l p).intervals = s.intervals := by cases l <;> rfl
@[simp] theorem State.setPort_defaultQueue (s : State) (l : Link) (p : Port) : (s.setPort l p).defaultQueue = s.defaultQueue := by cases l <;> rfl
@[simp] theorem State.setPort_queues (s : State) (l : Link) (p : Port) : (s.setPort l p).queues = s.queues := by cases l <;> rfl
@[simp] theorem State.setPort_lastServed (s : State) (l : Link) (p : Port) : (s.setPort l p).lastServed = s.lastServed := by cases l <;> rfl
@[simp] theorem State.setPort_window (s : State) (l : Link) (p : Port) : (s.setPort l p).window = s.window := by cases l <;> rfl
@[simp] theorem State.setPort_deadline (s : State) (l : Link) (p : Port) : (s.setPort l p).deadline = s.deadline := by cases l <;> rfl
@[simp] theorem State.setPort_path (s : State) (l : Link) (p : Port) : (s.setPort l p).path = s.path := by cases l <;> rfl
@[simp] theorem State.setPort_mediaReset (s : State) (l : Link) (p : Port) : (s.setPort l p).mediaReset = s.mediaReset := by cases l <;> rfl
@[simp] theorem State.setPort_recoveryWait (s : State) (l : Link) (p : Port) : (s.setPort l p).recoveryWait = s.recoveryWait := by cases l <;> rfl
@[simp] theorem State.setPort_startWait (s : State) (l : Link) (p : Port) : (s.setPort l p).startWait = s.startWait := by cases l <;> rfl
@[simp] theorem State.setPort_escalation (s : State) (l : Link) (p : Port) : (s.setPort l p).escalation = s.escalation := by cases l <;> rfl
@[simp] theorem State.setPort_fetchRun (s : State) (l : Link) (p : Port) : (s.setPort l p).fetchRun = s.fetchRun := by cases l <;> rfl
@[simp] theorem State.setPort_orderLimit (s : State) (l : Link) (p : Port) : (s.setPort l p).orderLimit = s.orderLimit := by cases l <;> rfl
@[simp] theorem State.setPort_geometry (s : State) (l : Link) (p : Port) : (s.setPort l p).geometry = s.geometry := by cases l <;> rfl
@[simp] theorem State.setPort_slots (s : State) (l : Link) (p : Port) : (s.setPort l p).slots = s.slots := by cases l <;> rfl
@[simp] theorem State.setPort_fetchList (s : State) (l : Link) (p : Port) : (s.setPort l p).fetchList = s.fetchList := by cases l <;> rfl
@[simp] theorem State.setPort_engine (s : State) (l : Link) (p : Port) : (s.setPort l p).engine = s.engine := by cases l <;> rfl
@[simp] theorem State.setPort_marks (s : State) (l : Link) (p : Port) : (s.setPort l p).marks = s.marks := by cases l <;> rfl
@[simp] theorem State.setPort_spindle (s : State) (l : Link) (p : Port) : (s.setPort l p).spindle = s.spindle := by cases l <;> rfl
@[simp] theorem State.setPort_service (s : State) (l : Link) (p : Port) : (s.setPort l p).service = s.service := by cases l <;> rfl
@[simp] theorem State.setPort_stage (s : State) (l : Link) (p : Port) : (s.setPort l p).stage = s.stage := by cases l <;> rfl
@[simp] theorem State.setPort_freeCount (s : State) (l : Link) (p : Port) : (s.setPort l p).freeCount = s.freeCount := by cases l <;> rfl

/-! ### modPort -/

@[simp] theorem State.modPort_pending (s : State) (l : Link) (f : Port → Port) : (s.modPort l f).pending = s.pending := by cases l <;> rfl
@[simp] theorem State.modPort_format (s : State) (l : Link) (f : Port → Port) : (s.modPort l f).format = s.format := by cases l <;> rfl
@[simp] theorem State.modPort_layout (s : State) (l : Link) (f : Port → Port) : (s.modPort l f).layout = s.layout := by cases l <;> rfl
@[simp] theorem State.modPort_formatting (s : State) (l : Link) (f : Port → Port) : (s.modPort l f).formatting = s.formatting := by cases l <;> rfl
@[simp] theorem State.modPort_profiles (s : State) (l : Link) (f : Port → Port) : (s.modPort l f).profiles = s.profiles := by cases l <;> rfl
@[simp] theorem State.modPort_bands (s : State) (l : Link) (f : Port → Port) : (s.modPort l f).bands = s.bands := by cases l <;> rfl
@[simp] theorem State.modPort_map (s : State) (l : Link) (f : Port → Port) : (s.modPort l f).map = s.map := by cases l <;> rfl
@[simp] theorem State.modPort_sequence (s : State) (l : Link) (f : Port → Port) : (s.modPort l f).sequence = s.sequence := by cases l <;> rfl
@[simp] theorem State.modPort_table (s : State) (l : Link) (f : Port → Port) : (s.modPort l f).table = s.table := by cases l <;> rfl
@[simp] theorem State.modPort_resetRecord (s : State) (l : Link) (f : Port → Port) : (s.modPort l f).resetRecord = s.resetRecord := by cases l <;> rfl
@[simp] theorem State.modPort_resetWaits (s : State) (l : Link) (f : Port → Port) : (s.modPort l f).resetWaits = s.resetWaits := by cases l <;> rfl
@[simp] theorem State.modPort_scope (s : State) (l : Link) (f : Port → Port) : (s.modPort l f).scope = s.scope := by cases l <;> rfl
@[simp] theorem State.modPort_intervals (s : State) (l : Link) (f : Port → Port) : (s.modPort l f).intervals = s.intervals := by cases l <;> rfl
@[simp] theorem State.modPort_defaultQueue (s : State) (l : Link) (f : Port → Port) : (s.modPort l f).defaultQueue = s.defaultQueue := by cases l <;> rfl
@[simp] theorem State.modPort_queues (s : State) (l : Link) (f : Port → Port) : (s.modPort l f).queues = s.queues := by cases l <;> rfl
@[simp] theorem State.modPort_lastServed (s : State) (l : Link) (f : Port → Port) : (s.modPort l f).lastServed = s.lastServed := by cases l <;> rfl
@[simp] theorem State.modPort_window (s : State) (l : Link) (f : Port → Port) : (s.modPort l f).window = s.window := by cases l <;> rfl
@[simp] theorem State.modPort_deadline (s : State) (l : Link) (f : Port → Port) : (s.modPort l f).deadline = s.deadline := by cases l <;> rfl
@[simp] theorem State.modPort_path (s : State) (l : Link) (f : Port → Port) : (s.modPort l f).path = s.path := by cases l <;> rfl
@[simp] theorem State.modPort_mediaReset (s : State) (l : Link) (f : Port → Port) : (s.modPort l f).mediaReset = s.mediaReset := by cases l <;> rfl
@[simp] theorem State.modPort_recoveryWait (s : State) (l : Link) (f : Port → Port) : (s.modPort l f).recoveryWait = s.recoveryWait := by cases l <;> rfl
@[simp] theorem State.modPort_startWait (s : State) (l : Link) (f : Port → Port) : (s.modPort l f).startWait = s.startWait := by cases l <;> rfl
@[simp] theorem State.modPort_escalation (s : State) (l : Link) (f : Port → Port) : (s.modPort l f).escalation = s.escalation := by cases l <;> rfl
@[simp] theorem State.modPort_fetchRun (s : State) (l : Link) (f : Port → Port) : (s.modPort l f).fetchRun = s.fetchRun := by cases l <;> rfl
@[simp] theorem State.modPort_orderLimit (s : State) (l : Link) (f : Port → Port) : (s.modPort l f).orderLimit = s.orderLimit := by cases l <;> rfl
@[simp] theorem State.modPort_geometry (s : State) (l : Link) (f : Port → Port) : (s.modPort l f).geometry = s.geometry := by cases l <;> rfl
@[simp] theorem State.modPort_slots (s : State) (l : Link) (f : Port → Port) : (s.modPort l f).slots = s.slots := by cases l <;> rfl
@[simp] theorem State.modPort_fetchList (s : State) (l : Link) (f : Port → Port) : (s.modPort l f).fetchList = s.fetchList := by cases l <;> rfl
@[simp] theorem State.modPort_engine (s : State) (l : Link) (f : Port → Port) : (s.modPort l f).engine = s.engine := by cases l <;> rfl
@[simp] theorem State.modPort_marks (s : State) (l : Link) (f : Port → Port) : (s.modPort l f).marks = s.marks := by cases l <;> rfl
@[simp] theorem State.modPort_spindle (s : State) (l : Link) (f : Port → Port) : (s.modPort l f).spindle = s.spindle := by cases l <;> rfl
@[simp] theorem State.modPort_service (s : State) (l : Link) (f : Port → Port) : (s.modPort l f).service = s.service := by cases l <;> rfl
@[simp] theorem State.modPort_stage (s : State) (l : Link) (f : Port → Port) : (s.modPort l f).stage = s.stage := by cases l <;> rfl
@[simp] theorem State.modPort_freeCount (s : State) (l : Link) (f : Port → Port) : (s.modPort l f).freeCount = s.freeCount := by cases l <;> rfl

/-! ### freeSlot -/

@[simp] theorem State.freeSlot_pending (s : State) (l : Link) : (s.freeSlot l).pending = s.pending := by cases l <;> rfl
@[simp] theorem State.freeSlot_format (s : State) (l : Link) : (s.freeSlot l).format = s.format := by cases l <;> rfl
@[simp] theorem State.freeSlot_layout (s : State) (l : Link) : (s.freeSlot l).layout = s.layout := by cases l <;> rfl
@[simp] theorem State.freeSlot_formatting (s : State) (l : Link) : (s.freeSlot l).formatting = s.formatting := by cases l <;> rfl
@[simp] theorem State.freeSlot_profiles (s : State) (l : Link) : (s.freeSlot l).profiles = s.profiles := by cases l <;> rfl
@[simp] theorem State.freeSlot_bands (s : State) (l : Link) : (s.freeSlot l).bands = s.bands := by cases l <;> rfl
@[simp] theorem State.freeSlot_map (s : State) (l : Link) : (s.freeSlot l).map = s.map := by cases l <;> rfl
@[simp] theorem State.freeSlot_sequence (s : State) (l : Link) : (s.freeSlot l).sequence = s.sequence := by cases l <;> rfl
@[simp] theorem State.freeSlot_table (s : State) (l : Link) : (s.freeSlot l).table = s.table := by cases l <;> rfl
@[simp] theorem State.freeSlot_resetRecord (s : State) (l : Link) : (s.freeSlot l).resetRecord = s.resetRecord := by cases l <;> rfl
@[simp] theorem State.freeSlot_resetWaits (s : State) (l : Link) : (s.freeSlot l).resetWaits = s.resetWaits := by cases l <;> rfl
@[simp] theorem State.freeSlot_scope (s : State) (l : Link) : (s.freeSlot l).scope = s.scope := by cases l <;> rfl
@[simp] theorem State.freeSlot_intervals (s : State) (l : Link) : (s.freeSlot l).intervals = s.intervals := by cases l <;> rfl
@[simp] theorem State.freeSlot_defaultQueue (s : State) (l : Link) : (s.freeSlot l).defaultQueue = s.defaultQueue := by cases l <;> rfl
@[simp] theorem State.freeSlot_queues (s : State) (l : Link) : (s.freeSlot l).queues = s.queues := by cases l <;> rfl
@[simp] theorem State.freeSlot_lastServed (s : State) (l : Link) : (s.freeSlot l).lastServed = s.lastServed := by cases l <;> rfl
@[simp] theorem State.freeSlot_window (s : State) (l : Link) : (s.freeSlot l).window = s.window := by cases l <;> rfl
@[simp] theorem State.freeSlot_deadline (s : State) (l : Link) : (s.freeSlot l).deadline = s.deadline := by cases l <;> rfl
@[simp] theorem State.freeSlot_path (s : State) (l : Link) : (s.freeSlot l).path = s.path := by cases l <;> rfl
@[simp] theorem State.freeSlot_mediaReset (s : State) (l : Link) : (s.freeSlot l).mediaReset = s.mediaReset := by cases l <;> rfl
@[simp] theorem State.freeSlot_recoveryWait (s : State) (l : Link) : (s.freeSlot l).recoveryWait = s.recoveryWait := by cases l <;> rfl
@[simp] theorem State.freeSlot_startWait (s : State) (l : Link) : (s.freeSlot l).startWait = s.startWait := by cases l <;> rfl
@[simp] theorem State.freeSlot_escalation (s : State) (l : Link) : (s.freeSlot l).escalation = s.escalation := by cases l <;> rfl
@[simp] theorem State.freeSlot_fetchRun (s : State) (l : Link) : (s.freeSlot l).fetchRun = s.fetchRun := by cases l <;> rfl
@[simp] theorem State.freeSlot_orderLimit (s : State) (l : Link) : (s.freeSlot l).orderLimit = s.orderLimit := by cases l <;> rfl
@[simp] theorem State.freeSlot_geometry (s : State) (l : Link) : (s.freeSlot l).geometry = s.geometry := by cases l <;> rfl
@[simp] theorem State.freeSlot_slots (s : State) (l : Link) : (s.freeSlot l).slots = s.slots := by cases l <;> rfl
@[simp] theorem State.freeSlot_fetchList (s : State) (l : Link) : (s.freeSlot l).fetchList = s.fetchList := by cases l <;> rfl
@[simp] theorem State.freeSlot_engine (s : State) (l : Link) : (s.freeSlot l).engine = s.engine := by cases l <;> rfl
@[simp] theorem State.freeSlot_marks (s : State) (l : Link) : (s.freeSlot l).marks = s.marks := by cases l <;> rfl
@[simp] theorem State.freeSlot_spindle (s : State) (l : Link) : (s.freeSlot l).spindle = s.spindle := by cases l <;> rfl
@[simp] theorem State.freeSlot_service (s : State) (l : Link) : (s.freeSlot l).service = s.service := by cases l <;> rfl
@[simp] theorem State.freeSlot_stage (s : State) (l : Link) : (s.freeSlot l).stage = s.stage := by cases l <;> rfl
@[simp] theorem State.freeSlot_freeCount (s : State) (l : Link) : (s.freeSlot l).freeCount = s.freeCount := by cases l <;> rfl

/-! ### raise -/

@[simp] theorem State.raise_pending (s : State) (l : Link) (k : Notice) (d : Nat) : (s.raise l k d).pending = s.pending := by cases l <;> rfl
@[simp] theorem State.raise_format (s : State) (l : Link) (k : Notice) (d : Nat) : (s.raise l k d).format = s.format := by cases l <;> rfl
@[simp] theorem State.raise_layout (s : State) (l : Link) (k : Notice) (d : Nat) : (s.raise l k d).layout = s.layout := by cases l <;> rfl
@[simp] theorem State.raise_formatting (s : State) (l : Link) (k : Notice) (d : Nat) : (s.raise l k d).formatting = s.formatting := by cases l <;> rfl
@[simp] theorem State.raise_profiles (s : State) (l : Link) (k : Notice) (d : Nat) : (s.raise l k d).profiles = s.profiles := by cases l <;> rfl
@[simp] theorem State.raise_bands (s : State) (l : Link) (k : Notice) (d : Nat) : (s.raise l k d).bands = s.bands := by cases l <;> rfl
@[simp] theorem State.raise_map (s : State) (l : Link) (k : Notice) (d : Nat) : (s.raise l k d).map = s.map := by cases l <;> rfl
@[simp] theorem State.raise_sequence (s : State) (l : Link) (k : Notice) (d : Nat) : (s.raise l k d).sequence = s.sequence := by cases l <;> rfl
@[simp] theorem State.raise_table (s : State) (l : Link) (k : Notice) (d : Nat) : (s.raise l k d).table = s.table := by cases l <;> rfl
@[simp] theorem State.raise_resetRecord (s : State) (l : Link) (k : Notice) (d : Nat) : (s.raise l k d).resetRecord = s.resetRecord := by cases l <;> rfl
@[simp] theorem State.raise_resetWaits (s : State) (l : Link) (k : Notice) (d : Nat) : (s.raise l k d).resetWaits = s.resetWaits := by cases l <;> rfl
@[simp] theorem State.raise_scope (s : State) (l : Link) (k : Notice) (d : Nat) : (s.raise l k d).scope = s.scope := by cases l <;> rfl
@[simp] theorem State.raise_intervals (s : State) (l : Link) (k : Notice) (d : Nat) : (s.raise l k d).intervals = s.intervals := by cases l <;> rfl
@[simp] theorem State.raise_defaultQueue (s : State) (l : Link) (k : Notice) (d : Nat) : (s.raise l k d).defaultQueue = s.defaultQueue := by cases l <;> rfl
@[simp] theorem State.raise_queues (s : State) (l : Link) (k : Notice) (d : Nat) : (s.raise l k d).queues = s.queues := by cases l <;> rfl
@[simp] theorem State.raise_lastServed (s : State) (l : Link) (k : Notice) (d : Nat) : (s.raise l k d).lastServed = s.lastServed := by cases l <;> rfl
@[simp] theorem State.raise_window (s : State) (l : Link) (k : Notice) (d : Nat) : (s.raise l k d).window = s.window := by cases l <;> rfl
@[simp] theorem State.raise_deadline (s : State) (l : Link) (k : Notice) (d : Nat) : (s.raise l k d).deadline = s.deadline := by cases l <;> rfl
@[simp] theorem State.raise_path (s : State) (l : Link) (k : Notice) (d : Nat) : (s.raise l k d).path = s.path := by cases l <;> rfl
@[simp] theorem State.raise_mediaReset (s : State) (l : Link) (k : Notice) (d : Nat) : (s.raise l k d).mediaReset = s.mediaReset := by cases l <;> rfl
@[simp] theorem State.raise_recoveryWait (s : State) (l : Link) (k : Notice) (d : Nat) : (s.raise l k d).recoveryWait = s.recoveryWait := by cases l <;> rfl
@[simp] theorem State.raise_startWait (s : State) (l : Link) (k : Notice) (d : Nat) : (s.raise l k d).startWait = s.startWait := by cases l <;> rfl
@[simp] theorem State.raise_escalation (s : State) (l : Link) (k : Notice) (d : Nat) : (s.raise l k d).escalation = s.escalation := by cases l <;> rfl
@[simp] theorem State.raise_fetchRun (s : State) (l : Link) (k : Notice) (d : Nat) : (s.raise l k d).fetchRun = s.fetchRun := by cases l <;> rfl
@[simp] theorem State.raise_orderLimit (s : State) (l : Link) (k : Notice) (d : Nat) : (s.raise l k d).orderLimit = s.orderLimit := by cases l <;> rfl
@[simp] theorem State.raise_geometry (s : State) (l : Link) (k : Notice) (d : Nat) : (s.raise l k d).geometry = s.geometry := by cases l <;> rfl
@[simp] theorem State.raise_slots (s : State) (l : Link) (k : Notice) (d : Nat) : (s.raise l k d).slots = s.slots := by cases l <;> rfl
@[simp] theorem State.raise_fetchList (s : State) (l : Link) (k : Notice) (d : Nat) : (s.raise l k d).fetchList = s.fetchList := by cases l <;> rfl
@[simp] theorem State.raise_engine (s : State) (l : Link) (k : Notice) (d : Nat) : (s.raise l k d).engine = s.engine := by cases l <;> rfl
@[simp] theorem State.raise_marks (s : State) (l : Link) (k : Notice) (d : Nat) : (s.raise l k d).marks = s.marks := by cases l <;> rfl
@[simp] theorem State.raise_spindle (s : State) (l : Link) (k : Notice) (d : Nat) : (s.raise l k d).spindle = s.spindle := by cases l <;> rfl
@[simp] theorem State.raise_service (s : State) (l : Link) (k : Notice) (d : Nat) : (s.raise l k d).service = s.service := by cases l <;> rfl
@[simp] theorem State.raise_stage (s : State) (l : Link) (k : Notice) (d : Nat) : (s.raise l k d).stage = s.stage := by cases l <;> rfl
@[simp] theorem State.raise_freeCount (s : State) (l : Link) (k : Notice) (d : Nat) : (s.raise l k d).freeCount = s.freeCount := by cases l <;> rfl

/-! ### raiseBoth -/

@[simp] theorem State.raiseBoth_pending (s : State) (k : Notice) (d : Nat) : (s.raiseBoth k d).pending = s.pending := rfl
@[simp] theorem State.raiseBoth_format (s : State) (k : Notice) (d : Nat) : (s.raiseBoth k d).format = s.format := rfl
@[simp] theorem State.raiseBoth_layout (s : State) (k : Notice) (d : Nat) : (s.raiseBoth k d).layout = s.layout := rfl
@[simp] theorem State.raiseBoth_formatting (s : State) (k : Notice) (d : Nat) : (s.raiseBoth k d).formatting = s.formatting := rfl
@[simp] theorem State.raiseBoth_profiles (s : State) (k : Notice) (d : Nat) : (s.raiseBoth k d).profiles = s.profiles := rfl
@[simp] theorem State.raiseBoth_bands (s : State) (k : Notice) (d : Nat) : (s.raiseBoth k d).bands = s.bands := rfl
@[simp] theorem State.raiseBoth_map (s : State) (k : Notice) (d : Nat) : (s.raiseBoth k d).map = s.map := rfl
@[simp] theorem State.raiseBoth_sequence (s : State) (k : Notice) (d : Nat) : (s.raiseBoth k d).sequence = s.sequence := rfl
@[simp] theorem State.raiseBoth_table (s : State) (k : Notice) (d : Nat) : (s.raiseBoth k d).table = s.table := rfl
@[simp] theorem State.raiseBoth_resetRecord (s : State) (k : Notice) (d : Nat) : (s.raiseBoth k d).resetRecord = s.resetRecord := rfl
@[simp] theorem State.raiseBoth_resetWaits (s : State) (k : Notice) (d : Nat) : (s.raiseBoth k d).resetWaits = s.resetWaits := rfl
@[simp] theorem State.raiseBoth_scope (s : State) (k : Notice) (d : Nat) : (s.raiseBoth k d).scope = s.scope := rfl
@[simp] theorem State.raiseBoth_intervals (s : State) (k : Notice) (d : Nat) : (s.raiseBoth k d).intervals = s.intervals := rfl
@[simp] theorem State.raiseBoth_defaultQueue (s : State) (k : Notice) (d : Nat) : (s.raiseBoth k d).defaultQueue = s.defaultQueue := rfl
@[simp] theorem State.raiseBoth_queues (s : State) (k : Notice) (d : Nat) : (s.raiseBoth k d).queues = s.queues := rfl
@[simp] theorem State.raiseBoth_lastServed (s : State) (k : Notice) (d : Nat) : (s.raiseBoth k d).lastServed = s.lastServed := rfl
@[simp] theorem State.raiseBoth_window (s : State) (k : Notice) (d : Nat) : (s.raiseBoth k d).window = s.window := rfl
@[simp] theorem State.raiseBoth_deadline (s : State) (k : Notice) (d : Nat) : (s.raiseBoth k d).deadline = s.deadline := rfl
@[simp] theorem State.raiseBoth_path (s : State) (k : Notice) (d : Nat) : (s.raiseBoth k d).path = s.path := rfl
@[simp] theorem State.raiseBoth_mediaReset (s : State) (k : Notice) (d : Nat) : (s.raiseBoth k d).mediaReset = s.mediaReset := rfl
@[simp] theorem State.raiseBoth_recoveryWait (s : State) (k : Notice) (d : Nat) : (s.raiseBoth k d).recoveryWait = s.recoveryWait := rfl
@[simp] theorem State.raiseBoth_startWait (s : State) (k : Notice) (d : Nat) : (s.raiseBoth k d).startWait = s.startWait := rfl
@[simp] theorem State.raiseBoth_escalation (s : State) (k : Notice) (d : Nat) : (s.raiseBoth k d).escalation = s.escalation := rfl
@[simp] theorem State.raiseBoth_fetchRun (s : State) (k : Notice) (d : Nat) : (s.raiseBoth k d).fetchRun = s.fetchRun := rfl
@[simp] theorem State.raiseBoth_orderLimit (s : State) (k : Notice) (d : Nat) : (s.raiseBoth k d).orderLimit = s.orderLimit := rfl
@[simp] theorem State.raiseBoth_geometry (s : State) (k : Notice) (d : Nat) : (s.raiseBoth k d).geometry = s.geometry := rfl
@[simp] theorem State.raiseBoth_slots (s : State) (k : Notice) (d : Nat) : (s.raiseBoth k d).slots = s.slots := rfl
@[simp] theorem State.raiseBoth_fetchList (s : State) (k : Notice) (d : Nat) : (s.raiseBoth k d).fetchList = s.fetchList := rfl
@[simp] theorem State.raiseBoth_engine (s : State) (k : Notice) (d : Nat) : (s.raiseBoth k d).engine = s.engine := rfl
@[simp] theorem State.raiseBoth_marks (s : State) (k : Notice) (d : Nat) : (s.raiseBoth k d).marks = s.marks := rfl
@[simp] theorem State.raiseBoth_spindle (s : State) (k : Notice) (d : Nat) : (s.raiseBoth k d).spindle = s.spindle := rfl
@[simp] theorem State.raiseBoth_service (s : State) (k : Notice) (d : Nat) : (s.raiseBoth k d).service = s.service := rfl
@[simp] theorem State.raiseBoth_stage (s : State) (k : Notice) (d : Nat) : (s.raiseBoth k d).stage = s.stage := rfl
@[simp] theorem State.raiseBoth_freeCount (s : State) (k : Notice) (d : Nat) : (s.raiseBoth k d).freeCount = s.freeCount := rfl

/-! ### pushFrame -/

@[simp] theorem State.pushFrame_pending (s : State) (l : Link) (f : OutFrame) : (s.pushFrame l f).pending = s.pending := by cases l <;> rfl
@[simp] theorem State.pushFrame_format (s : State) (l : Link) (f : OutFrame) : (s.pushFrame l f).format = s.format := by cases l <;> rfl
@[simp] theorem State.pushFrame_layout (s : State) (l : Link) (f : OutFrame) : (s.pushFrame l f).layout = s.layout := by cases l <;> rfl
@[simp] theorem State.pushFrame_formatting (s : State) (l : Link) (f : OutFrame) : (s.pushFrame l f).formatting = s.formatting := by cases l <;> rfl
@[simp] theorem State.pushFrame_profiles (s : State) (l : Link) (f : OutFrame) : (s.pushFrame l f).profiles = s.profiles := by cases l <;> rfl
@[simp] theorem State.pushFrame_bands (s : State) (l : Link) (f : OutFrame) : (s.pushFrame l f).bands = s.bands := by cases l <;> rfl
@[simp] theorem State.pushFrame_map (s : State) (l : Link) (f : OutFrame) : (s.pushFrame l f).map = s.map := by cases l <;> rfl
@[simp] theorem State.pushFrame_sequence (s : State) (l : Link) (f : OutFrame) : (s.pushFrame l f).sequence = s.sequence := by cases l <;> rfl
@[simp] theorem State.pushFrame_table (s : State) (l : Link) (f : OutFrame) : (s.pushFrame l f).table = s.table := by cases l <;> rfl
@[simp] theorem State.pushFrame_resetRecord (s : State) (l : Link) (f : OutFrame) : (s.pushFrame l f).resetRecord = s.resetRecord := by cases l <;> rfl
@[simp] theorem State.pushFrame_resetWaits (s : State) (l : Link) (f : OutFrame) : (s.pushFrame l f).resetWaits = s.resetWaits := by cases l <;> rfl
@[simp] theorem State.pushFrame_scope (s : State) (l : Link) (f : OutFrame) : (s.pushFrame l f).scope = s.scope := by cases l <;> rfl
@[simp] theorem State.pushFrame_intervals (s : State) (l : Link) (f : OutFrame) : (s.pushFrame l f).intervals = s.intervals := by cases l <;> rfl
@[simp] theorem State.pushFrame_defaultQueue (s : State) (l : Link) (f : OutFrame) : (s.pushFrame l f).defaultQueue = s.defaultQueue := by cases l <;> rfl
@[simp] theorem State.pushFrame_queues (s : State) (l : Link) (f : OutFrame) : (s.pushFrame l f).queues = s.queues := by cases l <;> rfl
@[simp] theorem State.pushFrame_lastServed (s : State) (l : Link) (f : OutFrame) : (s.pushFrame l f).lastServed = s.lastServed := by cases l <;> rfl
@[simp] theorem State.pushFrame_window (s : State) (l : Link) (f : OutFrame) : (s.pushFrame l f).window = s.window := by cases l <;> rfl
@[simp] theorem State.pushFrame_deadline (s : State) (l : Link) (f : OutFrame) : (s.pushFrame l f).deadline = s.deadline := by cases l <;> rfl
@[simp] theorem State.pushFrame_path (s : State) (l : Link) (f : OutFrame) : (s.pushFrame l f).path = s.path := by cases l <;> rfl
@[simp] theorem State.pushFrame_mediaReset (s : State) (l : Link) (f : OutFrame) : (s.pushFrame l f).mediaReset = s.mediaReset := by cases l <;> rfl
@[simp] theorem State.pushFrame_recoveryWait (s : State) (l : Link) (f : OutFrame) : (s.pushFrame l f).recoveryWait = s.recoveryWait := by cases l <;> rfl
@[simp] theorem State.pushFrame_startWait (s : State) (l : Link) (f : OutFrame) : (s.pushFrame l f).startWait = s.startWait := by cases l <;> rfl
@[simp] theorem State.pushFrame_escalation (s : State) (l : Link) (f : OutFrame) : (s.pushFrame l f).escalation = s.escalation := by cases l <;> rfl
@[simp] theorem State.pushFrame_fetchRun (s : State) (l : Link) (f : OutFrame) : (s.pushFrame l f).fetchRun = s.fetchRun := by cases l <;> rfl
@[simp] theorem State.pushFrame_orderLimit (s : State) (l : Link) (f : OutFrame) : (s.pushFrame l f).orderLimit = s.orderLimit := by cases l <;> rfl
@[simp] theorem State.pushFrame_geometry (s : State) (l : Link) (f : OutFrame) : (s.pushFrame l f).geometry = s.geometry := by cases l <;> rfl
@[simp] theorem State.pushFrame_slots (s : State) (l : Link) (f : OutFrame) : (s.pushFrame l f).slots = s.slots := by cases l <;> rfl
@[simp] theorem State.pushFrame_fetchList (s : State) (l : Link) (f : OutFrame) : (s.pushFrame l f).fetchList = s.fetchList := by cases l <;> rfl
@[simp] theorem State.pushFrame_engine (s : State) (l : Link) (f : OutFrame) : (s.pushFrame l f).engine = s.engine := by cases l <;> rfl
@[simp] theorem State.pushFrame_marks (s : State) (l : Link) (f : OutFrame) : (s.pushFrame l f).marks = s.marks := by cases l <;> rfl
@[simp] theorem State.pushFrame_spindle (s : State) (l : Link) (f : OutFrame) : (s.pushFrame l f).spindle = s.spindle := by cases l <;> rfl
@[simp] theorem State.pushFrame_service (s : State) (l : Link) (f : OutFrame) : (s.pushFrame l f).service = s.service := by cases l <;> rfl
@[simp] theorem State.pushFrame_stage (s : State) (l : Link) (f : OutFrame) : (s.pushFrame l f).stage = s.stage := by cases l <;> rfl
@[simp] theorem State.pushFrame_freeCount (s : State) (l : Link) (f : OutFrame) : (s.pushFrame l f).freeCount = s.freeCount := by cases l <;> rfl

/-! ### answerNow -/

@[simp] theorem State.answerNow_pending (s : State) (k : Key) (n : Nat) (x : Status) (r : Result) : (s.answerNow k n x r).pending = s.pending := by rcases k with ⟨l, t⟩; cases l <;> rfl
@[simp] theorem State.answerNow_format (s : State) (k : Key) (n : Nat) (x : Status) (r : Result) : (s.answerNow k n x r).format = s.format := by rcases k with ⟨l, t⟩; cases l <;> rfl
@[simp] theorem State.answerNow_layout (s : State) (k : Key) (n : Nat) (x : Status) (r : Result) : (s.answerNow k n x r).layout = s.layout := by rcases k with ⟨l, t⟩; cases l <;> rfl
@[simp] theorem State.answerNow_formatting (s : State) (k : Key) (n : Nat) (x : Status) (r : Result) : (s.answerNow k n x r).formatting = s.formatting := by rcases k with ⟨l, t⟩; cases l <;> rfl
@[simp] theorem State.answerNow_profiles (s : State) (k : Key) (n : Nat) (x : Status) (r : Result) : (s.answerNow k n x r).profiles = s.profiles := by rcases k with ⟨l, t⟩; cases l <;> rfl
@[simp] theorem State.answerNow_bands (s : State) (k : Key) (n : Nat) (x : Status) (r : Result) : (s.answerNow k n x r).bands = s.bands := by rcases k with ⟨l, t⟩; cases l <;> rfl
@[simp] theorem State.answerNow_map (s : State) (k : Key) (n : Nat) (x : Status) (r : Result) : (s.answerNow k n x r).map = s.map := by rcases k with ⟨l, t⟩; cases l <;> rfl
@[simp] theorem State.answerNow_sequence (s : State) (k : Key) (n : Nat) (x : Status) (r : Result) : (s.answerNow k n x r).sequence = s.sequence := by rcases k with ⟨l, t⟩; cases l <;> rfl
@[simp] theorem State.answerNow_table (s : State) (k : Key) (n : Nat) (x : Status) (r : Result) : (s.answerNow k n x r).table = s.table := by rcases k with ⟨l, t⟩; cases l <;> rfl
@[simp] theorem State.answerNow_resetRecord (s : State) (k : Key) (n : Nat) (x : Status) (r : Result) : (s.answerNow k n x r).resetRecord = s.resetRecord := by rcases k with ⟨l, t⟩; cases l <;> rfl
@[simp] theorem State.answerNow_resetWaits (s : State) (k : Key) (n : Nat) (x : Status) (r : Result) : (s.answerNow k n x r).resetWaits = s.resetWaits := by rcases k with ⟨l, t⟩; cases l <;> rfl
@[simp] theorem State.answerNow_scope (s : State) (k : Key) (n : Nat) (x : Status) (r : Result) : (s.answerNow k n x r).scope = s.scope := by rcases k with ⟨l, t⟩; cases l <;> rfl
@[simp] theorem State.answerNow_intervals (s : State) (k : Key) (n : Nat) (x : Status) (r : Result) : (s.answerNow k n x r).intervals = s.intervals := by rcases k with ⟨l, t⟩; cases l <;> rfl
@[simp] theorem State.answerNow_defaultQueue (s : State) (k : Key) (n : Nat) (x : Status) (r : Result) : (s.answerNow k n x r).defaultQueue = s.defaultQueue := by rcases k with ⟨l, t⟩; cases l <;> rfl
@[simp] theorem State.answerNow_queues (s : State) (k : Key) (n : Nat) (x : Status) (r : Result) : (s.answerNow k n x r).queues = s.queues := by rcases k with ⟨l, t⟩; cases l <;> rfl
@[simp] theorem State.answerNow_lastServed (s : State) (k : Key) (n : Nat) (x : Status) (r : Result) : (s.answerNow k n x r).lastServed = s.lastServed := by rcases k with ⟨l, t⟩; cases l <;> rfl
@[simp] theorem State.answerNow_window (s : State) (k : Key) (n : Nat) (x : Status) (r : Result) : (s.answerNow k n x r).window = s.window := by rcases k with ⟨l, t⟩; cases l <;> rfl
@[simp] theorem State.answerNow_deadline (s : State) (k : Key) (n : Nat) (x : Status) (r : Result) : (s.answerNow k n x r).deadline = s.deadline := by rcases k with ⟨l, t⟩; cases l <;> rfl
@[simp] theorem State.answerNow_path (s : State) (k : Key) (n : Nat) (x : Status) (r : Result) : (s.answerNow k n x r).path = s.path := by rcases k with ⟨l, t⟩; cases l <;> rfl
@[simp] theorem State.answerNow_mediaReset (s : State) (k : Key) (n : Nat) (x : Status) (r : Result) : (s.answerNow k n x r).mediaReset = s.mediaReset := by rcases k with ⟨l, t⟩; cases l <;> rfl
@[simp] theorem State.answerNow_recoveryWait (s : State) (k : Key) (n : Nat) (x : Status) (r : Result) : (s.answerNow k n x r).recoveryWait = s.recoveryWait := by rcases k with ⟨l, t⟩; cases l <;> rfl
@[simp] theorem State.answerNow_startWait (s : State) (k : Key) (n : Nat) (x : Status) (r : Result) : (s.answerNow k n x r).startWait = s.startWait := by rcases k with ⟨l, t⟩; cases l <;> rfl
@[simp] theorem State.answerNow_escalation (s : State) (k : Key) (n : Nat) (x : Status) (r : Result) : (s.answerNow k n x r).escalation = s.escalation := by rcases k with ⟨l, t⟩; cases l <;> rfl
@[simp] theorem State.answerNow_fetchRun (s : State) (k : Key) (n : Nat) (x : Status) (r : Result) : (s.answerNow k n x r).fetchRun = s.fetchRun := by rcases k with ⟨l, t⟩; cases l <;> rfl
@[simp] theorem State.answerNow_orderLimit (s : State) (k : Key) (n : Nat) (x : Status) (r : Result) : (s.answerNow k n x r).orderLimit = s.orderLimit := by rcases k with ⟨l, t⟩; cases l <;> rfl
@[simp] theorem State.answerNow_geometry (s : State) (k : Key) (n : Nat) (x : Status) (r : Result) : (s.answerNow k n x r).geometry = s.geometry := by rcases k with ⟨l, t⟩; cases l <;> rfl
@[simp] theorem State.answerNow_slots (s : State) (k : Key) (n : Nat) (x : Status) (r : Result) : (s.answerNow k n x r).slots = s.slots := by rcases k with ⟨l, t⟩; cases l <;> rfl
@[simp] theorem State.answerNow_fetchList (s : State) (k : Key) (n : Nat) (x : Status) (r : Result) : (s.answerNow k n x r).fetchList = s.fetchList := by rcases k with ⟨l, t⟩; cases l <;> rfl
@[simp] theorem State.answerNow_engine (s : State) (k : Key) (n : Nat) (x : Status) (r : Result) : (s.answerNow k n x r).engine = s.engine := by rcases k with ⟨l, t⟩; cases l <;> rfl
@[simp] theorem State.answerNow_marks (s : State) (k : Key) (n : Nat) (x : Status) (r : Result) : (s.answerNow k n x r).marks = s.marks := by rcases k with ⟨l, t⟩; cases l <;> rfl
@[simp] theorem State.answerNow_spindle (s : State) (k : Key) (n : Nat) (x : Status) (r : Result) : (s.answerNow k n x r).spindle = s.spindle := by rcases k with ⟨l, t⟩; cases l <;> rfl
@[simp] theorem State.answerNow_service (s : State) (k : Key) (n : Nat) (x : Status) (r : Result) : (s.answerNow k n x r).service = s.service := by rcases k with ⟨l, t⟩; cases l <;> rfl
@[simp] theorem State.answerNow_stage (s : State) (k : Key) (n : Nat) (x : Status) (r : Result) : (s.answerNow k n x r).stage = s.stage := by rcases k with ⟨l, t⟩; cases l <;> rfl
@[simp] theorem State.answerNow_freeCount (s : State) (k : Key) (n : Nat) (x : Status) (r : Result) : (s.answerNow k n x r).freeCount = s.freeCount := by rcases k with ⟨l, t⟩; cases l <;> rfl

/-! ### modQueue -/

@[simp] theorem State.modQueue_pending (s : State) (q : Fin 16) (f : Queue → Queue) : (s.modQueue q f).pending = s.pending := rfl
@[simp] theorem State.modQueue_format (s : State) (q : Fin 16) (f : Queue → Queue) : (s.modQueue q f).format = s.format := rfl
@[simp] theorem State.modQueue_layout (s : State) (q : Fin 16) (f : Queue → Queue) : (s.modQueue q f).layout = s.layout := rfl
@[simp] theorem State.modQueue_formatting (s : State) (q : Fin 16) (f : Queue → Queue) : (s.modQueue q f).formatting = s.formatting := rfl
@[simp] theorem State.modQueue_profiles (s : State) (q : Fin 16) (f : Queue → Queue) : (s.modQueue q f).profiles = s.profiles := rfl
@[simp] theorem State.modQueue_bands (s : State) (q : Fin 16) (f : Queue → Queue) : (s.modQueue q f).bands = s.bands := rfl
@[simp] theorem State.modQueue_map (s : State) (q : Fin 16) (f : Queue → Queue) : (s.modQueue q f).map = s.map := rfl
@[simp] theorem State.modQueue_sequence (s : State) (q : Fin 16) (f : Queue → Queue) : (s.modQueue q f).sequence = s.sequence := rfl
@[simp] theorem State.modQueue_table (s : State) (q : Fin 16) (f : Queue → Queue) : (s.modQueue q f).table = s.table := rfl
@[simp] theorem State.modQueue_resetRecord (s : State) (q : Fin 16) (f : Queue → Queue) : (s.modQueue q f).resetRecord = s.resetRecord := rfl
@[simp] theorem State.modQueue_resetWaits (s : State) (q : Fin 16) (f : Queue → Queue) : (s.modQueue q f).resetWaits = s.resetWaits := rfl
@[simp] theorem State.modQueue_portA (s : State) (q : Fin 16) (f : Queue → Queue) : (s.modQueue q f).portA = s.portA := rfl
@[simp] theorem State.modQueue_portB (s : State) (q : Fin 16) (f : Queue → Queue) : (s.modQueue q f).portB = s.portB := rfl
@[simp] theorem State.modQueue_scope (s : State) (q : Fin 16) (f : Queue → Queue) : (s.modQueue q f).scope = s.scope := rfl
@[simp] theorem State.modQueue_intervals (s : State) (q : Fin 16) (f : Queue → Queue) : (s.modQueue q f).intervals = s.intervals := rfl
@[simp] theorem State.modQueue_defaultQueue (s : State) (q : Fin 16) (f : Queue → Queue) : (s.modQueue q f).defaultQueue = s.defaultQueue := rfl
@[simp] theorem State.modQueue_lastServed (s : State) (q : Fin 16) (f : Queue → Queue) : (s.modQueue q f).lastServed = s.lastServed := rfl
@[simp] theorem State.modQueue_window (s : State) (q : Fin 16) (f : Queue → Queue) : (s.modQueue q f).window = s.window := rfl
@[simp] theorem State.modQueue_deadline (s : State) (q : Fin 16) (f : Queue → Queue) : (s.modQueue q f).deadline = s.deadline := rfl
@[simp] theorem State.modQueue_path (s : State) (q : Fin 16) (f : Queue → Queue) : (s.modQueue q f).path = s.path := rfl
@[simp] theorem State.modQueue_mediaReset (s : State) (q : Fin 16) (f : Queue → Queue) : (s.modQueue q f).mediaReset = s.mediaReset := rfl
@[simp] theorem State.modQueue_recoveryWait (s : State) (q : Fin 16) (f : Queue → Queue) : (s.modQueue q f).recoveryWait = s.recoveryWait := rfl
@[simp] theorem State.modQueue_startWait (s : State) (q : Fin 16) (f : Queue → Queue) : (s.modQueue q f).startWait = s.startWait := rfl
@[simp] theorem State.modQueue_escalation (s : State) (q : Fin 16) (f : Queue → Queue) : (s.modQueue q f).escalation = s.escalation := rfl
@[simp] theorem State.modQueue_fetchRun (s : State) (q : Fin 16) (f : Queue → Queue) : (s.modQueue q f).fetchRun = s.fetchRun := rfl
@[simp] theorem State.modQueue_orderLimit (s : State) (q : Fin 16) (f : Queue → Queue) : (s.modQueue q f).orderLimit = s.orderLimit := rfl
@[simp] theorem State.modQueue_geometry (s : State) (q : Fin 16) (f : Queue → Queue) : (s.modQueue q f).geometry = s.geometry := rfl
@[simp] theorem State.modQueue_slots (s : State) (q : Fin 16) (f : Queue → Queue) : (s.modQueue q f).slots = s.slots := rfl
@[simp] theorem State.modQueue_fetchList (s : State) (q : Fin 16) (f : Queue → Queue) : (s.modQueue q f).fetchList = s.fetchList := rfl
@[simp] theorem State.modQueue_engine (s : State) (q : Fin 16) (f : Queue → Queue) : (s.modQueue q f).engine = s.engine := rfl
@[simp] theorem State.modQueue_marks (s : State) (q : Fin 16) (f : Queue → Queue) : (s.modQueue q f).marks = s.marks := rfl
@[simp] theorem State.modQueue_spindle (s : State) (q : Fin 16) (f : Queue → Queue) : (s.modQueue q f).spindle = s.spindle := rfl
@[simp] theorem State.modQueue_service (s : State) (q : Fin 16) (f : Queue → Queue) : (s.modQueue q f).service = s.service := rfl
@[simp] theorem State.modQueue_stage (s : State) (q : Fin 16) (f : Queue → Queue) : (s.modQueue q f).stage = s.stage := rfl
@[simp] theorem State.modQueue_freeCount (s : State) (q : Fin 16) (f : Queue → Queue) : (s.modQueue q f).freeCount = s.freeCount := rfl

/-! ### mapQueues -/

@[simp] theorem State.mapQueues_pending (s : State) (f : Fin 16 → Queue → Queue) : (s.mapQueues f).pending = s.pending := by simp only [State.mapQueues]
@[simp] theorem State.mapQueues_format (s : State) (f : Fin 16 → Queue → Queue) : (s.mapQueues f).format = s.format := by simp only [State.mapQueues]
@[simp] theorem State.mapQueues_layout (s : State) (f : Fin 16 → Queue → Queue) : (s.mapQueues f).layout = s.layout := by simp only [State.mapQueues]
@[simp] theorem State.mapQueues_formatting (s : State) (f : Fin 16 → Queue → Queue) : (s.mapQueues f).formatting = s.formatting := by simp only [State.mapQueues]
@[simp] theorem State.mapQueues_profiles (s : State) (f : Fin 16 → Queue → Queue) : (s.mapQueues f).profiles = s.profiles := by simp only [State.mapQueues]
@[simp] theorem State.mapQueues_bands (s : State) (f : Fin 16 → Queue → Queue) : (s.mapQueues f).bands = s.bands := by simp only [State.mapQueues]
@[simp] theorem State.mapQueues_map (s : State) (f : Fin 16 → Queue → Queue) : (s.mapQueues f).map = s.map := by simp only [State.mapQueues]
@[simp] theorem State.mapQueues_sequence (s : State) (f : Fin 16 → Queue → Queue) : (s.mapQueues f).sequence = s.sequence := by simp only [State.mapQueues]
@[simp] theorem State.mapQueues_table (s : State) (f : Fin 16 → Queue → Queue) : (s.mapQueues f).table = s.table := by simp only [State.mapQueues]
@[simp] theorem State.mapQueues_resetRecord (s : State) (f : Fin 16 → Queue → Queue) : (s.mapQueues f).resetRecord = s.resetRecord := by simp only [State.mapQueues]
@[simp] theorem State.mapQueues_resetWaits (s : State) (f : Fin 16 → Queue → Queue) : (s.mapQueues f).resetWaits = s.resetWaits := by simp only [State.mapQueues]
@[simp] theorem State.mapQueues_portA (s : State) (f : Fin 16 → Queue → Queue) : (s.mapQueues f).portA = s.portA := by simp only [State.mapQueues]
@[simp] theorem State.mapQueues_portB (s : State) (f : Fin 16 → Queue → Queue) : (s.mapQueues f).portB = s.portB := by simp only [State.mapQueues]
@[simp] theorem State.mapQueues_scope (s : State) (f : Fin 16 → Queue → Queue) : (s.mapQueues f).scope = s.scope := by simp only [State.mapQueues]
@[simp] theorem State.mapQueues_intervals (s : State) (f : Fin 16 → Queue → Queue) : (s.mapQueues f).intervals = s.intervals := by simp only [State.mapQueues]
@[simp] theorem State.mapQueues_defaultQueue (s : State) (f : Fin 16 → Queue → Queue) : (s.mapQueues f).defaultQueue = s.defaultQueue := by simp only [State.mapQueues]
@[simp] theorem State.mapQueues_lastServed (s : State) (f : Fin 16 → Queue → Queue) : (s.mapQueues f).lastServed = s.lastServed := by simp only [State.mapQueues]
@[simp] theorem State.mapQueues_window (s : State) (f : Fin 16 → Queue → Queue) : (s.mapQueues f).window = s.window := by simp only [State.mapQueues]
@[simp] theorem State.mapQueues_deadline (s : State) (f : Fin 16 → Queue → Queue) : (s.mapQueues f).deadline = s.deadline := by simp only [State.mapQueues]
@[simp] theorem State.mapQueues_path (s : State) (f : Fin 16 → Queue → Queue) : (s.mapQueues f).path = s.path := by simp only [State.mapQueues]
@[simp] theorem State.mapQueues_mediaReset (s : State) (f : Fin 16 → Queue → Queue) : (s.mapQueues f).mediaReset = s.mediaReset := by simp only [State.mapQueues]
@[simp] theorem State.mapQueues_recoveryWait (s : State) (f : Fin 16 → Queue → Queue) : (s.mapQueues f).recoveryWait = s.recoveryWait := by simp only [State.mapQueues]
@[simp] theorem State.mapQueues_startWait (s : State) (f : Fin 16 → Queue → Queue) : (s.mapQueues f).startWait = s.startWait := by simp only [State.mapQueues]
@[simp] theorem State.mapQueues_escalation (s : State) (f : Fin 16 → Queue → Queue) : (s.mapQueues f).escalation = s.escalation := by simp only [State.mapQueues]
@[simp] theorem State.mapQueues_fetchRun (s : State) (f : Fin 16 → Queue → Queue) : (s.mapQueues f).fetchRun = s.fetchRun := by simp only [State.mapQueues]
@[simp] theorem State.mapQueues_orderLimit (s : State) (f : Fin 16 → Queue → Queue) : (s.mapQueues f).orderLimit = s.orderLimit := by simp only [State.mapQueues]
@[simp] theorem State.mapQueues_geometry (s : State) (f : Fin 16 → Queue → Queue) : (s.mapQueues f).geometry = s.geometry := by simp only [State.mapQueues]
@[simp] theorem State.mapQueues_slots (s : State) (f : Fin 16 → Queue → Queue) : (s.mapQueues f).slots = s.slots := by simp only [State.mapQueues]
@[simp] theorem State.mapQueues_fetchList (s : State) (f : Fin 16 → Queue → Queue) : (s.mapQueues f).fetchList = s.fetchList := by simp only [State.mapQueues]
@[simp] theorem State.mapQueues_engine (s : State) (f : Fin 16 → Queue → Queue) : (s.mapQueues f).engine = s.engine := by simp only [State.mapQueues]
@[simp] theorem State.mapQueues_marks (s : State) (f : Fin 16 → Queue → Queue) : (s.mapQueues f).marks = s.marks := by simp only [State.mapQueues]
@[simp] theorem State.mapQueues_spindle (s : State) (f : Fin 16 → Queue → Queue) : (s.mapQueues f).spindle = s.spindle := by simp only [State.mapQueues]
@[simp] theorem State.mapQueues_service (s : State) (f : Fin 16 → Queue → Queue) : (s.mapQueues f).service = s.service := by simp only [State.mapQueues]
@[simp] theorem State.mapQueues_stage (s : State) (f : Fin 16 → Queue → Queue) : (s.mapQueues f).stage = s.stage := by simp only [State.mapQueues]
@[simp] theorem State.mapQueues_freeCount (s : State) (f : Fin 16 → Queue → Queue) : (s.mapQueues f).freeCount = s.freeCount := by simp only [State.mapQueues]

/-! ### clearPoolStalls -/

@[simp] theorem State.clearPoolStalls_pending (s : State) : (s.clearPoolStalls).pending = s.pending := by simp only [State.clearPoolStalls, State.mapQueues]
@[simp] theorem State.clearPoolStalls_format (s : State) : (s.clearPoolStalls).format = s.format := by simp only [State.clearPoolStalls, State.mapQueues]
@[simp] theorem State.clearPoolStalls_layout (s : State) : (s.clearPoolStalls).layout = s.layout := by simp only [State.clearPoolStalls, State.mapQueues]
@[simp] theorem State.clearPoolStalls_formatting (s : State) : (s.clearPoolStalls).formatting = s.formatting := by simp only [State.clearPoolStalls, State.mapQueues]
@[simp] theorem State.clearPoolStalls_profiles (s : State) : (s.clearPoolStalls).profiles = s.profiles := by simp only [State.clearPoolStalls, State.mapQueues]
@[simp] theorem State.clearPoolStalls_bands (s : State) : (s.clearPoolStalls).bands = s.bands := by simp only [State.clearPoolStalls, State.mapQueues]
@[simp] theorem State.clearPoolStalls_map (s : State) : (s.clearPoolStalls).map = s.map := by simp only [State.clearPoolStalls, State.mapQueues]
@[simp] theorem State.clearPoolStalls_sequence (s : State) : (s.clearPoolStalls).sequence = s.sequence := by simp only [State.clearPoolStalls, State.mapQueues]
@[simp] theorem State.clearPoolStalls_table (s : State) : (s.clearPoolStalls).table = s.table := by simp only [State.clearPoolStalls, State.mapQueues]
@[simp] theorem State.clearPoolStalls_resetRecord (s : State) : (s.clearPoolStalls).resetRecord = s.resetRecord := by simp only [State.clearPoolStalls, State.mapQueues]
@[simp] theorem State.clearPoolStalls_resetWaits (s : State) : (s.clearPoolStalls).resetWaits = s.resetWaits := by simp only [State.clearPoolStalls, State.mapQueues]
@[simp] theorem State.clearPoolStalls_portA (s : State) : (s.clearPoolStalls).portA = s.portA := by simp only [State.clearPoolStalls, State.mapQueues]
@[simp] theorem State.clearPoolStalls_portB (s : State) : (s.clearPoolStalls).portB = s.portB := by simp only [State.clearPoolStalls, State.mapQueues]
@[simp] theorem State.clearPoolStalls_scope (s : State) : (s.clearPoolStalls).scope = s.scope := by simp only [State.clearPoolStalls, State.mapQueues]
@[simp] theorem State.clearPoolStalls_intervals (s : State) : (s.clearPoolStalls).intervals = s.intervals := by simp only [State.clearPoolStalls, State.mapQueues]
@[simp] theorem State.clearPoolStalls_defaultQueue (s : State) : (s.clearPoolStalls).defaultQueue = s.defaultQueue := by simp only [State.clearPoolStalls, State.mapQueues]
@[simp] theorem State.clearPoolStalls_lastServed (s : State) : (s.clearPoolStalls).lastServed = s.lastServed := by simp only [State.clearPoolStalls, State.mapQueues]
@[simp] theorem State.clearPoolStalls_window (s : State) : (s.clearPoolStalls).window = s.window := by simp only [State.clearPoolStalls, State.mapQueues]
@[simp] theorem State.clearPoolStalls_deadline (s : State) : (s.clearPoolStalls).deadline = s.deadline := by simp only [State.clearPoolStalls, State.mapQueues]
@[simp] theorem State.clearPoolStalls_path (s : State) : (s.clearPoolStalls).path = s.path := by simp only [State.clearPoolStalls, State.mapQueues]
@[simp] theorem State.clearPoolStalls_mediaReset (s : State) : (s.clearPoolStalls).mediaReset = s.mediaReset := by simp only [State.clearPoolStalls, State.mapQueues]
@[simp] theorem State.clearPoolStalls_recoveryWait (s : State) : (s.clearPoolStalls).recoveryWait = s.recoveryWait := by simp only [State.clearPoolStalls, State.mapQueues]
@[simp] theorem State.clearPoolStalls_startWait (s : State) : (s.clearPoolStalls).startWait = s.startWait := by simp only [State.clearPoolStalls, State.mapQueues]
@[simp] theorem State.clearPoolStalls_escalation (s : State) : (s.clearPoolStalls).escalation = s.escalation := by simp only [State.clearPoolStalls, State.mapQueues]
@[simp] theorem State.clearPoolStalls_fetchRun (s : State) : (s.clearPoolStalls).fetchRun = s.fetchRun := by simp only [State.clearPoolStalls, State.mapQueues]
@[simp] theorem State.clearPoolStalls_orderLimit (s : State) : (s.clearPoolStalls).orderLimit = s.orderLimit := by simp only [State.clearPoolStalls, State.mapQueues]
@[simp] theorem State.clearPoolStalls_geometry (s : State) : (s.clearPoolStalls).geometry = s.geometry := by simp only [State.clearPoolStalls, State.mapQueues]
@[simp] theorem State.clearPoolStalls_slots (s : State) : (s.clearPoolStalls).slots = s.slots := by simp only [State.clearPoolStalls, State.mapQueues]
@[simp] theorem State.clearPoolStalls_fetchList (s : State) : (s.clearPoolStalls).fetchList = s.fetchList := by simp only [State.clearPoolStalls, State.mapQueues]
@[simp] theorem State.clearPoolStalls_engine (s : State) : (s.clearPoolStalls).engine = s.engine := by simp only [State.clearPoolStalls, State.mapQueues]
@[simp] theorem State.clearPoolStalls_marks (s : State) : (s.clearPoolStalls).marks = s.marks := by simp only [State.clearPoolStalls, State.mapQueues]
@[simp] theorem State.clearPoolStalls_spindle (s : State) : (s.clearPoolStalls).spindle = s.spindle := by simp only [State.clearPoolStalls, State.mapQueues]
@[simp] theorem State.clearPoolStalls_service (s : State) : (s.clearPoolStalls).service = s.service := by simp only [State.clearPoolStalls, State.mapQueues]
@[simp] theorem State.clearPoolStalls_stage (s : State) : (s.clearPoolStalls).stage = s.stage := by simp only [State.clearPoolStalls, State.mapQueues]
@[simp] theorem State.clearPoolStalls_freeCount (s : State) : (s.clearPoolStalls).freeCount = s.freeCount := by simp only [State.clearPoolStalls, State.mapQueues]

/-! ### modSlot -/

@[simp] theorem State.modSlot_pending (s : State) (i : Fin 16) (f : FetchSlot → FetchSlot) : (s.modSlot i f).pending = s.pending := rfl
@[simp] theorem State.modSlot_format (s : State) (i : Fin 16) (f : FetchSlot → FetchSlot) : (s.modSlot i f).format = s.format := rfl
@[simp] theorem State.modSlot_layout (s : State) (i : Fin 16) (f : FetchSlot → FetchSlot) : (s.modSlot i f).layout = s.layout := rfl
@[simp] theorem State.modSlot_formatting (s : State) (i : Fin 16) (f : FetchSlot → FetchSlot) : (s.modSlot i f).formatting = s.formatting := rfl
@[simp] theorem State.modSlot_profiles (s : State) (i : Fin 16) (f : FetchSlot → FetchSlot) : (s.modSlot i f).profiles = s.profiles := rfl
@[simp] theorem State.modSlot_bands (s : State) (i : Fin 16) (f : FetchSlot → FetchSlot) : (s.modSlot i f).bands = s.bands := rfl
@[simp] theorem State.modSlot_map (s : State) (i : Fin 16) (f : FetchSlot → FetchSlot) : (s.modSlot i f).map = s.map := rfl
@[simp] theorem State.modSlot_sequence (s : State) (i : Fin 16) (f : FetchSlot → FetchSlot) : (s.modSlot i f).sequence = s.sequence := rfl
@[simp] theorem State.modSlot_table (s : State) (i : Fin 16) (f : FetchSlot → FetchSlot) : (s.modSlot i f).table = s.table := rfl
@[simp] theorem State.modSlot_resetRecord (s : State) (i : Fin 16) (f : FetchSlot → FetchSlot) : (s.modSlot i f).resetRecord = s.resetRecord := rfl
@[simp] theorem State.modSlot_resetWaits (s : State) (i : Fin 16) (f : FetchSlot → FetchSlot) : (s.modSlot i f).resetWaits = s.resetWaits := rfl
@[simp] theorem State.modSlot_portA (s : State) (i : Fin 16) (f : FetchSlot → FetchSlot) : (s.modSlot i f).portA = s.portA := rfl
@[simp] theorem State.modSlot_portB (s : State) (i : Fin 16) (f : FetchSlot → FetchSlot) : (s.modSlot i f).portB = s.portB := rfl
@[simp] theorem State.modSlot_scope (s : State) (i : Fin 16) (f : FetchSlot → FetchSlot) : (s.modSlot i f).scope = s.scope := rfl
@[simp] theorem State.modSlot_intervals (s : State) (i : Fin 16) (f : FetchSlot → FetchSlot) : (s.modSlot i f).intervals = s.intervals := rfl
@[simp] theorem State.modSlot_defaultQueue (s : State) (i : Fin 16) (f : FetchSlot → FetchSlot) : (s.modSlot i f).defaultQueue = s.defaultQueue := rfl
@[simp] theorem State.modSlot_queues (s : State) (i : Fin 16) (f : FetchSlot → FetchSlot) : (s.modSlot i f).queues = s.queues := rfl
@[simp] theorem State.modSlot_lastServed (s : State) (i : Fin 16) (f : FetchSlot → FetchSlot) : (s.modSlot i f).lastServed = s.lastServed := rfl
@[simp] theorem State.modSlot_window (s : State) (i : Fin 16) (f : FetchSlot → FetchSlot) : (s.modSlot i f).window = s.window := rfl
@[simp] theorem State.modSlot_deadline (s : State) (i : Fin 16) (f : FetchSlot → FetchSlot) : (s.modSlot i f).deadline = s.deadline := rfl
@[simp] theorem State.modSlot_path (s : State) (i : Fin 16) (f : FetchSlot → FetchSlot) : (s.modSlot i f).path = s.path := rfl
@[simp] theorem State.modSlot_mediaReset (s : State) (i : Fin 16) (f : FetchSlot → FetchSlot) : (s.modSlot i f).mediaReset = s.mediaReset := rfl
@[simp] theorem State.modSlot_recoveryWait (s : State) (i : Fin 16) (f : FetchSlot → FetchSlot) : (s.modSlot i f).recoveryWait = s.recoveryWait := rfl
@[simp] theorem State.modSlot_startWait (s : State) (i : Fin 16) (f : FetchSlot → FetchSlot) : (s.modSlot i f).startWait = s.startWait := rfl
@[simp] theorem State.modSlot_escalation (s : State) (i : Fin 16) (f : FetchSlot → FetchSlot) : (s.modSlot i f).escalation = s.escalation := rfl
@[simp] theorem State.modSlot_fetchRun (s : State) (i : Fin 16) (f : FetchSlot → FetchSlot) : (s.modSlot i f).fetchRun = s.fetchRun := rfl
@[simp] theorem State.modSlot_orderLimit (s : State) (i : Fin 16) (f : FetchSlot → FetchSlot) : (s.modSlot i f).orderLimit = s.orderLimit := rfl
@[simp] theorem State.modSlot_geometry (s : State) (i : Fin 16) (f : FetchSlot → FetchSlot) : (s.modSlot i f).geometry = s.geometry := rfl
@[simp] theorem State.modSlot_fetchList (s : State) (i : Fin 16) (f : FetchSlot → FetchSlot) : (s.modSlot i f).fetchList = s.fetchList := rfl
@[simp] theorem State.modSlot_engine (s : State) (i : Fin 16) (f : FetchSlot → FetchSlot) : (s.modSlot i f).engine = s.engine := rfl
@[simp] theorem State.modSlot_marks (s : State) (i : Fin 16) (f : FetchSlot → FetchSlot) : (s.modSlot i f).marks = s.marks := rfl
@[simp] theorem State.modSlot_spindle (s : State) (i : Fin 16) (f : FetchSlot → FetchSlot) : (s.modSlot i f).spindle = s.spindle := rfl
@[simp] theorem State.modSlot_service (s : State) (i : Fin 16) (f : FetchSlot → FetchSlot) : (s.modSlot i f).service = s.service := rfl
@[simp] theorem State.modSlot_stage (s : State) (i : Fin 16) (f : FetchSlot → FetchSlot) : (s.modSlot i f).stage = s.stage := rfl
@[simp] theorem State.modSlot_freeCount (s : State) (i : Fin 16) (f : FetchSlot → FetchSlot) : (s.modSlot i f).freeCount = s.freeCount := rfl

/-! ### mapSlots -/

@[simp] theorem State.mapSlots_pending (s : State) (f : Fin 16 → FetchSlot → FetchSlot) : (s.mapSlots f).pending = s.pending := by simp only [State.mapSlots]
@[simp] theorem State.mapSlots_format (s : State) (f : Fin 16 → FetchSlot → FetchSlot) : (s.mapSlots f).format = s.format := by simp only [State.mapSlots]
@[simp] theorem State.mapSlots_layout (s : State) (f : Fin 16 → FetchSlot → FetchSlot) : (s.mapSlots f).layout = s.layout := by simp only [State.mapSlots]
@[simp] theorem State.mapSlots_formatting (s : State) (f : Fin 16 → FetchSlot → FetchSlot) : (s.mapSlots f).formatting = s.formatting := by simp only [State.mapSlots]
@[simp] theorem State.mapSlots_profiles (s : State) (f : Fin 16 → FetchSlot → FetchSlot) : (s.mapSlots f).profiles = s.profiles := by simp only [State.mapSlots]
@[simp] theorem State.mapSlots_bands (s : State) (f : Fin 16 → FetchSlot → FetchSlot) : (s.mapSlots f).bands = s.bands := by simp only [State.mapSlots]
@[simp] theorem State.mapSlots_map (s : State) (f : Fin 16 → FetchSlot → FetchSlot) : (s.mapSlots f).map = s.map := by simp only [State.mapSlots]
@[simp] theorem State.mapSlots_sequence (s : State) (f : Fin 16 → FetchSlot → FetchSlot) : (s.mapSlots f).sequence = s.sequence := by simp only [State.mapSlots]
@[simp] theorem State.mapSlots_table (s : State) (f : Fin 16 → FetchSlot → FetchSlot) : (s.mapSlots f).table = s.table := by simp only [State.mapSlots]
@[simp] theorem State.mapSlots_resetRecord (s : State) (f : Fin 16 → FetchSlot → FetchSlot) : (s.mapSlots f).resetRecord = s.resetRecord := by simp only [State.mapSlots]
@[simp] theorem State.mapSlots_resetWaits (s : State) (f : Fin 16 → FetchSlot → FetchSlot) : (s.mapSlots f).resetWaits = s.resetWaits := by simp only [State.mapSlots]
@[simp] theorem State.mapSlots_portA (s : State) (f : Fin 16 → FetchSlot → FetchSlot) : (s.mapSlots f).portA = s.portA := by simp only [State.mapSlots]
@[simp] theorem State.mapSlots_portB (s : State) (f : Fin 16 → FetchSlot → FetchSlot) : (s.mapSlots f).portB = s.portB := by simp only [State.mapSlots]
@[simp] theorem State.mapSlots_scope (s : State) (f : Fin 16 → FetchSlot → FetchSlot) : (s.mapSlots f).scope = s.scope := by simp only [State.mapSlots]
@[simp] theorem State.mapSlots_intervals (s : State) (f : Fin 16 → FetchSlot → FetchSlot) : (s.mapSlots f).intervals = s.intervals := by simp only [State.mapSlots]
@[simp] theorem State.mapSlots_defaultQueue (s : State) (f : Fin 16 → FetchSlot → FetchSlot) : (s.mapSlots f).defaultQueue = s.defaultQueue := by simp only [State.mapSlots]
@[simp] theorem State.mapSlots_queues (s : State) (f : Fin 16 → FetchSlot → FetchSlot) : (s.mapSlots f).queues = s.queues := by simp only [State.mapSlots]
@[simp] theorem State.mapSlots_lastServed (s : State) (f : Fin 16 → FetchSlot → FetchSlot) : (s.mapSlots f).lastServed = s.lastServed := by simp only [State.mapSlots]
@[simp] theorem State.mapSlots_window (s : State) (f : Fin 16 → FetchSlot → FetchSlot) : (s.mapSlots f).window = s.window := by simp only [State.mapSlots]
@[simp] theorem State.mapSlots_deadline (s : State) (f : Fin 16 → FetchSlot → FetchSlot) : (s.mapSlots f).deadline = s.deadline := by simp only [State.mapSlots]
@[simp] theorem State.mapSlots_path (s : State) (f : Fin 16 → FetchSlot → FetchSlot) : (s.mapSlots f).path = s.path := by simp only [State.mapSlots]
@[simp] theorem State.mapSlots_mediaReset (s : State) (f : Fin 16 → FetchSlot → FetchSlot) : (s.mapSlots f).mediaReset = s.mediaReset := by simp only [State.mapSlots]
@[simp] theorem State.mapSlots_recoveryWait (s : State) (f : Fin 16 → FetchSlot → FetchSlot) : (s.mapSlots f).recoveryWait = s.recoveryWait := by simp only [State.mapSlots]
@[simp] theorem State.mapSlots_startWait (s : State) (f : Fin 16 → FetchSlot → FetchSlot) : (s.mapSlots f).startWait = s.startWait := by simp only [State.mapSlots]
@[simp] theorem State.mapSlots_escalation (s : State) (f : Fin 16 → FetchSlot → FetchSlot) : (s.mapSlots f).escalation = s.escalation := by simp only [State.mapSlots]
@[simp] theorem State.mapSlots_fetchRun (s : State) (f : Fin 16 → FetchSlot → FetchSlot) : (s.mapSlots f).fetchRun = s.fetchRun := by simp only [State.mapSlots]
@[simp] theorem State.mapSlots_orderLimit (s : State) (f : Fin 16 → FetchSlot → FetchSlot) : (s.mapSlots f).orderLimit = s.orderLimit := by simp only [State.mapSlots]
@[simp] theorem State.mapSlots_geometry (s : State) (f : Fin 16 → FetchSlot → FetchSlot) : (s.mapSlots f).geometry = s.geometry := by simp only [State.mapSlots]
@[simp] theorem State.mapSlots_fetchList (s : State) (f : Fin 16 → FetchSlot → FetchSlot) : (s.mapSlots f).fetchList = s.fetchList := by simp only [State.mapSlots]
@[simp] theorem State.mapSlots_engine (s : State) (f : Fin 16 → FetchSlot → FetchSlot) : (s.mapSlots f).engine = s.engine := by simp only [State.mapSlots]
@[simp] theorem State.mapSlots_marks (s : State) (f : Fin 16 → FetchSlot → FetchSlot) : (s.mapSlots f).marks = s.marks := by simp only [State.mapSlots]
@[simp] theorem State.mapSlots_spindle (s : State) (f : Fin 16 → FetchSlot → FetchSlot) : (s.mapSlots f).spindle = s.spindle := by simp only [State.mapSlots]
@[simp] theorem State.mapSlots_service (s : State) (f : Fin 16 → FetchSlot → FetchSlot) : (s.mapSlots f).service = s.service := by simp only [State.mapSlots]
@[simp] theorem State.mapSlots_stage (s : State) (f : Fin 16 → FetchSlot → FetchSlot) : (s.mapSlots f).stage = s.stage := by simp only [State.mapSlots]
@[simp] theorem State.mapSlots_freeCount (s : State) (f : Fin 16 → FetchSlot → FetchSlot) : (s.mapSlots f).freeCount = s.freeCount := by simp only [State.mapSlots]

/-! ### modBand -/

@[simp] theorem State.modBand_pending (s : State) (b : Nat) (f : Band → Band) : (s.modBand b f).pending = s.pending := rfl
@[simp] theorem State.modBand_format (s : State) (b : Nat) (f : Band → Band) : (s.modBand b f).format = s.format := rfl
@[simp] theorem State.modBand_layout (s : State) (b : Nat) (f : Band → Band) : (s.modBand b f).layout = s.layout := rfl
@[simp] theorem State.modBand_formatting (s : State) (b : Nat) (f : Band → Band) : (s.modBand b f).formatting = s.formatting := rfl
@[simp] theorem State.modBand_profiles (s : State) (b : Nat) (f : Band → Band) : (s.modBand b f).profiles = s.profiles := rfl
@[simp] theorem State.modBand_map (s : State) (b : Nat) (f : Band → Band) : (s.modBand b f).map = s.map := rfl
@[simp] theorem State.modBand_sequence (s : State) (b : Nat) (f : Band → Band) : (s.modBand b f).sequence = s.sequence := rfl
@[simp] theorem State.modBand_table (s : State) (b : Nat) (f : Band → Band) : (s.modBand b f).table = s.table := rfl
@[simp] theorem State.modBand_resetRecord (s : State) (b : Nat) (f : Band → Band) : (s.modBand b f).resetRecord = s.resetRecord := rfl
@[simp] theorem State.modBand_resetWaits (s : State) (b : Nat) (f : Band → Band) : (s.modBand b f).resetWaits = s.resetWaits := rfl
@[simp] theorem State.modBand_portA (s : State) (b : Nat) (f : Band → Band) : (s.modBand b f).portA = s.portA := rfl
@[simp] theorem State.modBand_portB (s : State) (b : Nat) (f : Band → Band) : (s.modBand b f).portB = s.portB := rfl
@[simp] theorem State.modBand_scope (s : State) (b : Nat) (f : Band → Band) : (s.modBand b f).scope = s.scope := rfl
@[simp] theorem State.modBand_intervals (s : State) (b : Nat) (f : Band → Band) : (s.modBand b f).intervals = s.intervals := rfl
@[simp] theorem State.modBand_defaultQueue (s : State) (b : Nat) (f : Band → Band) : (s.modBand b f).defaultQueue = s.defaultQueue := rfl
@[simp] theorem State.modBand_queues (s : State) (b : Nat) (f : Band → Band) : (s.modBand b f).queues = s.queues := rfl
@[simp] theorem State.modBand_lastServed (s : State) (b : Nat) (f : Band → Band) : (s.modBand b f).lastServed = s.lastServed := rfl
@[simp] theorem State.modBand_window (s : State) (b : Nat) (f : Band → Band) : (s.modBand b f).window = s.window := rfl
@[simp] theorem State.modBand_deadline (s : State) (b : Nat) (f : Band → Band) : (s.modBand b f).deadline = s.deadline := rfl
@[simp] theorem State.modBand_path (s : State) (b : Nat) (f : Band → Band) : (s.modBand b f).path = s.path := rfl
@[simp] theorem State.modBand_mediaReset (s : State) (b : Nat) (f : Band → Band) : (s.modBand b f).mediaReset = s.mediaReset := rfl
@[simp] theorem State.modBand_recoveryWait (s : State) (b : Nat) (f : Band → Band) : (s.modBand b f).recoveryWait = s.recoveryWait := rfl
@[simp] theorem State.modBand_startWait (s : State) (b : Nat) (f : Band → Band) : (s.modBand b f).startWait = s.startWait := rfl
@[simp] theorem State.modBand_escalation (s : State) (b : Nat) (f : Band → Band) : (s.modBand b f).escalation = s.escalation := rfl
@[simp] theorem State.modBand_fetchRun (s : State) (b : Nat) (f : Band → Band) : (s.modBand b f).fetchRun = s.fetchRun := rfl
@[simp] theorem State.modBand_orderLimit (s : State) (b : Nat) (f : Band → Band) : (s.modBand b f).orderLimit = s.orderLimit := rfl
@[simp] theorem State.modBand_geometry (s : State) (b : Nat) (f : Band → Band) : (s.modBand b f).geometry = s.geometry := rfl
@[simp] theorem State.modBand_slots (s : State) (b : Nat) (f : Band → Band) : (s.modBand b f).slots = s.slots := rfl
@[simp] theorem State.modBand_fetchList (s : State) (b : Nat) (f : Band → Band) : (s.modBand b f).fetchList = s.fetchList := rfl
@[simp] theorem State.modBand_engine (s : State) (b : Nat) (f : Band → Band) : (s.modBand b f).engine = s.engine := rfl
@[simp] theorem State.modBand_marks (s : State) (b : Nat) (f : Band → Band) : (s.modBand b f).marks = s.marks := rfl
@[simp] theorem State.modBand_spindle (s : State) (b : Nat) (f : Band → Band) : (s.modBand b f).spindle = s.spindle := rfl
@[simp] theorem State.modBand_service (s : State) (b : Nat) (f : Band → Band) : (s.modBand b f).service = s.service := rfl
@[simp] theorem State.modBand_stage (s : State) (b : Nat) (f : Band → Band) : (s.modBand b f).stage = s.stage := rfl
@[simp] theorem State.modBand_freeCount (s : State) (b : Nat) (f : Band → Band) : (s.modBand b f).freeCount = s.freeCount := rfl

/-! ### mapBands -/

@[simp] theorem State.mapBands_pending (s : State) (f : Band → Band) : (s.mapBands f).pending = s.pending := rfl
@[simp] theorem State.mapBands_format (s : State) (f : Band → Band) : (s.mapBands f).format = s.format := rfl
@[simp] theorem State.mapBands_layout (s : State) (f : Band → Band) : (s.mapBands f).layout = s.layout := rfl
@[simp] theorem State.mapBands_formatting (s : State) (f : Band → Band) : (s.mapBands f).formatting = s.formatting := rfl
@[simp] theorem State.mapBands_profiles (s : State) (f : Band → Band) : (s.mapBands f).profiles = s.profiles := rfl
@[simp] theorem State.mapBands_map (s : State) (f : Band → Band) : (s.mapBands f).map = s.map := rfl
@[simp] theorem State.mapBands_sequence (s : State) (f : Band → Band) : (s.mapBands f).sequence = s.sequence := rfl
@[simp] theorem State.mapBands_table (s : State) (f : Band → Band) : (s.mapBands f).table = s.table := rfl
@[simp] theorem State.mapBands_resetRecord (s : State) (f : Band → Band) : (s.mapBands f).resetRecord = s.resetRecord := rfl
@[simp] theorem State.mapBands_resetWaits (s : State) (f : Band → Band) : (s.mapBands f).resetWaits = s.resetWaits := rfl
@[simp] theorem State.mapBands_portA (s : State) (f : Band → Band) : (s.mapBands f).portA = s.portA := rfl
@[simp] theorem State.mapBands_portB (s : State) (f : Band → Band) : (s.mapBands f).portB = s.portB := rfl
@[simp] theorem State.mapBands_scope (s : State) (f : Band → Band) : (s.mapBands f).scope = s.scope := rfl
@[simp] theorem State.mapBands_intervals (s : State) (f : Band → Band) : (s.mapBands f).intervals = s.intervals := rfl
@[simp] theorem State.mapBands_defaultQueue (s : State) (f : Band → Band) : (s.mapBands f).defaultQueue = s.defaultQueue := rfl
@[simp] theorem State.mapBands_queues (s : State) (f : Band → Band) : (s.mapBands f).queues = s.queues := rfl
@[simp] theorem State.mapBands_lastServed (s : State) (f : Band → Band) : (s.mapBands f).lastServed = s.lastServed := rfl
@[simp] theorem State.mapBands_window (s : State) (f : Band → Band) : (s.mapBands f).window = s.window := rfl
@[simp] theorem State.mapBands_deadline (s : State) (f : Band → Band) : (s.mapBands f).deadline = s.deadline := rfl
@[simp] theorem State.mapBands_path (s : State) (f : Band → Band) : (s.mapBands f).path = s.path := rfl
@[simp] theorem State.mapBands_mediaReset (s : State) (f : Band → Band) : (s.mapBands f).mediaReset = s.mediaReset := rfl
@[simp] theorem State.mapBands_recoveryWait (s : State) (f : Band → Band) : (s.mapBands f).recoveryWait = s.recoveryWait := rfl
@[simp] theorem State.mapBands_startWait (s : State) (f : Band → Band) : (s.mapBands f).startWait = s.startWait := rfl
@[simp] theorem State.mapBands_escalation (s : State) (f : Band → Band) : (s.mapBands f).escalation = s.escalation := rfl
@[simp] theorem State.mapBands_fetchRun (s : State) (f : Band → Band) : (s.mapBands f).fetchRun = s.fetchRun := rfl
@[simp] theorem State.mapBands_orderLimit (s : State) (f : Band → Band) : (s.mapBands f).orderLimit = s.orderLimit := rfl
@[simp] theorem State.mapBands_geometry (s : State) (f : Band → Band) : (s.mapBands f).geometry = s.geometry := rfl
@[simp] theorem State.mapBands_slots (s : State) (f : Band → Band) : (s.mapBands f).slots = s.slots := rfl
@[simp] theorem State.mapBands_fetchList (s : State) (f : Band → Band) : (s.mapBands f).fetchList = s.fetchList := rfl
@[simp] theorem State.mapBands_engine (s : State) (f : Band → Band) : (s.mapBands f).engine = s.engine := rfl
@[simp] theorem State.mapBands_marks (s : State) (f : Band → Band) : (s.mapBands f).marks = s.marks := rfl
@[simp] theorem State.mapBands_spindle (s : State) (f : Band → Band) : (s.mapBands f).spindle = s.spindle := rfl
@[simp] theorem State.mapBands_service (s : State) (f : Band → Band) : (s.mapBands f).service = s.service := rfl
@[simp] theorem State.mapBands_stage (s : State) (f : Band → Band) : (s.mapBands f).stage = s.stage := rfl
@[simp] theorem State.mapBands_freeCount (s : State) (f : Band → Band) : (s.mapBands f).freeCount = s.freeCount := rfl

/-! ### setSuspect -/

@[simp] theorem State.setSuspect_pending (s : State) (b : Nat) : (s.setSuspect b).pending = s.pending := rfl
@[simp] theorem State.setSuspect_format (s : State) (b : Nat) : (s.setSuspect b).format = s.format := rfl
@[simp] theorem State.setSuspect_layout (s : State) (b : Nat) : (s.setSuspect b).layout = s.layout := rfl
@[simp] theorem State.setSuspect_formatting (s : State) (b : Nat) : (s.setSuspect b).formatting = s.formatting := rfl
@[simp] theorem State.setSuspect_profiles (s : State) (b : Nat) : (s.setSuspect b).profiles = s.profiles := rfl
@[simp] theorem State.setSuspect_map (s : State) (b : Nat) : (s.setSuspect b).map = s.map := rfl
@[simp] theorem State.setSuspect_sequence (s : State) (b : Nat) : (s.setSuspect b).sequence = s.sequence := rfl
@[simp] theorem State.setSuspect_table (s : State) (b : Nat) : (s.setSuspect b).table = s.table := rfl
@[simp] theorem State.setSuspect_resetRecord (s : State) (b : Nat) : (s.setSuspect b).resetRecord = s.resetRecord := rfl
@[simp] theorem State.setSuspect_resetWaits (s : State) (b : Nat) : (s.setSuspect b).resetWaits = s.resetWaits := rfl
@[simp] theorem State.setSuspect_portA (s : State) (b : Nat) : (s.setSuspect b).portA = s.portA := rfl
@[simp] theorem State.setSuspect_portB (s : State) (b : Nat) : (s.setSuspect b).portB = s.portB := rfl
@[simp] theorem State.setSuspect_scope (s : State) (b : Nat) : (s.setSuspect b).scope = s.scope := rfl
@[simp] theorem State.setSuspect_intervals (s : State) (b : Nat) : (s.setSuspect b).intervals = s.intervals := rfl
@[simp] theorem State.setSuspect_defaultQueue (s : State) (b : Nat) : (s.setSuspect b).defaultQueue = s.defaultQueue := rfl
@[simp] theorem State.setSuspect_queues (s : State) (b : Nat) : (s.setSuspect b).queues = s.queues := rfl
@[simp] theorem State.setSuspect_lastServed (s : State) (b : Nat) : (s.setSuspect b).lastServed = s.lastServed := rfl
@[simp] theorem State.setSuspect_window (s : State) (b : Nat) : (s.setSuspect b).window = s.window := rfl
@[simp] theorem State.setSuspect_deadline (s : State) (b : Nat) : (s.setSuspect b).deadline = s.deadline := rfl
@[simp] theorem State.setSuspect_path (s : State) (b : Nat) : (s.setSuspect b).path = s.path := rfl
@[simp] theorem State.setSuspect_mediaReset (s : State) (b : Nat) : (s.setSuspect b).mediaReset = s.mediaReset := rfl
@[simp] theorem State.setSuspect_recoveryWait (s : State) (b : Nat) : (s.setSuspect b).recoveryWait = s.recoveryWait := rfl
@[simp] theorem State.setSuspect_startWait (s : State) (b : Nat) : (s.setSuspect b).startWait = s.startWait := rfl
@[simp] theorem State.setSuspect_escalation (s : State) (b : Nat) : (s.setSuspect b).escalation = s.escalation := rfl
@[simp] theorem State.setSuspect_fetchRun (s : State) (b : Nat) : (s.setSuspect b).fetchRun = s.fetchRun := rfl
@[simp] theorem State.setSuspect_orderLimit (s : State) (b : Nat) : (s.setSuspect b).orderLimit = s.orderLimit := rfl
@[simp] theorem State.setSuspect_geometry (s : State) (b : Nat) : (s.setSuspect b).geometry = s.geometry := rfl
@[simp] theorem State.setSuspect_slots (s : State) (b : Nat) : (s.setSuspect b).slots = s.slots := rfl
@[simp] theorem State.setSuspect_fetchList (s : State) (b : Nat) : (s.setSuspect b).fetchList = s.fetchList := rfl
@[simp] theorem State.setSuspect_engine (s : State) (b : Nat) : (s.setSuspect b).engine = s.engine := rfl
@[simp] theorem State.setSuspect_marks (s : State) (b : Nat) : (s.setSuspect b).marks = s.marks := rfl
@[simp] theorem State.setSuspect_spindle (s : State) (b : Nat) : (s.setSuspect b).spindle = s.spindle := rfl
@[simp] theorem State.setSuspect_service (s : State) (b : Nat) : (s.setSuspect b).service = s.service := rfl
@[simp] theorem State.setSuspect_stage (s : State) (b : Nat) : (s.setSuspect b).stage = s.stage := rfl
@[simp] theorem State.setSuspect_freeCount (s : State) (b : Nat) : (s.setSuspect b).freeCount = s.freeCount := rfl

/-! ### claimRead -/

@[simp] theorem State.claimRead_pending (s : State) (b : Nat) : (s.claimRead b).pending = s.pending := rfl
@[simp] theorem State.claimRead_format (s : State) (b : Nat) : (s.claimRead b).format = s.format := rfl
@[simp] theorem State.claimRead_layout (s : State) (b : Nat) : (s.claimRead b).layout = s.layout := rfl
@[simp] theorem State.claimRead_formatting (s : State) (b : Nat) : (s.claimRead b).formatting = s.formatting := rfl
@[simp] theorem State.claimRead_profiles (s : State) (b : Nat) : (s.claimRead b).profiles = s.profiles := rfl
@[simp] theorem State.claimRead_map (s : State) (b : Nat) : (s.claimRead b).map = s.map := rfl
@[simp] theorem State.claimRead_sequence (s : State) (b : Nat) : (s.claimRead b).sequence = s.sequence := rfl
@[simp] theorem State.claimRead_table (s : State) (b : Nat) : (s.claimRead b).table = s.table := rfl
@[simp] theorem State.claimRead_resetRecord (s : State) (b : Nat) : (s.claimRead b).resetRecord = s.resetRecord := rfl
@[simp] theorem State.claimRead_resetWaits (s : State) (b : Nat) : (s.claimRead b).resetWaits = s.resetWaits := rfl
@[simp] theorem State.claimRead_portA (s : State) (b : Nat) : (s.claimRead b).portA = s.portA := rfl
@[simp] theorem State.claimRead_portB (s : State) (b : Nat) : (s.claimRead b).portB = s.portB := rfl
@[simp] theorem State.claimRead_scope (s : State) (b : Nat) : (s.claimRead b).scope = s.scope := rfl
@[simp] theorem State.claimRead_intervals (s : State) (b : Nat) : (s.claimRead b).intervals = s.intervals := rfl
@[simp] theorem State.claimRead_defaultQueue (s : State) (b : Nat) : (s.claimRead b).defaultQueue = s.defaultQueue := rfl
@[simp] theorem State.claimRead_queues (s : State) (b : Nat) : (s.claimRead b).queues = s.queues := rfl
@[simp] theorem State.claimRead_lastServed (s : State) (b : Nat) : (s.claimRead b).lastServed = s.lastServed := rfl
@[simp] theorem State.claimRead_window (s : State) (b : Nat) : (s.claimRead b).window = s.window := rfl
@[simp] theorem State.claimRead_deadline (s : State) (b : Nat) : (s.claimRead b).deadline = s.deadline := rfl
@[simp] theorem State.claimRead_path (s : State) (b : Nat) : (s.claimRead b).path = s.path := rfl
@[simp] theorem State.claimRead_mediaReset (s : State) (b : Nat) : (s.claimRead b).mediaReset = s.mediaReset := rfl
@[simp] theorem State.claimRead_recoveryWait (s : State) (b : Nat) : (s.claimRead b).recoveryWait = s.recoveryWait := rfl
@[simp] theorem State.claimRead_startWait (s : State) (b : Nat) : (s.claimRead b).startWait = s.startWait := rfl
@[simp] theorem State.claimRead_escalation (s : State) (b : Nat) : (s.claimRead b).escalation = s.escalation := rfl
@[simp] theorem State.claimRead_fetchRun (s : State) (b : Nat) : (s.claimRead b).fetchRun = s.fetchRun := rfl
@[simp] theorem State.claimRead_orderLimit (s : State) (b : Nat) : (s.claimRead b).orderLimit = s.orderLimit := rfl
@[simp] theorem State.claimRead_geometry (s : State) (b : Nat) : (s.claimRead b).geometry = s.geometry := rfl
@[simp] theorem State.claimRead_slots (s : State) (b : Nat) : (s.claimRead b).slots = s.slots := rfl
@[simp] theorem State.claimRead_fetchList (s : State) (b : Nat) : (s.claimRead b).fetchList = s.fetchList := rfl
@[simp] theorem State.claimRead_engine (s : State) (b : Nat) : (s.claimRead b).engine = s.engine := rfl
@[simp] theorem State.claimRead_marks (s : State) (b : Nat) : (s.claimRead b).marks = s.marks := rfl
@[simp] theorem State.claimRead_spindle (s : State) (b : Nat) : (s.claimRead b).spindle = s.spindle := rfl
@[simp] theorem State.claimRead_service (s : State) (b : Nat) : (s.claimRead b).service = s.service := rfl
@[simp] theorem State.claimRead_stage (s : State) (b : Nat) : (s.claimRead b).stage = s.stage := rfl
@[simp] theorem State.claimRead_freeCount (s : State) (b : Nat) : (s.claimRead b).freeCount = s.freeCount := rfl

/-! ### modProfile -/

@[simp] theorem State.modProfile_pending (s : State) (n : Nat) (f : Profile → Profile) : (s.modProfile n f).pending = s.pending := by unfold State.modProfile; split <;> rfl
@[simp] theorem State.modProfile_format (s : State) (n : Nat) (f : Profile → Profile) : (s.modProfile n f).format = s.format := by unfold State.modProfile; split <;> rfl
@[simp] theorem State.modProfile_layout (s : State) (n : Nat) (f : Profile → Profile) : (s.modProfile n f).layout = s.layout := by unfold State.modProfile; split <;> rfl
@[simp] theorem State.modProfile_formatting (s : State) (n : Nat) (f : Profile → Profile) : (s.modProfile n f).formatting = s.formatting := by unfold State.modProfile; split <;> rfl
@[simp] theorem State.modProfile_bands (s : State) (n : Nat) (f : Profile → Profile) : (s.modProfile n f).bands = s.bands := by unfold State.modProfile; split <;> rfl
@[simp] theorem State.modProfile_map (s : State) (n : Nat) (f : Profile → Profile) : (s.modProfile n f).map = s.map := by unfold State.modProfile; split <;> rfl
@[simp] theorem State.modProfile_sequence (s : State) (n : Nat) (f : Profile → Profile) : (s.modProfile n f).sequence = s.sequence := by unfold State.modProfile; split <;> rfl
@[simp] theorem State.modProfile_table (s : State) (n : Nat) (f : Profile → Profile) : (s.modProfile n f).table = s.table := by unfold State.modProfile; split <;> rfl
@[simp] theorem State.modProfile_resetRecord (s : State) (n : Nat) (f : Profile → Profile) : (s.modProfile n f).resetRecord = s.resetRecord := by unfold State.modProfile; split <;> rfl
@[simp] theorem State.modProfile_resetWaits (s : State) (n : Nat) (f : Profile → Profile) : (s.modProfile n f).resetWaits = s.resetWaits := by unfold State.modProfile; split <;> rfl
@[simp] theorem State.modProfile_portA (s : State) (n : Nat) (f : Profile → Profile) : (s.modProfile n f).portA = s.portA := by unfold State.modProfile; split <;> rfl
@[simp] theorem State.modProfile_portB (s : State) (n : Nat) (f : Profile → Profile) : (s.modProfile n f).portB = s.portB := by unfold State.modProfile; split <;> rfl
@[simp] theorem State.modProfile_scope (s : State) (n : Nat) (f : Profile → Profile) : (s.modProfile n f).scope = s.scope := by unfold State.modProfile; split <;> rfl
@[simp] theorem State.modProfile_intervals (s : State) (n : Nat) (f : Profile → Profile) : (s.modProfile n f).intervals = s.intervals := by unfold State.modProfile; split <;> rfl
@[simp] theorem State.modProfile_defaultQueue (s : State) (n : Nat) (f : Profile → Profile) : (s.modProfile n f).defaultQueue = s.defaultQueue := by unfold State.modProfile; split <;> rfl
@[simp] theorem State.modProfile_queues (s : State) (n : Nat) (f : Profile → Profile) : (s.modProfile n f).queues = s.queues := by unfold State.modProfile; split <;> rfl
@[simp] theorem State.modProfile_lastServed (s : State) (n : Nat) (f : Profile → Profile) : (s.modProfile n f).lastServed = s.lastServed := by unfold State.modProfile; split <;> rfl
@[simp] theorem State.modProfile_window (s : State) (n : Nat) (f : Profile → Profile) : (s.modProfile n f).window = s.window := by unfold State.modProfile; split <;> rfl
@[simp] theorem State.modProfile_deadline (s : State) (n : Nat) (f : Profile → Profile) : (s.modProfile n f).deadline = s.deadline := by unfold State.modProfile; split <;> rfl
@[simp] theorem State.modProfile_path (s : State) (n : Nat) (f : Profile → Profile) : (s.modProfile n f).path = s.path := by unfold State.modProfile; split <;> rfl
@[simp] theorem State.modProfile_mediaReset (s : State) (n : Nat) (f : Profile → Profile) : (s.modProfile n f).mediaReset = s.mediaReset := by unfold State.modProfile; split <;> rfl
@[simp] theorem State.modProfile_recoveryWait (s : State) (n : Nat) (f : Profile → Profile) : (s.modProfile n f).recoveryWait = s.recoveryWait := by unfold State.modProfile; split <;> rfl
@[simp] theorem State.modProfile_startWait (s : State) (n : Nat) (f : Profile → Profile) : (s.modProfile n f).startWait = s.startWait := by unfold State.modProfile; split <;> rfl
@[simp] theorem State.modProfile_escalation (s : State) (n : Nat) (f : Profile → Profile) : (s.modProfile n f).escalation = s.escalation := by unfold State.modProfile; split <;> rfl
@[simp] theorem State.modProfile_fetchRun (s : State) (n : Nat) (f : Profile → Profile) : (s.modProfile n f).fetchRun = s.fetchRun := by unfold State.modProfile; split <;> rfl
@[simp] theorem State.modProfile_orderLimit (s : State) (n : Nat) (f : Profile → Profile) : (s.modProfile n f).orderLimit = s.orderLimit := by unfold State.modProfile; split <;> rfl
@[simp] theorem State.modProfile_geometry (s : State) (n : Nat) (f : Profile → Profile) : (s.modProfile n f).geometry = s.geometry := by unfold State.modProfile; split <;> rfl
@[simp] theorem State.modProfile_slots (s : State) (n : Nat) (f : Profile → Profile) : (s.modProfile n f).slots = s.slots := by unfold State.modProfile; split <;> rfl
@[simp] theorem State.modProfile_fetchList (s : State) (n : Nat) (f : Profile → Profile) : (s.modProfile n f).fetchList = s.fetchList := by unfold State.modProfile; split <;> rfl
@[simp] theorem State.modProfile_engine (s : State) (n : Nat) (f : Profile → Profile) : (s.modProfile n f).engine = s.engine := by unfold State.modProfile; split <;> rfl
@[simp] theorem State.modProfile_marks (s : State) (n : Nat) (f : Profile → Profile) : (s.modProfile n f).marks = s.marks := by unfold State.modProfile; split <;> rfl
@[simp] theorem State.modProfile_spindle (s : State) (n : Nat) (f : Profile → Profile) : (s.modProfile n f).spindle = s.spindle := by unfold State.modProfile; split <;> rfl
@[simp] theorem State.modProfile_service (s : State) (n : Nat) (f : Profile → Profile) : (s.modProfile n f).service = s.service := by unfold State.modProfile; split <;> rfl
@[simp] theorem State.modProfile_stage (s : State) (n : Nat) (f : Profile → Profile) : (s.modProfile n f).stage = s.stage := by unfold State.modProfile; split <;> rfl
@[simp] theorem State.modProfile_freeCount (s : State) (n : Nat) (f : Profile → Profile) : (s.modProfile n f).freeCount = s.freeCount := by unfold State.modProfile; split <;> rfl

/-! ### mapWrites -/

@[simp] theorem State.mapWrites_pending (s : State) (f : WriteOrder → WriteOrder) : (s.mapWrites f).pending = s.pending := rfl
@[simp] theorem State.mapWrites_format (s : State) (f : WriteOrder → WriteOrder) : (s.mapWrites f).format = s.format := rfl
@[simp] theorem State.mapWrites_layout (s : State) (f : WriteOrder → WriteOrder) : (s.mapWrites f).layout = s.layout := rfl
@[simp] theorem State.mapWrites_formatting (s : State) (f : WriteOrder → WriteOrder) : (s.mapWrites f).formatting = s.formatting := rfl
@[simp] theorem State.mapWrites_profiles (s : State) (f : WriteOrder → WriteOrder) : (s.mapWrites f).profiles = s.profiles := rfl
@[simp] theorem State.mapWrites_bands (s : State) (f : WriteOrder → WriteOrder) : (s.mapWrites f).bands = s.bands := rfl
@[simp] theorem State.mapWrites_map (s : State) (f : WriteOrder → WriteOrder) : (s.mapWrites f).map = s.map := rfl
@[simp] theorem State.mapWrites_sequence (s : State) (f : WriteOrder → WriteOrder) : (s.mapWrites f).sequence = s.sequence := rfl
@[simp] theorem State.mapWrites_table (s : State) (f : WriteOrder → WriteOrder) : (s.mapWrites f).table = s.table := rfl
@[simp] theorem State.mapWrites_resetRecord (s : State) (f : WriteOrder → WriteOrder) : (s.mapWrites f).resetRecord = s.resetRecord := rfl
@[simp] theorem State.mapWrites_resetWaits (s : State) (f : WriteOrder → WriteOrder) : (s.mapWrites f).resetWaits = s.resetWaits := rfl
@[simp] theorem State.mapWrites_portA (s : State) (f : WriteOrder → WriteOrder) : (s.mapWrites f).portA = s.portA := rfl
@[simp] theorem State.mapWrites_portB (s : State) (f : WriteOrder → WriteOrder) : (s.mapWrites f).portB = s.portB := rfl
@[simp] theorem State.mapWrites_scope (s : State) (f : WriteOrder → WriteOrder) : (s.mapWrites f).scope = s.scope := rfl
@[simp] theorem State.mapWrites_intervals (s : State) (f : WriteOrder → WriteOrder) : (s.mapWrites f).intervals = s.intervals := rfl
@[simp] theorem State.mapWrites_defaultQueue (s : State) (f : WriteOrder → WriteOrder) : (s.mapWrites f).defaultQueue = s.defaultQueue := rfl
@[simp] theorem State.mapWrites_queues (s : State) (f : WriteOrder → WriteOrder) : (s.mapWrites f).queues = s.queues := rfl
@[simp] theorem State.mapWrites_lastServed (s : State) (f : WriteOrder → WriteOrder) : (s.mapWrites f).lastServed = s.lastServed := rfl
@[simp] theorem State.mapWrites_deadline (s : State) (f : WriteOrder → WriteOrder) : (s.mapWrites f).deadline = s.deadline := rfl
@[simp] theorem State.mapWrites_path (s : State) (f : WriteOrder → WriteOrder) : (s.mapWrites f).path = s.path := rfl
@[simp] theorem State.mapWrites_mediaReset (s : State) (f : WriteOrder → WriteOrder) : (s.mapWrites f).mediaReset = s.mediaReset := rfl
@[simp] theorem State.mapWrites_recoveryWait (s : State) (f : WriteOrder → WriteOrder) : (s.mapWrites f).recoveryWait = s.recoveryWait := rfl
@[simp] theorem State.mapWrites_startWait (s : State) (f : WriteOrder → WriteOrder) : (s.mapWrites f).startWait = s.startWait := rfl
@[simp] theorem State.mapWrites_escalation (s : State) (f : WriteOrder → WriteOrder) : (s.mapWrites f).escalation = s.escalation := rfl
@[simp] theorem State.mapWrites_fetchRun (s : State) (f : WriteOrder → WriteOrder) : (s.mapWrites f).fetchRun = s.fetchRun := rfl
@[simp] theorem State.mapWrites_orderLimit (s : State) (f : WriteOrder → WriteOrder) : (s.mapWrites f).orderLimit = s.orderLimit := rfl
@[simp] theorem State.mapWrites_geometry (s : State) (f : WriteOrder → WriteOrder) : (s.mapWrites f).geometry = s.geometry := rfl
@[simp] theorem State.mapWrites_slots (s : State) (f : WriteOrder → WriteOrder) : (s.mapWrites f).slots = s.slots := rfl
@[simp] theorem State.mapWrites_fetchList (s : State) (f : WriteOrder → WriteOrder) : (s.mapWrites f).fetchList = s.fetchList := rfl
@[simp] theorem State.mapWrites_engine (s : State) (f : WriteOrder → WriteOrder) : (s.mapWrites f).engine = s.engine := rfl
@[simp] theorem State.mapWrites_marks (s : State) (f : WriteOrder → WriteOrder) : (s.mapWrites f).marks = s.marks := rfl
@[simp] theorem State.mapWrites_spindle (s : State) (f : WriteOrder → WriteOrder) : (s.mapWrites f).spindle = s.spindle := rfl
@[simp] theorem State.mapWrites_service (s : State) (f : WriteOrder → WriteOrder) : (s.mapWrites f).service = s.service := rfl
@[simp] theorem State.mapWrites_stage (s : State) (f : WriteOrder → WriteOrder) : (s.mapWrites f).stage = s.stage := rfl
@[simp] theorem State.mapWrites_freeCount (s : State) (f : WriteOrder → WriteOrder) : (s.mapWrites f).freeCount = s.freeCount := rfl

/-! ### setMap -/

@[simp] theorem State.setMap_pending (s : State) (m : List Entry) : (s.setMap m).pending = s.pending := rfl
@[simp] theorem State.setMap_format (s : State) (m : List Entry) : (s.setMap m).format = s.format := rfl
@[simp] theorem State.setMap_layout (s : State) (m : List Entry) : (s.setMap m).layout = s.layout := rfl
@[simp] theorem State.setMap_formatting (s : State) (m : List Entry) : (s.setMap m).formatting = s.formatting := rfl
@[simp] theorem State.setMap_profiles (s : State) (m : List Entry) : (s.setMap m).profiles = s.profiles := rfl
@[simp] theorem State.setMap_sequence (s : State) (m : List Entry) : (s.setMap m).sequence = s.sequence := rfl
@[simp] theorem State.setMap_table (s : State) (m : List Entry) : (s.setMap m).table = s.table := rfl
@[simp] theorem State.setMap_resetRecord (s : State) (m : List Entry) : (s.setMap m).resetRecord = s.resetRecord := rfl
@[simp] theorem State.setMap_resetWaits (s : State) (m : List Entry) : (s.setMap m).resetWaits = s.resetWaits := rfl
@[simp] theorem State.setMap_portA (s : State) (m : List Entry) : (s.setMap m).portA = s.portA := rfl
@[simp] theorem State.setMap_portB (s : State) (m : List Entry) : (s.setMap m).portB = s.portB := rfl
@[simp] theorem State.setMap_scope (s : State) (m : List Entry) : (s.setMap m).scope = s.scope := rfl
@[simp] theorem State.setMap_intervals (s : State) (m : List Entry) : (s.setMap m).intervals = s.intervals := rfl
@[simp] theorem State.setMap_defaultQueue (s : State) (m : List Entry) : (s.setMap m).defaultQueue = s.defaultQueue := rfl
@[simp] theorem State.setMap_queues (s : State) (m : List Entry) : (s.setMap m).queues = s.queues := rfl
@[simp] theorem State.setMap_lastServed (s : State) (m : List Entry) : (s.setMap m).lastServed = s.lastServed := rfl
@[simp] theorem State.setMap_window (s : State) (m : List Entry) : (s.setMap m).window = s.window := rfl
@[simp] theorem State.setMap_deadline (s : State) (m : List Entry) : (s.setMap m).deadline = s.deadline := rfl
@[simp] theorem State.setMap_path (s : State) (m : List Entry) : (s.setMap m).path = s.path := rfl
@[simp] theorem State.setMap_mediaReset (s : State) (m : List Entry) : (s.setMap m).mediaReset = s.mediaReset := rfl
@[simp] theorem State.setMap_recoveryWait (s : State) (m : List Entry) : (s.setMap m).recoveryWait = s.recoveryWait := rfl
@[simp] theorem State.setMap_startWait (s : State) (m : List Entry) : (s.setMap m).startWait = s.startWait := rfl
@[simp] theorem State.setMap_escalation (s : State) (m : List Entry) : (s.setMap m).escalation = s.escalation := rfl
@[simp] theorem State.setMap_fetchRun (s : State) (m : List Entry) : (s.setMap m).fetchRun = s.fetchRun := rfl
@[simp] theorem State.setMap_orderLimit (s : State) (m : List Entry) : (s.setMap m).orderLimit = s.orderLimit := rfl
@[simp] theorem State.setMap_geometry (s : State) (m : List Entry) : (s.setMap m).geometry = s.geometry := rfl
@[simp] theorem State.setMap_slots (s : State) (m : List Entry) : (s.setMap m).slots = s.slots := rfl
@[simp] theorem State.setMap_fetchList (s : State) (m : List Entry) : (s.setMap m).fetchList = s.fetchList := rfl
@[simp] theorem State.setMap_engine (s : State) (m : List Entry) : (s.setMap m).engine = s.engine := rfl
@[simp] theorem State.setMap_marks (s : State) (m : List Entry) : (s.setMap m).marks = s.marks := rfl
@[simp] theorem State.setMap_spindle (s : State) (m : List Entry) : (s.setMap m).spindle = s.spindle := rfl
@[simp] theorem State.setMap_service (s : State) (m : List Entry) : (s.setMap m).service = s.service := rfl
@[simp] theorem State.setMap_stage (s : State) (m : List Entry) : (s.setMap m).stage = s.stage := rfl
@[simp] theorem State.setMap_freeCount (s : State) (m : List Entry) : (s.setMap m).freeCount = s.freeCount := rfl

/-! ### modEntry -/

@[simp] theorem State.modEntry_pending (s : State) (k : Key) (f : ReqEntry → ReqEntry) : (s.modEntry k f).pending = s.pending := rfl
@[simp] theorem State.modEntry_format (s : State) (k : Key) (f : ReqEntry → ReqEntry) : (s.modEntry k f).format = s.format := rfl
@[simp] theorem State.modEntry_layout (s : State) (k : Key) (f : ReqEntry → ReqEntry) : (s.modEntry k f).layout = s.layout := rfl
@[simp] theorem State.modEntry_formatting (s : State) (k : Key) (f : ReqEntry → ReqEntry) : (s.modEntry k f).formatting = s.formatting := rfl
@[simp] theorem State.modEntry_profiles (s : State) (k : Key) (f : ReqEntry → ReqEntry) : (s.modEntry k f).profiles = s.profiles := rfl
@[simp] theorem State.modEntry_bands (s : State) (k : Key) (f : ReqEntry → ReqEntry) : (s.modEntry k f).bands = s.bands := rfl
@[simp] theorem State.modEntry_map (s : State) (k : Key) (f : ReqEntry → ReqEntry) : (s.modEntry k f).map = s.map := rfl
@[simp] theorem State.modEntry_sequence (s : State) (k : Key) (f : ReqEntry → ReqEntry) : (s.modEntry k f).sequence = s.sequence := rfl
@[simp] theorem State.modEntry_resetRecord (s : State) (k : Key) (f : ReqEntry → ReqEntry) : (s.modEntry k f).resetRecord = s.resetRecord := rfl
@[simp] theorem State.modEntry_resetWaits (s : State) (k : Key) (f : ReqEntry → ReqEntry) : (s.modEntry k f).resetWaits = s.resetWaits := rfl
@[simp] theorem State.modEntry_portA (s : State) (k : Key) (f : ReqEntry → ReqEntry) : (s.modEntry k f).portA = s.portA := rfl
@[simp] theorem State.modEntry_portB (s : State) (k : Key) (f : ReqEntry → ReqEntry) : (s.modEntry k f).portB = s.portB := rfl
@[simp] theorem State.modEntry_scope (s : State) (k : Key) (f : ReqEntry → ReqEntry) : (s.modEntry k f).scope = s.scope := rfl
@[simp] theorem State.modEntry_intervals (s : State) (k : Key) (f : ReqEntry → ReqEntry) : (s.modEntry k f).intervals = s.intervals := rfl
@[simp] theorem State.modEntry_defaultQueue (s : State) (k : Key) (f : ReqEntry → ReqEntry) : (s.modEntry k f).defaultQueue = s.defaultQueue := rfl
@[simp] theorem State.modEntry_queues (s : State) (k : Key) (f : ReqEntry → ReqEntry) : (s.modEntry k f).queues = s.queues := rfl
@[simp] theorem State.modEntry_lastServed (s : State) (k : Key) (f : ReqEntry → ReqEntry) : (s.modEntry k f).lastServed = s.lastServed := rfl
@[simp] theorem State.modEntry_window (s : State) (k : Key) (f : ReqEntry → ReqEntry) : (s.modEntry k f).window = s.window := rfl
@[simp] theorem State.modEntry_deadline (s : State) (k : Key) (f : ReqEntry → ReqEntry) : (s.modEntry k f).deadline = s.deadline := rfl
@[simp] theorem State.modEntry_path (s : State) (k : Key) (f : ReqEntry → ReqEntry) : (s.modEntry k f).path = s.path := rfl
@[simp] theorem State.modEntry_mediaReset (s : State) (k : Key) (f : ReqEntry → ReqEntry) : (s.modEntry k f).mediaReset = s.mediaReset := rfl
@[simp] theorem State.modEntry_recoveryWait (s : State) (k : Key) (f : ReqEntry → ReqEntry) : (s.modEntry k f).recoveryWait = s.recoveryWait := rfl
@[simp] theorem State.modEntry_startWait (s : State) (k : Key) (f : ReqEntry → ReqEntry) : (s.modEntry k f).startWait = s.startWait := rfl
@[simp] theorem State.modEntry_escalation (s : State) (k : Key) (f : ReqEntry → ReqEntry) : (s.modEntry k f).escalation = s.escalation := rfl
@[simp] theorem State.modEntry_fetchRun (s : State) (k : Key) (f : ReqEntry → ReqEntry) : (s.modEntry k f).fetchRun = s.fetchRun := rfl
@[simp] theorem State.modEntry_orderLimit (s : State) (k : Key) (f : ReqEntry → ReqEntry) : (s.modEntry k f).orderLimit = s.orderLimit := rfl
@[simp] theorem State.modEntry_geometry (s : State) (k : Key) (f : ReqEntry → ReqEntry) : (s.modEntry k f).geometry = s.geometry := rfl
@[simp] theorem State.modEntry_slots (s : State) (k : Key) (f : ReqEntry → ReqEntry) : (s.modEntry k f).slots = s.slots := rfl
@[simp] theorem State.modEntry_fetchList (s : State) (k : Key) (f : ReqEntry → ReqEntry) : (s.modEntry k f).fetchList = s.fetchList := rfl
@[simp] theorem State.modEntry_engine (s : State) (k : Key) (f : ReqEntry → ReqEntry) : (s.modEntry k f).engine = s.engine := rfl
@[simp] theorem State.modEntry_marks (s : State) (k : Key) (f : ReqEntry → ReqEntry) : (s.modEntry k f).marks = s.marks := rfl
@[simp] theorem State.modEntry_spindle (s : State) (k : Key) (f : ReqEntry → ReqEntry) : (s.modEntry k f).spindle = s.spindle := rfl
@[simp] theorem State.modEntry_service (s : State) (k : Key) (f : ReqEntry → ReqEntry) : (s.modEntry k f).service = s.service := rfl
@[simp] theorem State.modEntry_stage (s : State) (k : Key) (f : ReqEntry → ReqEntry) : (s.modEntry k f).stage = s.stage := rfl
@[simp] theorem State.modEntry_freeCount (s : State) (k : Key) (f : ReqEntry → ReqEntry) : (s.modEntry k f).freeCount = s.freeCount := rfl

/-! ### modPut -/

@[simp] theorem State.modPut_pending (s : State) (k : Key) (f : PutInfo → PutInfo) : (s.modPut k f).pending = s.pending := rfl
@[simp] theorem State.modPut_format (s : State) (k : Key) (f : PutInfo → PutInfo) : (s.modPut k f).format = s.format := rfl
@[simp] theorem State.modPut_layout (s : State) (k : Key) (f : PutInfo → PutInfo) : (s.modPut k f).layout = s.layout := rfl
@[simp] theorem State.modPut_formatting (s : State) (k : Key) (f : PutInfo → PutInfo) : (s.modPut k f).formatting = s.formatting := rfl
@[simp] theorem State.modPut_profiles (s : State) (k : Key) (f : PutInfo → PutInfo) : (s.modPut k f).profiles = s.profiles := rfl
@[simp] theorem State.modPut_bands (s : State) (k : Key) (f : PutInfo → PutInfo) : (s.modPut k f).bands = s.bands := rfl
@[simp] theorem State.modPut_map (s : State) (k : Key) (f : PutInfo → PutInfo) : (s.modPut k f).map = s.map := rfl
@[simp] theorem State.modPut_sequence (s : State) (k : Key) (f : PutInfo → PutInfo) : (s.modPut k f).sequence = s.sequence := rfl
@[simp] theorem State.modPut_resetRecord (s : State) (k : Key) (f : PutInfo → PutInfo) : (s.modPut k f).resetRecord = s.resetRecord := rfl
@[simp] theorem State.modPut_resetWaits (s : State) (k : Key) (f : PutInfo → PutInfo) : (s.modPut k f).resetWaits = s.resetWaits := rfl
@[simp] theorem State.modPut_portA (s : State) (k : Key) (f : PutInfo → PutInfo) : (s.modPut k f).portA = s.portA := rfl
@[simp] theorem State.modPut_portB (s : State) (k : Key) (f : PutInfo → PutInfo) : (s.modPut k f).portB = s.portB := rfl
@[simp] theorem State.modPut_scope (s : State) (k : Key) (f : PutInfo → PutInfo) : (s.modPut k f).scope = s.scope := rfl
@[simp] theorem State.modPut_intervals (s : State) (k : Key) (f : PutInfo → PutInfo) : (s.modPut k f).intervals = s.intervals := rfl
@[simp] theorem State.modPut_defaultQueue (s : State) (k : Key) (f : PutInfo → PutInfo) : (s.modPut k f).defaultQueue = s.defaultQueue := rfl
@[simp] theorem State.modPut_queues (s : State) (k : Key) (f : PutInfo → PutInfo) : (s.modPut k f).queues = s.queues := rfl
@[simp] theorem State.modPut_lastServed (s : State) (k : Key) (f : PutInfo → PutInfo) : (s.modPut k f).lastServed = s.lastServed := rfl
@[simp] theorem State.modPut_window (s : State) (k : Key) (f : PutInfo → PutInfo) : (s.modPut k f).window = s.window := rfl
@[simp] theorem State.modPut_deadline (s : State) (k : Key) (f : PutInfo → PutInfo) : (s.modPut k f).deadline = s.deadline := rfl
@[simp] theorem State.modPut_path (s : State) (k : Key) (f : PutInfo → PutInfo) : (s.modPut k f).path = s.path := rfl
@[simp] theorem State.modPut_mediaReset (s : State) (k : Key) (f : PutInfo → PutInfo) : (s.modPut k f).mediaReset = s.mediaReset := rfl
@[simp] theorem State.modPut_recoveryWait (s : State) (k : Key) (f : PutInfo → PutInfo) : (s.modPut k f).recoveryWait = s.recoveryWait := rfl
@[simp] theorem State.modPut_startWait (s : State) (k : Key) (f : PutInfo → PutInfo) : (s.modPut k f).startWait = s.startWait := rfl
@[simp] theorem State.modPut_escalation (s : State) (k : Key) (f : PutInfo → PutInfo) : (s.modPut k f).escalation = s.escalation := rfl
@[simp] theorem State.modPut_fetchRun (s : State) (k : Key) (f : PutInfo → PutInfo) : (s.modPut k f).fetchRun = s.fetchRun := rfl
@[simp] theorem State.modPut_orderLimit (s : State) (k : Key) (f : PutInfo → PutInfo) : (s.modPut k f).orderLimit = s.orderLimit := rfl
@[simp] theorem State.modPut_geometry (s : State) (k : Key) (f : PutInfo → PutInfo) : (s.modPut k f).geometry = s.geometry := rfl
@[simp] theorem State.modPut_slots (s : State) (k : Key) (f : PutInfo → PutInfo) : (s.modPut k f).slots = s.slots := rfl
@[simp] theorem State.modPut_fetchList (s : State) (k : Key) (f : PutInfo → PutInfo) : (s.modPut k f).fetchList = s.fetchList := rfl
@[simp] theorem State.modPut_engine (s : State) (k : Key) (f : PutInfo → PutInfo) : (s.modPut k f).engine = s.engine := rfl
@[simp] theorem State.modPut_marks (s : State) (k : Key) (f : PutInfo → PutInfo) : (s.modPut k f).marks = s.marks := rfl
@[simp] theorem State.modPut_spindle (s : State) (k : Key) (f : PutInfo → PutInfo) : (s.modPut k f).spindle = s.spindle := rfl
@[simp] theorem State.modPut_service (s : State) (k : Key) (f : PutInfo → PutInfo) : (s.modPut k f).service = s.service := rfl
@[simp] theorem State.modPut_stage (s : State) (k : Key) (f : PutInfo → PutInfo) : (s.modPut k f).stage = s.stage := rfl
@[simp] theorem State.modPut_freeCount (s : State) (k : Key) (f : PutInfo → PutInfo) : (s.modPut k f).freeCount = s.freeCount := rfl

/-! ### dropEntry -/

@[simp] theorem State.dropEntry_pending (s : State) (k : Key) : (s.dropEntry k).pending = s.pending := rfl
@[simp] theorem State.dropEntry_format (s : State) (k : Key) : (s.dropEntry k).format = s.format := rfl
@[simp] theorem State.dropEntry_layout (s : State) (k : Key) : (s.dropEntry k).layout = s.layout := rfl
@[simp] theorem State.dropEntry_formatting (s : State) (k : Key) : (s.dropEntry k).formatting = s.formatting := rfl
@[simp] theorem State.dropEntry_profiles (s : State) (k : Key) : (s.dropEntry k).profiles = s.profiles := rfl
@[simp] theorem State.dropEntry_bands (s : State) (k : Key) : (s.dropEntry k).bands = s.bands := rfl
@[simp] theorem State.dropEntry_map (s : State) (k : Key) : (s.dropEntry k).map = s.map := rfl
@[simp] theorem State.dropEntry_sequence (s : State) (k : Key) : (s.dropEntry k).sequence = s.sequence := rfl
@[simp] theorem State.dropEntry_resetRecord (s : State) (k : Key) : (s.dropEntry k).resetRecord = s.resetRecord := rfl
@[simp] theorem State.dropEntry_resetWaits (s : State) (k : Key) : (s.dropEntry k).resetWaits = s.resetWaits := rfl
@[simp] theorem State.dropEntry_portA (s : State) (k : Key) : (s.dropEntry k).portA = s.portA := rfl
@[simp] theorem State.dropEntry_portB (s : State) (k : Key) : (s.dropEntry k).portB = s.portB := rfl
@[simp] theorem State.dropEntry_scope (s : State) (k : Key) : (s.dropEntry k).scope = s.scope := rfl
@[simp] theorem State.dropEntry_intervals (s : State) (k : Key) : (s.dropEntry k).intervals = s.intervals := rfl
@[simp] theorem State.dropEntry_defaultQueue (s : State) (k : Key) : (s.dropEntry k).defaultQueue = s.defaultQueue := rfl
@[simp] theorem State.dropEntry_queues (s : State) (k : Key) : (s.dropEntry k).queues = s.queues := rfl
@[simp] theorem State.dropEntry_lastServed (s : State) (k : Key) : (s.dropEntry k).lastServed = s.lastServed := rfl
@[simp] theorem State.dropEntry_window (s : State) (k : Key) : (s.dropEntry k).window = s.window := rfl
@[simp] theorem State.dropEntry_deadline (s : State) (k : Key) : (s.dropEntry k).deadline = s.deadline := rfl
@[simp] theorem State.dropEntry_path (s : State) (k : Key) : (s.dropEntry k).path = s.path := rfl
@[simp] theorem State.dropEntry_mediaReset (s : State) (k : Key) : (s.dropEntry k).mediaReset = s.mediaReset := rfl
@[simp] theorem State.dropEntry_recoveryWait (s : State) (k : Key) : (s.dropEntry k).recoveryWait = s.recoveryWait := rfl
@[simp] theorem State.dropEntry_startWait (s : State) (k : Key) : (s.dropEntry k).startWait = s.startWait := rfl
@[simp] theorem State.dropEntry_escalation (s : State) (k : Key) : (s.dropEntry k).escalation = s.escalation := rfl
@[simp] theorem State.dropEntry_fetchRun (s : State) (k : Key) : (s.dropEntry k).fetchRun = s.fetchRun := rfl
@[simp] theorem State.dropEntry_orderLimit (s : State) (k : Key) : (s.dropEntry k).orderLimit = s.orderLimit := rfl
@[simp] theorem State.dropEntry_geometry (s : State) (k : Key) : (s.dropEntry k).geometry = s.geometry := rfl
@[simp] theorem State.dropEntry_slots (s : State) (k : Key) : (s.dropEntry k).slots = s.slots := rfl
@[simp] theorem State.dropEntry_fetchList (s : State) (k : Key) : (s.dropEntry k).fetchList = s.fetchList := rfl
@[simp] theorem State.dropEntry_engine (s : State) (k : Key) : (s.dropEntry k).engine = s.engine := rfl
@[simp] theorem State.dropEntry_marks (s : State) (k : Key) : (s.dropEntry k).marks = s.marks := rfl
@[simp] theorem State.dropEntry_spindle (s : State) (k : Key) : (s.dropEntry k).spindle = s.spindle := rfl
@[simp] theorem State.dropEntry_service (s : State) (k : Key) : (s.dropEntry k).service = s.service := rfl
@[simp] theorem State.dropEntry_stage (s : State) (k : Key) : (s.dropEntry k).stage = s.stage := rfl
@[simp] theorem State.dropEntry_freeCount (s : State) (k : Key) : (s.dropEntry k).freeCount = s.freeCount := rfl

/-! ### enterTable -/

@[simp] theorem State.enterTable_pending (s : State) (k : Key) (i : EntryInfo) : (s.enterTable k i).pending = s.pending := by rcases k with ⟨l, t⟩; cases l <;> rfl
@[simp] theorem State.enterTable_format (s : State) (k : Key) (i : EntryInfo) : (s.enterTable k i).format = s.format := by rcases k with ⟨l, t⟩; cases l <;> rfl
@[simp] theorem State.enterTable_layout (s : State) (k : Key) (i : EntryInfo) : (s.enterTable k i).layout = s.layout := by rcases k with ⟨l, t⟩; cases l <;> rfl
@[simp] theorem State.enterTable_formatting (s : State) (k : Key) (i : EntryInfo) : (s.enterTable k i).formatting = s.formatting := by rcases k with ⟨l, t⟩; cases l <;> rfl
@[simp] theorem State.enterTable_profiles (s : State) (k : Key) (i : EntryInfo) : (s.enterTable k i).profiles = s.profiles := by rcases k with ⟨l, t⟩; cases l <;> rfl
@[simp] theorem State.enterTable_bands (s : State) (k : Key) (i : EntryInfo) : (s.enterTable k i).bands = s.bands := by rcases k with ⟨l, t⟩; cases l <;> rfl
@[simp] theorem State.enterTable_map (s : State) (k : Key) (i : EntryInfo) : (s.enterTable k i).map = s.map := by rcases k with ⟨l, t⟩; cases l <;> rfl
@[simp] theorem State.enterTable_sequence (s : State) (k : Key) (i : EntryInfo) : (s.enterTable k i).sequence = s.sequence := by rcases k with ⟨l, t⟩; cases l <;> rfl
@[simp] theorem State.enterTable_resetRecord (s : State) (k : Key) (i : EntryInfo) : (s.enterTable k i).resetRecord = s.resetRecord := by rcases k with ⟨l, t⟩; cases l <;> rfl
@[simp] theorem State.enterTable_resetWaits (s : State) (k : Key) (i : EntryInfo) : (s.enterTable k i).resetWaits = s.resetWaits := by rcases k with ⟨l, t⟩; cases l <;> rfl
@[simp] theorem State.enterTable_scope (s : State) (k : Key) (i : EntryInfo) : (s.enterTable k i).scope = s.scope := by rcases k with ⟨l, t⟩; cases l <;> rfl
@[simp] theorem State.enterTable_intervals (s : State) (k : Key) (i : EntryInfo) : (s.enterTable k i).intervals = s.intervals := by rcases k with ⟨l, t⟩; cases l <;> rfl
@[simp] theorem State.enterTable_defaultQueue (s : State) (k : Key) (i : EntryInfo) : (s.enterTable k i).defaultQueue = s.defaultQueue := by rcases k with ⟨l, t⟩; cases l <;> rfl
@[simp] theorem State.enterTable_queues (s : State) (k : Key) (i : EntryInfo) : (s.enterTable k i).queues = s.queues := by rcases k with ⟨l, t⟩; cases l <;> rfl
@[simp] theorem State.enterTable_lastServed (s : State) (k : Key) (i : EntryInfo) : (s.enterTable k i).lastServed = s.lastServed := by rcases k with ⟨l, t⟩; cases l <;> rfl
@[simp] theorem State.enterTable_window (s : State) (k : Key) (i : EntryInfo) : (s.enterTable k i).window = s.window := by rcases k with ⟨l, t⟩; cases l <;> rfl
@[simp] theorem State.enterTable_deadline (s : State) (k : Key) (i : EntryInfo) : (s.enterTable k i).deadline = s.deadline := by rcases k with ⟨l, t⟩; cases l <;> rfl
@[simp] theorem State.enterTable_path (s : State) (k : Key) (i : EntryInfo) : (s.enterTable k i).path = s.path := by rcases k with ⟨l, t⟩; cases l <;> rfl
@[simp] theorem State.enterTable_mediaReset (s : State) (k : Key) (i : EntryInfo) : (s.enterTable k i).mediaReset = s.mediaReset := by rcases k with ⟨l, t⟩; cases l <;> rfl
@[simp] theorem State.enterTable_recoveryWait (s : State) (k : Key) (i : EntryInfo) : (s.enterTable k i).recoveryWait = s.recoveryWait := by rcases k with ⟨l, t⟩; cases l <;> rfl
@[simp] theorem State.enterTable_startWait (s : State) (k : Key) (i : EntryInfo) : (s.enterTable k i).startWait = s.startWait := by rcases k with ⟨l, t⟩; cases l <;> rfl
@[simp] theorem State.enterTable_escalation (s : State) (k : Key) (i : EntryInfo) : (s.enterTable k i).escalation = s.escalation := by rcases k with ⟨l, t⟩; cases l <;> rfl
@[simp] theorem State.enterTable_fetchRun (s : State) (k : Key) (i : EntryInfo) : (s.enterTable k i).fetchRun = s.fetchRun := by rcases k with ⟨l, t⟩; cases l <;> rfl
@[simp] theorem State.enterTable_orderLimit (s : State) (k : Key) (i : EntryInfo) : (s.enterTable k i).orderLimit = s.orderLimit := by rcases k with ⟨l, t⟩; cases l <;> rfl
@[simp] theorem State.enterTable_geometry (s : State) (k : Key) (i : EntryInfo) : (s.enterTable k i).geometry = s.geometry := by rcases k with ⟨l, t⟩; cases l <;> rfl
@[simp] theorem State.enterTable_slots (s : State) (k : Key) (i : EntryInfo) : (s.enterTable k i).slots = s.slots := by rcases k with ⟨l, t⟩; cases l <;> rfl
@[simp] theorem State.enterTable_fetchList (s : State) (k : Key) (i : EntryInfo) : (s.enterTable k i).fetchList = s.fetchList := by rcases k with ⟨l, t⟩; cases l <;> rfl
@[simp] theorem State.enterTable_engine (s : State) (k : Key) (i : EntryInfo) : (s.enterTable k i).engine = s.engine := by rcases k with ⟨l, t⟩; cases l <;> rfl
@[simp] theorem State.enterTable_marks (s : State) (k : Key) (i : EntryInfo) : (s.enterTable k i).marks = s.marks := by rcases k with ⟨l, t⟩; cases l <;> rfl
@[simp] theorem State.enterTable_spindle (s : State) (k : Key) (i : EntryInfo) : (s.enterTable k i).spindle = s.spindle := by rcases k with ⟨l, t⟩; cases l <;> rfl
@[simp] theorem State.enterTable_service (s : State) (k : Key) (i : EntryInfo) : (s.enterTable k i).service = s.service := by rcases k with ⟨l, t⟩; cases l <;> rfl
@[simp] theorem State.enterTable_stage (s : State) (k : Key) (i : EntryInfo) : (s.enterTable k i).stage = s.stage := by rcases k with ⟨l, t⟩; cases l <;> rfl
@[simp] theorem State.enterTable_freeCount (s : State) (k : Key) (i : EntryInfo) : (s.enterTable k i).freeCount = s.freeCount := by rcases k with ⟨l, t⟩; cases l <;> rfl

/-! ### setHand -/

@[simp] theorem State.setHand_pending (s : State) (h : Option TrackInHand) : (s.setHand h).pending = s.pending := rfl
@[simp] theorem State.setHand_format (s : State) (h : Option TrackInHand) : (s.setHand h).format = s.format := rfl
@[simp] theorem State.setHand_layout (s : State) (h : Option TrackInHand) : (s.setHand h).layout = s.layout := rfl
@[simp] theorem State.setHand_formatting (s : State) (h : Option TrackInHand) : (s.setHand h).formatting = s.formatting := rfl
@[simp] theorem State.setHand_profiles (s : State) (h : Option TrackInHand) : (s.setHand h).profiles = s.profiles := rfl
@[simp] theorem State.setHand_bands (s : State) (h : Option TrackInHand) : (s.setHand h).bands = s.bands := rfl
@[simp] theorem State.setHand_map (s : State) (h : Option TrackInHand) : (s.setHand h).map = s.map := rfl
@[simp] theorem State.setHand_sequence (s : State) (h : Option TrackInHand) : (s.setHand h).sequence = s.sequence := rfl
@[simp] theorem State.setHand_table (s : State) (h : Option TrackInHand) : (s.setHand h).table = s.table := rfl
@[simp] theorem State.setHand_resetRecord (s : State) (h : Option TrackInHand) : (s.setHand h).resetRecord = s.resetRecord := rfl
@[simp] theorem State.setHand_resetWaits (s : State) (h : Option TrackInHand) : (s.setHand h).resetWaits = s.resetWaits := rfl
@[simp] theorem State.setHand_portA (s : State) (h : Option TrackInHand) : (s.setHand h).portA = s.portA := rfl
@[simp] theorem State.setHand_portB (s : State) (h : Option TrackInHand) : (s.setHand h).portB = s.portB := rfl
@[simp] theorem State.setHand_scope (s : State) (h : Option TrackInHand) : (s.setHand h).scope = s.scope := rfl
@[simp] theorem State.setHand_intervals (s : State) (h : Option TrackInHand) : (s.setHand h).intervals = s.intervals := rfl
@[simp] theorem State.setHand_defaultQueue (s : State) (h : Option TrackInHand) : (s.setHand h).defaultQueue = s.defaultQueue := rfl
@[simp] theorem State.setHand_queues (s : State) (h : Option TrackInHand) : (s.setHand h).queues = s.queues := rfl
@[simp] theorem State.setHand_lastServed (s : State) (h : Option TrackInHand) : (s.setHand h).lastServed = s.lastServed := rfl
@[simp] theorem State.setHand_window (s : State) (h : Option TrackInHand) : (s.setHand h).window = s.window := rfl
@[simp] theorem State.setHand_deadline (s : State) (h : Option TrackInHand) : (s.setHand h).deadline = s.deadline := rfl
@[simp] theorem State.setHand_path (s : State) (h : Option TrackInHand) : (s.setHand h).path = s.path := rfl
@[simp] theorem State.setHand_mediaReset (s : State) (h : Option TrackInHand) : (s.setHand h).mediaReset = s.mediaReset := rfl
@[simp] theorem State.setHand_recoveryWait (s : State) (h : Option TrackInHand) : (s.setHand h).recoveryWait = s.recoveryWait := rfl
@[simp] theorem State.setHand_startWait (s : State) (h : Option TrackInHand) : (s.setHand h).startWait = s.startWait := rfl
@[simp] theorem State.setHand_escalation (s : State) (h : Option TrackInHand) : (s.setHand h).escalation = s.escalation := rfl
@[simp] theorem State.setHand_fetchRun (s : State) (h : Option TrackInHand) : (s.setHand h).fetchRun = s.fetchRun := rfl
@[simp] theorem State.setHand_orderLimit (s : State) (h : Option TrackInHand) : (s.setHand h).orderLimit = s.orderLimit := rfl
@[simp] theorem State.setHand_geometry (s : State) (h : Option TrackInHand) : (s.setHand h).geometry = s.geometry := rfl
@[simp] theorem State.setHand_slots (s : State) (h : Option TrackInHand) : (s.setHand h).slots = s.slots := rfl
@[simp] theorem State.setHand_fetchList (s : State) (h : Option TrackInHand) : (s.setHand h).fetchList = s.fetchList := rfl
@[simp] theorem State.setHand_marks (s : State) (h : Option TrackInHand) : (s.setHand h).marks = s.marks := rfl
@[simp] theorem State.setHand_spindle (s : State) (h : Option TrackInHand) : (s.setHand h).spindle = s.spindle := rfl
@[simp] theorem State.setHand_service (s : State) (h : Option TrackInHand) : (s.setHand h).service = s.service := rfl
@[simp] theorem State.setHand_stage (s : State) (h : Option TrackInHand) : (s.setHand h).stage = s.stage := rfl
@[simp] theorem State.setHand_freeCount (s : State) (h : Option TrackInHand) : (s.setHand h).freeCount = s.freeCount := rfl

/-! ### startDeadline -/

@[simp] theorem State.startDeadline_pending (s : State) : (s.startDeadline).pending = s.pending := rfl
@[simp] theorem State.startDeadline_format (s : State) : (s.startDeadline).format = s.format := rfl
@[simp] theorem State.startDeadline_layout (s : State) : (s.startDeadline).layout = s.layout := rfl
@[simp] theorem State.startDeadline_formatting (s : State) : (s.startDeadline).formatting = s.formatting := rfl
@[simp] theorem State.startDeadline_profiles (s : State) : (s.startDeadline).profiles = s.profiles := rfl
@[simp] theorem State.startDeadline_bands (s : State) : (s.startDeadline).bands = s.bands := rfl
@[simp] theorem State.startDeadline_map (s : State) : (s.startDeadline).map = s.map := rfl
@[simp] theorem State.startDeadline_sequence (s : State) : (s.startDeadline).sequence = s.sequence := rfl
@[simp] theorem State.startDeadline_table (s : State) : (s.startDeadline).table = s.table := rfl
@[simp] theorem State.startDeadline_resetRecord (s : State) : (s.startDeadline).resetRecord = s.resetRecord := rfl
@[simp] theorem State.startDeadline_resetWaits (s : State) : (s.startDeadline).resetWaits = s.resetWaits := rfl
@[simp] theorem State.startDeadline_portA (s : State) : (s.startDeadline).portA = s.portA := rfl
@[simp] theorem State.startDeadline_portB (s : State) : (s.startDeadline).portB = s.portB := rfl
@[simp] theorem State.startDeadline_scope (s : State) : (s.startDeadline).scope = s.scope := rfl
@[simp] theorem State.startDeadline_intervals (s : State) : (s.startDeadline).intervals = s.intervals := rfl
@[simp] theorem State.startDeadline_defaultQueue (s : State) : (s.startDeadline).defaultQueue = s.defaultQueue := rfl
@[simp] theorem State.startDeadline_queues (s : State) : (s.startDeadline).queues = s.queues := rfl
@[simp] theorem State.startDeadline_lastServed (s : State) : (s.startDeadline).lastServed = s.lastServed := rfl
@[simp] theorem State.startDeadline_window (s : State) : (s.startDeadline).window = s.window := rfl
@[simp] theorem State.startDeadline_path (s : State) : (s.startDeadline).path = s.path := rfl
@[simp] theorem State.startDeadline_mediaReset (s : State) : (s.startDeadline).mediaReset = s.mediaReset := rfl
@[simp] theorem State.startDeadline_recoveryWait (s : State) : (s.startDeadline).recoveryWait = s.recoveryWait := rfl
@[simp] theorem State.startDeadline_startWait (s : State) : (s.startDeadline).startWait = s.startWait := rfl
@[simp] theorem State.startDeadline_escalation (s : State) : (s.startDeadline).escalation = s.escalation := rfl
@[simp] theorem State.startDeadline_fetchRun (s : State) : (s.startDeadline).fetchRun = s.fetchRun := rfl
@[simp] theorem State.startDeadline_orderLimit (s : State) : (s.startDeadline).orderLimit = s.orderLimit := rfl
@[simp] theorem State.startDeadline_geometry (s : State) : (s.startDeadline).geometry = s.geometry := rfl
@[simp] theorem State.startDeadline_slots (s : State) : (s.startDeadline).slots = s.slots := rfl
@[simp] theorem State.startDeadline_fetchList (s : State) : (s.startDeadline).fetchList = s.fetchList := rfl
@[simp] theorem State.startDeadline_engine (s : State) : (s.startDeadline).engine = s.engine := rfl
@[simp] theorem State.startDeadline_marks (s : State) : (s.startDeadline).marks = s.marks := rfl
@[simp] theorem State.startDeadline_spindle (s : State) : (s.startDeadline).spindle = s.spindle := rfl
@[simp] theorem State.startDeadline_service (s : State) : (s.startDeadline).service = s.service := rfl
@[simp] theorem State.startDeadline_stage (s : State) : (s.startDeadline).stage = s.stage := rfl
@[simp] theorem State.startDeadline_freeCount (s : State) : (s.startDeadline).freeCount = s.freeCount := rfl

/-! ### issue -/

@[simp] theorem State.issue_pending (s : State) (o : Order) : (s.issue o).pending = s.pending := by unfold State.issue; split <;> rfl
@[simp] theorem State.issue_format (s : State) (o : Order) : (s.issue o).format = s.format := by unfold State.issue; split <;> rfl
@[simp] theorem State.issue_layout (s : State) (o : Order) : (s.issue o).layout = s.layout := by unfold State.issue; split <;> rfl
@[simp] theorem State.issue_formatting (s : State) (o : Order) : (s.issue o).formatting = s.formatting := by unfold State.issue; split <;> rfl
@[simp] theorem State.issue_profiles (s : State) (o : Order) : (s.issue o).profiles = s.profiles := by unfold State.issue; split <;> rfl
@[simp] theorem State.issue_bands (s : State) (o : Order) : (s.issue o).bands = s.bands := by unfold State.issue; split <;> rfl
@[simp] theorem State.issue_map (s : State) (o : Order) : (s.issue o).map = s.map := by unfold State.issue; split <;> rfl
@[simp] theorem State.issue_sequence (s : State) (o : Order) : (s.issue o).sequence = s.sequence := by unfold State.issue; split <;> rfl
@[simp] theorem State.issue_table (s : State) (o : Order) : (s.issue o).table = s.table := by unfold State.issue; split <;> rfl
@[simp] theorem State.issue_resetRecord (s : State) (o : Order) : (s.issue o).resetRecord = s.resetRecord := by unfold State.issue; split <;> rfl
@[simp] theorem State.issue_resetWaits (s : State) (o : Order) : (s.issue o).resetWaits = s.resetWaits := by unfold State.issue; split <;> rfl
@[simp] theorem State.issue_portA (s : State) (o : Order) : (s.issue o).portA = s.portA := by unfold State.issue; split <;> rfl
@[simp] theorem State.issue_portB (s : State) (o : Order) : (s.issue o).portB = s.portB := by unfold State.issue; split <;> rfl
@[simp] theorem State.issue_scope (s : State) (o : Order) : (s.issue o).scope = s.scope := by unfold State.issue; split <;> rfl
@[simp] theorem State.issue_intervals (s : State) (o : Order) : (s.issue o).intervals = s.intervals := by unfold State.issue; split <;> rfl
@[simp] theorem State.issue_defaultQueue (s : State) (o : Order) : (s.issue o).defaultQueue = s.defaultQueue := by unfold State.issue; split <;> rfl
@[simp] theorem State.issue_queues (s : State) (o : Order) : (s.issue o).queues = s.queues := by unfold State.issue; split <;> rfl
@[simp] theorem State.issue_lastServed (s : State) (o : Order) : (s.issue o).lastServed = s.lastServed := by unfold State.issue; split <;> rfl
@[simp] theorem State.issue_path (s : State) (o : Order) : (s.issue o).path = s.path := by unfold State.issue; split <;> rfl
@[simp] theorem State.issue_mediaReset (s : State) (o : Order) : (s.issue o).mediaReset = s.mediaReset := by unfold State.issue; split <;> rfl
@[simp] theorem State.issue_recoveryWait (s : State) (o : Order) : (s.issue o).recoveryWait = s.recoveryWait := by unfold State.issue; split <;> rfl
@[simp] theorem State.issue_startWait (s : State) (o : Order) : (s.issue o).startWait = s.startWait := by unfold State.issue; split <;> rfl
@[simp] theorem State.issue_escalation (s : State) (o : Order) : (s.issue o).escalation = s.escalation := by unfold State.issue; split <;> rfl
@[simp] theorem State.issue_fetchRun (s : State) (o : Order) : (s.issue o).fetchRun = s.fetchRun := by unfold State.issue; split <;> rfl
@[simp] theorem State.issue_orderLimit (s : State) (o : Order) : (s.issue o).orderLimit = s.orderLimit := by unfold State.issue; split <;> rfl
@[simp] theorem State.issue_geometry (s : State) (o : Order) : (s.issue o).geometry = s.geometry := by unfold State.issue; split <;> rfl
@[simp] theorem State.issue_slots (s : State) (o : Order) : (s.issue o).slots = s.slots := by unfold State.issue; split <;> rfl
@[simp] theorem State.issue_fetchList (s : State) (o : Order) : (s.issue o).fetchList = s.fetchList := by unfold State.issue; split <;> rfl
@[simp] theorem State.issue_engine (s : State) (o : Order) : (s.issue o).engine = s.engine := by unfold State.issue; split <;> rfl
@[simp] theorem State.issue_marks (s : State) (o : Order) : (s.issue o).marks = s.marks := by unfold State.issue; split <;> rfl
@[simp] theorem State.issue_spindle (s : State) (o : Order) : (s.issue o).spindle = s.spindle := by unfold State.issue; split <;> rfl
@[simp] theorem State.issue_service (s : State) (o : Order) : (s.issue o).service = s.service := by unfold State.issue; split <;> rfl
@[simp] theorem State.issue_stage (s : State) (o : Order) : (s.issue o).stage = s.stage := by unfold State.issue; split <;> rfl
@[simp] theorem State.issue_freeCount (s : State) (o : Order) : (s.issue o).freeCount = s.freeCount := by unfold State.issue; split <;> rfl

/-! ### orderLeft -/

@[simp] theorem State.orderLeft_pending (s : State) : (s.orderLeft).pending = s.pending := rfl
@[simp] theorem State.orderLeft_format (s : State) : (s.orderLeft).format = s.format := rfl
@[simp] theorem State.orderLeft_layout (s : State) : (s.orderLeft).layout = s.layout := rfl
@[simp] theorem State.orderLeft_formatting (s : State) : (s.orderLeft).formatting = s.formatting := rfl
@[simp] theorem State.orderLeft_profiles (s : State) : (s.orderLeft).profiles = s.profiles := rfl
@[simp] theorem State.orderLeft_bands (s : State) : (s.orderLeft).bands = s.bands := rfl
@[simp] theorem State.orderLeft_map (s : State) : (s.orderLeft).map = s.map := rfl
@[simp] theorem State.orderLeft_sequence (s : State) : (s.orderLeft).sequence = s.sequence := rfl
@[simp] theorem State.orderLeft_table (s : State) : (s.orderLeft).table = s.table := rfl
@[simp] theorem State.orderLeft_resetRecord (s : State) : (s.orderLeft).resetRecord = s.resetRecord := rfl
@[simp] theorem State.orderLeft_portA (s : State) : (s.orderLeft).portA = s.portA := rfl
@[simp] theorem State.orderLeft_portB (s : State) : (s.orderLeft).portB = s.portB := rfl
@[simp] theorem State.orderLeft_scope (s : State) : (s.orderLeft).scope = s.scope := rfl
@[simp] theorem State.orderLeft_intervals (s : State) : (s.orderLeft).intervals = s.intervals := rfl
@[simp] theorem State.orderLeft_defaultQueue (s : State) : (s.orderLeft).defaultQueue = s.defaultQueue := rfl
@[simp] theorem State.orderLeft_queues (s : State) : (s.orderLeft).queues = s.queues := rfl
@[simp] theorem State.orderLeft_lastServed (s : State) : (s.orderLeft).lastServed = s.lastServed := rfl
@[simp] theorem State.orderLeft_window (s : State) : (s.orderLeft).window = s.window := rfl
@[simp] theorem State.orderLeft_deadline (s : State) : (s.orderLeft).deadline = s.deadline := rfl
@[simp] theorem State.orderLeft_path (s : State) : (s.orderLeft).path = s.path := rfl
@[simp] theorem State.orderLeft_mediaReset (s : State) : (s.orderLeft).mediaReset = s.mediaReset := rfl
@[simp] theorem State.orderLeft_recoveryWait (s : State) : (s.orderLeft).recoveryWait = s.recoveryWait := rfl
@[simp] theorem State.orderLeft_startWait (s : State) : (s.orderLeft).startWait = s.startWait := rfl
@[simp] theorem State.orderLeft_escalation (s : State) : (s.orderLeft).escalation = s.escalation := rfl
@[simp] theorem State.orderLeft_fetchRun (s : State) : (s.orderLeft).fetchRun = s.fetchRun := rfl
@[simp] theorem State.orderLeft_orderLimit (s : State) : (s.orderLeft).orderLimit = s.orderLimit := rfl
@[simp] theorem State.orderLeft_geometry (s : State) : (s.orderLeft).geometry = s.geometry := rfl
@[simp] theorem State.orderLeft_slots (s : State) : (s.orderLeft).slots = s.slots := rfl
@[simp] theorem State.orderLeft_fetchList (s : State) : (s.orderLeft).fetchList = s.fetchList := rfl
@[simp] theorem State.orderLeft_engine (s : State) : (s.orderLeft).engine = s.engine := rfl
@[simp] theorem State.orderLeft_marks (s : State) : (s.orderLeft).marks = s.marks := rfl
@[simp] theorem State.orderLeft_spindle (s : State) : (s.orderLeft).spindle = s.spindle := rfl
@[simp] theorem State.orderLeft_service (s : State) : (s.orderLeft).service = s.service := rfl
@[simp] theorem State.orderLeft_stage (s : State) : (s.orderLeft).stage = s.stage := rfl
@[simp] theorem State.orderLeft_freeCount (s : State) : (s.orderLeft).freeCount = s.freeCount := rfl

/-! ### countRead -/

@[simp] theorem State.countRead_pending (s : State) : (s.countRead).pending = s.pending := rfl
@[simp] theorem State.countRead_format (s : State) : (s.countRead).format = s.format := rfl
@[simp] theorem State.countRead_layout (s : State) : (s.countRead).layout = s.layout := rfl
@[simp] theorem State.countRead_formatting (s : State) : (s.countRead).formatting = s.formatting := rfl
@[simp] theorem State.countRead_profiles (s : State) : (s.countRead).profiles = s.profiles := rfl
@[simp] theorem State.countRead_bands (s : State) : (s.countRead).bands = s.bands := rfl
@[simp] theorem State.countRead_map (s : State) : (s.countRead).map = s.map := rfl
@[simp] theorem State.countRead_sequence (s : State) : (s.countRead).sequence = s.sequence := rfl
@[simp] theorem State.countRead_table (s : State) : (s.countRead).table = s.table := rfl
@[simp] theorem State.countRead_resetRecord (s : State) : (s.countRead).resetRecord = s.resetRecord := rfl
@[simp] theorem State.countRead_resetWaits (s : State) : (s.countRead).resetWaits = s.resetWaits := rfl
@[simp] theorem State.countRead_portA (s : State) : (s.countRead).portA = s.portA := rfl
@[simp] theorem State.countRead_portB (s : State) : (s.countRead).portB = s.portB := rfl
@[simp] theorem State.countRead_scope (s : State) : (s.countRead).scope = s.scope := rfl
@[simp] theorem State.countRead_intervals (s : State) : (s.countRead).intervals = s.intervals := rfl
@[simp] theorem State.countRead_defaultQueue (s : State) : (s.countRead).defaultQueue = s.defaultQueue := rfl
@[simp] theorem State.countRead_queues (s : State) : (s.countRead).queues = s.queues := rfl
@[simp] theorem State.countRead_lastServed (s : State) : (s.countRead).lastServed = s.lastServed := rfl
@[simp] theorem State.countRead_window (s : State) : (s.countRead).window = s.window := rfl
@[simp] theorem State.countRead_deadline (s : State) : (s.countRead).deadline = s.deadline := rfl
@[simp] theorem State.countRead_path (s : State) : (s.countRead).path = s.path := rfl
@[simp] theorem State.countRead_mediaReset (s : State) : (s.countRead).mediaReset = s.mediaReset := rfl
@[simp] theorem State.countRead_recoveryWait (s : State) : (s.countRead).recoveryWait = s.recoveryWait := rfl
@[simp] theorem State.countRead_startWait (s : State) : (s.countRead).startWait = s.startWait := rfl
@[simp] theorem State.countRead_escalation (s : State) : (s.countRead).escalation = s.escalation := rfl
@[simp] theorem State.countRead_fetchRun (s : State) : (s.countRead).fetchRun = s.fetchRun := rfl
@[simp] theorem State.countRead_orderLimit (s : State) : (s.countRead).orderLimit = s.orderLimit := rfl
@[simp] theorem State.countRead_geometry (s : State) : (s.countRead).geometry = s.geometry := rfl
@[simp] theorem State.countRead_slots (s : State) : (s.countRead).slots = s.slots := rfl
@[simp] theorem State.countRead_fetchList (s : State) : (s.countRead).fetchList = s.fetchList := rfl
@[simp] theorem State.countRead_engine (s : State) : (s.countRead).engine = s.engine := rfl
@[simp] theorem State.countRead_marks (s : State) : (s.countRead).marks = s.marks := rfl
@[simp] theorem State.countRead_spindle (s : State) : (s.countRead).spindle = s.spindle := rfl
@[simp] theorem State.countRead_service (s : State) : (s.countRead).service = s.service := rfl
@[simp] theorem State.countRead_stage (s : State) : (s.countRead).stage = s.stage := rfl

/-! ### noteHeadroom -/

@[simp] theorem State.noteHeadroom_pending (s : State) (a b : Nat) : (s.noteHeadroom a b).pending = s.pending := by unfold State.noteHeadroom; split <;> rfl
@[simp] theorem State.noteHeadroom_format (s : State) (a b : Nat) : (s.noteHeadroom a b).format = s.format := by unfold State.noteHeadroom; split <;> rfl
@[simp] theorem State.noteHeadroom_layout (s : State) (a b : Nat) : (s.noteHeadroom a b).layout = s.layout := by unfold State.noteHeadroom; split <;> rfl
@[simp] theorem State.noteHeadroom_formatting (s : State) (a b : Nat) : (s.noteHeadroom a b).formatting = s.formatting := by unfold State.noteHeadroom; split <;> rfl
@[simp] theorem State.noteHeadroom_profiles (s : State) (a b : Nat) : (s.noteHeadroom a b).profiles = s.profiles := by unfold State.noteHeadroom; split <;> rfl
@[simp] theorem State.noteHeadroom_bands (s : State) (a b : Nat) : (s.noteHeadroom a b).bands = s.bands := by unfold State.noteHeadroom; split <;> rfl
@[simp] theorem State.noteHeadroom_map (s : State) (a b : Nat) : (s.noteHeadroom a b).map = s.map := by unfold State.noteHeadroom; split <;> rfl
@[simp] theorem State.noteHeadroom_sequence (s : State) (a b : Nat) : (s.noteHeadroom a b).sequence = s.sequence := by unfold State.noteHeadroom; split <;> rfl
@[simp] theorem State.noteHeadroom_table (s : State) (a b : Nat) : (s.noteHeadroom a b).table = s.table := by unfold State.noteHeadroom; split <;> rfl
@[simp] theorem State.noteHeadroom_resetRecord (s : State) (a b : Nat) : (s.noteHeadroom a b).resetRecord = s.resetRecord := by unfold State.noteHeadroom; split <;> rfl
@[simp] theorem State.noteHeadroom_resetWaits (s : State) (a b : Nat) : (s.noteHeadroom a b).resetWaits = s.resetWaits := by unfold State.noteHeadroom; split <;> rfl
@[simp] theorem State.noteHeadroom_scope (s : State) (a b : Nat) : (s.noteHeadroom a b).scope = s.scope := by unfold State.noteHeadroom; split <;> rfl
@[simp] theorem State.noteHeadroom_intervals (s : State) (a b : Nat) : (s.noteHeadroom a b).intervals = s.intervals := by unfold State.noteHeadroom; split <;> rfl
@[simp] theorem State.noteHeadroom_defaultQueue (s : State) (a b : Nat) : (s.noteHeadroom a b).defaultQueue = s.defaultQueue := by unfold State.noteHeadroom; split <;> rfl
@[simp] theorem State.noteHeadroom_queues (s : State) (a b : Nat) : (s.noteHeadroom a b).queues = s.queues := by unfold State.noteHeadroom; split <;> rfl
@[simp] theorem State.noteHeadroom_lastServed (s : State) (a b : Nat) : (s.noteHeadroom a b).lastServed = s.lastServed := by unfold State.noteHeadroom; split <;> rfl
@[simp] theorem State.noteHeadroom_window (s : State) (a b : Nat) : (s.noteHeadroom a b).window = s.window := by unfold State.noteHeadroom; split <;> rfl
@[simp] theorem State.noteHeadroom_deadline (s : State) (a b : Nat) : (s.noteHeadroom a b).deadline = s.deadline := by unfold State.noteHeadroom; split <;> rfl
@[simp] theorem State.noteHeadroom_path (s : State) (a b : Nat) : (s.noteHeadroom a b).path = s.path := by unfold State.noteHeadroom; split <;> rfl
@[simp] theorem State.noteHeadroom_mediaReset (s : State) (a b : Nat) : (s.noteHeadroom a b).mediaReset = s.mediaReset := by unfold State.noteHeadroom; split <;> rfl
@[simp] theorem State.noteHeadroom_recoveryWait (s : State) (a b : Nat) : (s.noteHeadroom a b).recoveryWait = s.recoveryWait := by unfold State.noteHeadroom; split <;> rfl
@[simp] theorem State.noteHeadroom_startWait (s : State) (a b : Nat) : (s.noteHeadroom a b).startWait = s.startWait := by unfold State.noteHeadroom; split <;> rfl
@[simp] theorem State.noteHeadroom_escalation (s : State) (a b : Nat) : (s.noteHeadroom a b).escalation = s.escalation := by unfold State.noteHeadroom; split <;> rfl
@[simp] theorem State.noteHeadroom_fetchRun (s : State) (a b : Nat) : (s.noteHeadroom a b).fetchRun = s.fetchRun := by unfold State.noteHeadroom; split <;> rfl
@[simp] theorem State.noteHeadroom_orderLimit (s : State) (a b : Nat) : (s.noteHeadroom a b).orderLimit = s.orderLimit := by unfold State.noteHeadroom; split <;> rfl
@[simp] theorem State.noteHeadroom_geometry (s : State) (a b : Nat) : (s.noteHeadroom a b).geometry = s.geometry := by unfold State.noteHeadroom; split <;> rfl
@[simp] theorem State.noteHeadroom_slots (s : State) (a b : Nat) : (s.noteHeadroom a b).slots = s.slots := by unfold State.noteHeadroom; split <;> rfl
@[simp] theorem State.noteHeadroom_fetchList (s : State) (a b : Nat) : (s.noteHeadroom a b).fetchList = s.fetchList := by unfold State.noteHeadroom; split <;> rfl
@[simp] theorem State.noteHeadroom_engine (s : State) (a b : Nat) : (s.noteHeadroom a b).engine = s.engine := by unfold State.noteHeadroom; split <;> rfl
@[simp] theorem State.noteHeadroom_marks (s : State) (a b : Nat) : (s.noteHeadroom a b).marks = s.marks := by unfold State.noteHeadroom; split <;> rfl
@[simp] theorem State.noteHeadroom_spindle (s : State) (a b : Nat) : (s.noteHeadroom a b).spindle = s.spindle := by unfold State.noteHeadroom; split <;> rfl
@[simp] theorem State.noteHeadroom_service (s : State) (a b : Nat) : (s.noteHeadroom a b).service = s.service := by unfold State.noteHeadroom; split <;> rfl
@[simp] theorem State.noteHeadroom_stage (s : State) (a b : Nat) : (s.noteHeadroom a b).stage = s.stage := by unfold State.noteHeadroom; split <;> rfl
@[simp] theorem State.noteHeadroom_freeCount (s : State) (a b : Nat) : (s.noteHeadroom a b).freeCount = s.freeCount := by unfold State.noteHeadroom; split <;> rfl

/-! ### notePool -/

@[simp] theorem State.notePool_pending (s : State) (a b : Nat) : (s.notePool a b).pending = s.pending := by unfold State.notePool; split <;> rfl
@[simp] theorem State.notePool_format (s : State) (a b : Nat) : (s.notePool a b).format = s.format := by unfold State.notePool; split <;> rfl
@[simp] theorem State.notePool_layout (s : State) (a b : Nat) : (s.notePool a b).layout = s.layout := by unfold State.notePool; split <;> rfl
@[simp] theorem State.notePool_formatting (s : State) (a b : Nat) : (s.notePool a b).formatting = s.formatting := by unfold State.notePool; split <;> rfl
@[simp] theorem State.notePool_profiles (s : State) (a b : Nat) : (s.notePool a b).profiles = s.profiles := by unfold State.notePool; split <;> rfl
@[simp] theorem State.notePool_bands (s : State) (a b : Nat) : (s.notePool a b).bands = s.bands := by unfold State.notePool; split <;> rfl
@[simp] theorem State.notePool_map (s : State) (a b : Nat) : (s.notePool a b).map = s.map := by unfold State.notePool; split <;> rfl
@[simp] theorem State.notePool_sequence (s : State) (a b : Nat) : (s.notePool a b).sequence = s.sequence := by unfold State.notePool; split <;> rfl
@[simp] theorem State.notePool_table (s : State) (a b : Nat) : (s.notePool a b).table = s.table := by unfold State.notePool; split <;> rfl
@[simp] theorem State.notePool_resetRecord (s : State) (a b : Nat) : (s.notePool a b).resetRecord = s.resetRecord := by unfold State.notePool; split <;> rfl
@[simp] theorem State.notePool_resetWaits (s : State) (a b : Nat) : (s.notePool a b).resetWaits = s.resetWaits := by unfold State.notePool; split <;> rfl
@[simp] theorem State.notePool_scope (s : State) (a b : Nat) : (s.notePool a b).scope = s.scope := by unfold State.notePool; split <;> rfl
@[simp] theorem State.notePool_intervals (s : State) (a b : Nat) : (s.notePool a b).intervals = s.intervals := by unfold State.notePool; split <;> rfl
@[simp] theorem State.notePool_defaultQueue (s : State) (a b : Nat) : (s.notePool a b).defaultQueue = s.defaultQueue := by unfold State.notePool; split <;> rfl
@[simp] theorem State.notePool_queues (s : State) (a b : Nat) : (s.notePool a b).queues = s.queues := by unfold State.notePool; split <;> rfl
@[simp] theorem State.notePool_lastServed (s : State) (a b : Nat) : (s.notePool a b).lastServed = s.lastServed := by unfold State.notePool; split <;> rfl
@[simp] theorem State.notePool_window (s : State) (a b : Nat) : (s.notePool a b).window = s.window := by unfold State.notePool; split <;> rfl
@[simp] theorem State.notePool_deadline (s : State) (a b : Nat) : (s.notePool a b).deadline = s.deadline := by unfold State.notePool; split <;> rfl
@[simp] theorem State.notePool_path (s : State) (a b : Nat) : (s.notePool a b).path = s.path := by unfold State.notePool; split <;> rfl
@[simp] theorem State.notePool_mediaReset (s : State) (a b : Nat) : (s.notePool a b).mediaReset = s.mediaReset := by unfold State.notePool; split <;> rfl
@[simp] theorem State.notePool_recoveryWait (s : State) (a b : Nat) : (s.notePool a b).recoveryWait = s.recoveryWait := by unfold State.notePool; split <;> rfl
@[simp] theorem State.notePool_startWait (s : State) (a b : Nat) : (s.notePool a b).startWait = s.startWait := by unfold State.notePool; split <;> rfl
@[simp] theorem State.notePool_escalation (s : State) (a b : Nat) : (s.notePool a b).escalation = s.escalation := by unfold State.notePool; split <;> rfl
@[simp] theorem State.notePool_fetchRun (s : State) (a b : Nat) : (s.notePool a b).fetchRun = s.fetchRun := by unfold State.notePool; split <;> rfl
@[simp] theorem State.notePool_orderLimit (s : State) (a b : Nat) : (s.notePool a b).orderLimit = s.orderLimit := by unfold State.notePool; split <;> rfl
@[simp] theorem State.notePool_geometry (s : State) (a b : Nat) : (s.notePool a b).geometry = s.geometry := by unfold State.notePool; split <;> rfl
@[simp] theorem State.notePool_slots (s : State) (a b : Nat) : (s.notePool a b).slots = s.slots := by unfold State.notePool; split <;> rfl
@[simp] theorem State.notePool_fetchList (s : State) (a b : Nat) : (s.notePool a b).fetchList = s.fetchList := by unfold State.notePool; split <;> rfl
@[simp] theorem State.notePool_engine (s : State) (a b : Nat) : (s.notePool a b).engine = s.engine := by unfold State.notePool; split <;> rfl
@[simp] theorem State.notePool_marks (s : State) (a b : Nat) : (s.notePool a b).marks = s.marks := by unfold State.notePool; split <;> rfl
@[simp] theorem State.notePool_spindle (s : State) (a b : Nat) : (s.notePool a b).spindle = s.spindle := by unfold State.notePool; split <;> rfl
@[simp] theorem State.notePool_service (s : State) (a b : Nat) : (s.notePool a b).service = s.service := by unfold State.notePool; split <;> rfl
@[simp] theorem State.notePool_stage (s : State) (a b : Nat) : (s.notePool a b).stage = s.stage := by unfold State.notePool; split <;> rfl
@[simp] theorem State.notePool_freeCount (s : State) (a b : Nat) : (s.notePool a b).freeCount = s.freeCount := by unfold State.notePool; split <;> rfl

/-! ### noteFalls -/

@[simp] theorem State.noteFalls_pending (s old : State) : (s.noteFalls old).pending = s.pending := by simp only [State.noteFalls, State.notePool_pending, State.noteHeadroom_pending]
@[simp] theorem State.noteFalls_format (s old : State) : (s.noteFalls old).format = s.format := by simp only [State.noteFalls, State.notePool_format, State.noteHeadroom_format]
@[simp] theorem State.noteFalls_layout (s old : State) : (s.noteFalls old).layout = s.layout := by simp only [State.noteFalls, State.notePool_layout, State.noteHeadroom_layout]
@[simp] theorem State.noteFalls_formatting (s old : State) : (s.noteFalls old).formatting = s.formatting := by simp only [State.noteFalls, State.notePool_formatting, State.noteHeadroom_formatting]
@[simp] theorem State.noteFalls_profiles (s old : State) : (s.noteFalls old).profiles = s.profiles := by simp only [State.noteFalls, State.notePool_profiles, State.noteHeadroom_profiles]
@[simp] theorem State.noteFalls_bands (s old : State) : (s.noteFalls old).bands = s.bands := by simp only [State.noteFalls, State.notePool_bands, State.noteHeadroom_bands]
@[simp] theorem State.noteFalls_map (s old : State) : (s.noteFalls old).map = s.map := by simp only [State.noteFalls, State.notePool_map, State.noteHeadroom_map]
@[simp] theorem State.noteFalls_sequence (s old : State) : (s.noteFalls old).sequence = s.sequence := by simp only [State.noteFalls, State.notePool_sequence, State.noteHeadroom_sequence]
@[simp] theorem State.noteFalls_table (s old : State) : (s.noteFalls old).table = s.table := by simp only [State.noteFalls, State.notePool_table, State.noteHeadroom_table]
@[simp] theorem State.noteFalls_resetRecord (s old : State) : (s.noteFalls old).resetRecord = s.resetRecord := by simp only [State.noteFalls, State.notePool_resetRecord, State.noteHeadroom_resetRecord]
@[simp] theorem State.noteFalls_resetWaits (s old : State) : (s.noteFalls old).resetWaits = s.resetWaits := by simp only [State.noteFalls, State.notePool_resetWaits, State.noteHeadroom_resetWaits]
@[simp] theorem State.noteFalls_scope (s old : State) : (s.noteFalls old).scope = s.scope := by simp only [State.noteFalls, State.notePool_scope, State.noteHeadroom_scope]
@[simp] theorem State.noteFalls_intervals (s old : State) : (s.noteFalls old).intervals = s.intervals := by simp only [State.noteFalls, State.notePool_intervals, State.noteHeadroom_intervals]
@[simp] theorem State.noteFalls_defaultQueue (s old : State) : (s.noteFalls old).defaultQueue = s.defaultQueue := by simp only [State.noteFalls, State.notePool_defaultQueue, State.noteHeadroom_defaultQueue]
@[simp] theorem State.noteFalls_queues (s old : State) : (s.noteFalls old).queues = s.queues := by simp only [State.noteFalls, State.notePool_queues, State.noteHeadroom_queues]
@[simp] theorem State.noteFalls_lastServed (s old : State) : (s.noteFalls old).lastServed = s.lastServed := by simp only [State.noteFalls, State.notePool_lastServed, State.noteHeadroom_lastServed]
@[simp] theorem State.noteFalls_window (s old : State) : (s.noteFalls old).window = s.window := by simp only [State.noteFalls, State.notePool_window, State.noteHeadroom_window]
@[simp] theorem State.noteFalls_deadline (s old : State) : (s.noteFalls old).deadline = s.deadline := by simp only [State.noteFalls, State.notePool_deadline, State.noteHeadroom_deadline]
@[simp] theorem State.noteFalls_path (s old : State) : (s.noteFalls old).path = s.path := by simp only [State.noteFalls, State.notePool_path, State.noteHeadroom_path]
@[simp] theorem State.noteFalls_mediaReset (s old : State) : (s.noteFalls old).mediaReset = s.mediaReset := by simp only [State.noteFalls, State.notePool_mediaReset, State.noteHeadroom_mediaReset]
@[simp] theorem State.noteFalls_recoveryWait (s old : State) : (s.noteFalls old).recoveryWait = s.recoveryWait := by simp only [State.noteFalls, State.notePool_recoveryWait, State.noteHeadroom_recoveryWait]
@[simp] theorem State.noteFalls_startWait (s old : State) : (s.noteFalls old).startWait = s.startWait := by simp only [State.noteFalls, State.notePool_startWait, State.noteHeadroom_startWait]
@[simp] theorem State.noteFalls_escalation (s old : State) : (s.noteFalls old).escalation = s.escalation := by simp only [State.noteFalls, State.notePool_escalation, State.noteHeadroom_escalation]
@[simp] theorem State.noteFalls_fetchRun (s old : State) : (s.noteFalls old).fetchRun = s.fetchRun := by simp only [State.noteFalls, State.notePool_fetchRun, State.noteHeadroom_fetchRun]
@[simp] theorem State.noteFalls_orderLimit (s old : State) : (s.noteFalls old).orderLimit = s.orderLimit := by simp only [State.noteFalls, State.notePool_orderLimit, State.noteHeadroom_orderLimit]
@[simp] theorem State.noteFalls_geometry (s old : State) : (s.noteFalls old).geometry = s.geometry := by simp only [State.noteFalls, State.notePool_geometry, State.noteHeadroom_geometry]
@[simp] theorem State.noteFalls_slots (s old : State) : (s.noteFalls old).slots = s.slots := by simp only [State.noteFalls, State.notePool_slots, State.noteHeadroom_slots]
@[simp] theorem State.noteFalls_fetchList (s old : State) : (s.noteFalls old).fetchList = s.fetchList := by simp only [State.noteFalls, State.notePool_fetchList, State.noteHeadroom_fetchList]
@[simp] theorem State.noteFalls_engine (s old : State) : (s.noteFalls old).engine = s.engine := by simp only [State.noteFalls, State.notePool_engine, State.noteHeadroom_engine]
@[simp] theorem State.noteFalls_marks (s old : State) : (s.noteFalls old).marks = s.marks := by simp only [State.noteFalls, State.notePool_marks, State.noteHeadroom_marks]
@[simp] theorem State.noteFalls_spindle (s old : State) : (s.noteFalls old).spindle = s.spindle := by simp only [State.noteFalls, State.notePool_spindle, State.noteHeadroom_spindle]
@[simp] theorem State.noteFalls_service (s old : State) : (s.noteFalls old).service = s.service := by simp only [State.noteFalls, State.notePool_service, State.noteHeadroom_service]
@[simp] theorem State.noteFalls_stage (s old : State) : (s.noteFalls old).stage = s.stage := by simp only [State.noteFalls, State.notePool_stage, State.noteHeadroom_stage]
@[simp] theorem State.noteFalls_freeCount (s old : State) : (s.noteFalls old).freeCount = s.freeCount := by simp only [State.noteFalls, State.notePool_freeCount, State.noteHeadroom_freeCount]

/-! ### storeFills -/

@[simp] theorem State.storeFills_portA (s old : State) : (s.storeFills old).portA = s.portA := by simp only [State.storeFills, State.mapQueues_portA]
@[simp] theorem State.storeFills_portB (s old : State) : (s.storeFills old).portB = s.portB := by simp only [State.storeFills, State.mapQueues_portB]
@[simp] theorem State.storeFills_pending (s old : State) : (s.storeFills old).pending = s.pending := by simp only [State.storeFills, State.mapQueues_pending]
@[simp] theorem State.storeFills_format (s old : State) : (s.storeFills old).format = s.format := by simp only [State.storeFills, State.mapQueues_format]
@[simp] theorem State.storeFills_layout (s old : State) : (s.storeFills old).layout = s.layout := by simp only [State.storeFills, State.mapQueues_layout]
@[simp] theorem State.storeFills_formatting (s old : State) : (s.storeFills old).formatting = s.formatting := by simp only [State.storeFills, State.mapQueues_formatting]
@[simp] theorem State.storeFills_profiles (s old : State) : (s.storeFills old).profiles = s.profiles := by simp only [State.storeFills, State.mapQueues_profiles]
@[simp] theorem State.storeFills_bands (s old : State) : (s.storeFills old).bands = s.bands := by simp only [State.storeFills, State.mapQueues_bands]
@[simp] theorem State.storeFills_map (s old : State) : (s.storeFills old).map = s.map := by simp only [State.storeFills, State.mapQueues_map]
@[simp] theorem State.storeFills_sequence (s old : State) : (s.storeFills old).sequence = s.sequence := by simp only [State.storeFills, State.mapQueues_sequence]
@[simp] theorem State.storeFills_table (s old : State) : (s.storeFills old).table = s.table := by simp only [State.storeFills, State.mapQueues_table]
@[simp] theorem State.storeFills_resetRecord (s old : State) : (s.storeFills old).resetRecord = s.resetRecord := by simp only [State.storeFills, State.mapQueues_resetRecord]
@[simp] theorem State.storeFills_resetWaits (s old : State) : (s.storeFills old).resetWaits = s.resetWaits := by simp only [State.storeFills, State.mapQueues_resetWaits]
@[simp] theorem State.storeFills_scope (s old : State) : (s.storeFills old).scope = s.scope := by simp only [State.storeFills, State.mapQueues_scope]
@[simp] theorem State.storeFills_intervals (s old : State) : (s.storeFills old).intervals = s.intervals := by simp only [State.storeFills, State.mapQueues_intervals]
@[simp] theorem State.storeFills_defaultQueue (s old : State) : (s.storeFills old).defaultQueue = s.defaultQueue := by simp only [State.storeFills, State.mapQueues_defaultQueue]
@[simp] theorem State.storeFills_lastServed (s old : State) : (s.storeFills old).lastServed = s.lastServed := by simp only [State.storeFills, State.mapQueues_lastServed]
@[simp] theorem State.storeFills_window (s old : State) : (s.storeFills old).window = s.window := by simp only [State.storeFills, State.mapQueues_window]
@[simp] theorem State.storeFills_deadline (s old : State) : (s.storeFills old).deadline = s.deadline := by simp only [State.storeFills, State.mapQueues_deadline]
@[simp] theorem State.storeFills_path (s old : State) : (s.storeFills old).path = s.path := by simp only [State.storeFills, State.mapQueues_path]
@[simp] theorem State.storeFills_mediaReset (s old : State) : (s.storeFills old).mediaReset = s.mediaReset := by simp only [State.storeFills, State.mapQueues_mediaReset]
@[simp] theorem State.storeFills_recoveryWait (s old : State) : (s.storeFills old).recoveryWait = s.recoveryWait := by simp only [State.storeFills, State.mapQueues_recoveryWait]
@[simp] theorem State.storeFills_startWait (s old : State) : (s.storeFills old).startWait = s.startWait := by simp only [State.storeFills, State.mapQueues_startWait]
@[simp] theorem State.storeFills_escalation (s old : State) : (s.storeFills old).escalation = s.escalation := by simp only [State.storeFills, State.mapQueues_escalation]
@[simp] theorem State.storeFills_fetchRun (s old : State) : (s.storeFills old).fetchRun = s.fetchRun := by simp only [State.storeFills, State.mapQueues_fetchRun]
@[simp] theorem State.storeFills_orderLimit (s old : State) : (s.storeFills old).orderLimit = s.orderLimit := by simp only [State.storeFills, State.mapQueues_orderLimit]
@[simp] theorem State.storeFills_geometry (s old : State) : (s.storeFills old).geometry = s.geometry := by simp only [State.storeFills, State.mapQueues_geometry]
@[simp] theorem State.storeFills_slots (s old : State) : (s.storeFills old).slots = s.slots := by simp only [State.storeFills, State.mapQueues_slots]
@[simp] theorem State.storeFills_fetchList (s old : State) : (s.storeFills old).fetchList = s.fetchList := by simp only [State.storeFills, State.mapQueues_fetchList]
@[simp] theorem State.storeFills_engine (s old : State) : (s.storeFills old).engine = s.engine := by simp only [State.storeFills, State.mapQueues_engine]
@[simp] theorem State.storeFills_marks (s old : State) : (s.storeFills old).marks = s.marks := by simp only [State.storeFills, State.mapQueues_marks]
@[simp] theorem State.storeFills_spindle (s old : State) : (s.storeFills old).spindle = s.spindle := by simp only [State.storeFills, State.mapQueues_spindle]
@[simp] theorem State.storeFills_service (s old : State) : (s.storeFills old).service = s.service := by simp only [State.storeFills, State.mapQueues_service]
@[simp] theorem State.storeFills_stage (s old : State) : (s.storeFills old).stage = s.stage := by simp only [State.storeFills, State.mapQueues_stage]
@[simp] theorem State.storeFills_freeCount (s old : State) : (s.storeFills old).freeCount = s.freeCount := by simp only [State.storeFills, State.mapQueues_freeCount]

/-! ### The fields changed -/

@[simp] theorem State.modPort_self (s : State) (l : Link) (f : Port → Port) : (s.modPort l f).port l = f (s.port l) := by
  cases l <;> rfl

@[simp] theorem State.modPort_other (s : State) (l : Link) (f : Port → Port) :
    (s.modPort l f).port l.other = s.port l.other := by
  cases l <;> rfl

theorem State.modPort_portA (s : State) (l : Link) (f : Port → Port) :
    (s.modPort l f).portA = if l = .a then f s.portA else s.portA := by
  cases l <;> rfl

theorem State.modPort_portB (s : State) (l : Link) (f : Port → Port) :
    (s.modPort l f).portB = if l = .b then f s.portB else s.portB := by
  cases l <;> rfl

@[simp] theorem State.modQueue_queue (s : State) (q p : Fin 16) (f : Queue → Queue) :
    (s.modQueue q f).queue p = if q = p then f (s.queue p) else s.queue p := by
  by_cases h : q = p
  · subst h; simp [State.modQueue, State.queue]
  · simp [State.modQueue, State.queue, h, Fin.val_inj]

@[simp] theorem State.mapQueues_queue (s : State) (q : Fin 16) (f : Fin 16 → Queue → Queue) :
    (s.mapQueues f).queue q = f q (s.queue q) := by
  simp [State.mapQueues, State.queue]

@[simp] theorem State.modSlot_slot (s : State) (i j : Fin 16) (f : FetchSlot → FetchSlot) :
    (s.modSlot i f).slot j = if i = j then f (s.slot j) else s.slot j := by
  by_cases h : i = j
  · subst h; simp [State.modSlot, State.slot]
  · simp [State.modSlot, State.slot, h, Fin.val_inj]

@[simp] theorem State.mapSlots_slot (s : State) (i : Fin 16) (f : Fin 16 → FetchSlot → FetchSlot) :
    (s.mapSlots f).slot i = f i (s.slot i) := by
  simp [State.mapSlots, State.slot]

@[simp] theorem State.setMap_map (s : State) (m : List Entry) : (s.setMap m).map = m := rfl

@[simp] theorem State.setMap_bands (s : State) (m : List Entry) :
    (s.setMap m).bands = s.bands.mapIdx fun i b => { b with valid := validOf m i } := rfl

@[simp] theorem State.mapWrites_length (s : State) (f : WriteOrder → WriteOrder) :
    (s.mapWrites f).window.length = s.window.length := by
  simp [State.mapWrites]

/-- A port of a state whose queues are the same is the same: queues and slots read only their own field. -/
theorem State.queue_congr {s t : State} (h : s.queues = t.queues) (q : Fin 16) : s.queue q = t.queue q := by
  simp [State.queue, h]

theorem State.port_congr {s t : State} (ha : s.portA = t.portA) (hb : s.portB = t.portB) (l : Link) : s.port l = t.port l := by
  cases l <;> simp [State.port, ha, hb]

end Sys2Proof.Machine
end

