-- ==== Sys2Proof/Laws/Settle.lean ====
section
/-! SUPPORT. What the settling of a step leaves as it was (Kept, in Safety.lean): one lemma for each operation it is made of, and
one for the whole. -/

namespace Sys2Proof.Machine

/-! ### Kept, as a relation -/

theorem PortKept.refl (p : Port) : PortKept p p := ⟨rfl, rfl, rfl, rfl, rfl, rfl, rfl, List.prefix_refl _⟩

theorem PortKept.trans {p q r : Port} (h : PortKept p q) (k : PortKept q r) : PortKept p r :=
  ⟨k.state.trans h.state, k.rx.trans h.rx, k.creditsHeld.trans h.creditsHeld, k.creditsGranted.trans h.creditsGranted,
   k.enabled.trans h.enabled, k.selection.trans h.selection, k.pattern.trans h.pattern, h.txq.trans k.txq⟩

theorem QueueKept.refl (q : Queue) : QueueKept q q := ⟨rfl, rfl, rfl⟩

theorem QueueKept.trans {p q r : Queue} (h : QueueKept p q) (k : QueueKept q r) : QueueKept p r :=
  ⟨k.depth.trans h.depth, k.offset.trans h.offset, k.hold.trans h.hold⟩

theorem Kept.refl (s : State) : Kept s s := by
  constructor <;> first | rfl | exact PortKept.refl _ | exact fun _ => QueueKept.refl _

theorem Kept.trans {s t u : State} (h : Kept s t) (k : Kept t u) : Kept s u where
  pending := k.pending.trans h.pending
  format := k.format.trans h.format
  layout := k.layout.trans h.layout
  formatting := k.formatting.trans h.formatting
  profiles := k.profiles.trans h.profiles
  sequence := k.sequence.trans h.sequence
  scope := k.scope.trans h.scope
  intervals := k.intervals.trans h.intervals
  defaultQueue := k.defaultQueue.trans h.defaultQueue
  lastServed := k.lastServed.trans h.lastServed
  window := k.window.trans h.window
  deadline := k.deadline.trans h.deadline
  path := k.path.trans h.path
  mediaReset := k.mediaReset.trans h.mediaReset
  recoveryWait := k.recoveryWait.trans h.recoveryWait
  escalation := k.escalation.trans h.escalation
  fetchRun := k.fetchRun.trans h.fetchRun
  orderLimit := k.orderLimit.trans h.orderLimit
  geometry := k.geometry.trans h.geometry
  fetchList := k.fetchList.trans h.fetchList
  marks := k.marks.trans h.marks
  freeCount := k.freeCount.trans h.freeCount
  portA := h.portA.trans k.portA
  portB := h.portB.trans k.portB
  queues := fun q => (h.queues q).trans (k.queues q)

theorem Kept.foldl {α : Type} {f : State → α → State} (h : ∀ s a, Kept s (f s a)) (l : List α) (s : State) :
    Kept s (l.foldl f s) := by
  induction l generalizing s with
  | nil => exact Kept.refl s
  | cons a l ih => exact (h s a).trans (ih (f s a))

/-- The port of a link is kept. -/
theorem Kept.port {s t : State} (h : Kept s t) (l : Link) : PortKept (s.port l) (t.port l) := by
  cases l
  · exact h.portA
  · exact h.portB

/-! ### The updates -/

theorem Kept.setPort {s : State} {l : Link} {p : Port} (h : PortKept (s.port l) p) : Kept s (s.setPort l p) := by
  cases l <;> constructor <;> first | rfl | exact h | exact PortKept.refl _ | exact fun _ => QueueKept.refl _

theorem Kept.modPort {s : State} {l : Link} {f : Port → Port} (h : PortKept (s.port l) (f (s.port l))) :
    Kept s (s.modPort l f) := Kept.setPort h

theorem Kept.raise (s : State) (l : Link) (k : Notice) (d : Nat) : Kept s (s.raise l k d) :=
  Kept.modPort ⟨rfl, rfl, rfl, rfl, rfl, rfl, rfl, List.prefix_refl _⟩

theorem Kept.raiseBoth (s : State) (k : Notice) (d : Nat) : Kept s (s.raiseBoth k d) :=
  (Kept.raise s .a k d).trans (Kept.raise _ .b k d)

theorem Kept.appendFrames (s : State) (l : Link) (fs : List OutFrame) :
    Kept s (s.modPort l fun p => { p with txq := p.txq ++ fs }) :=
  Kept.modPort ⟨rfl, rfl, rfl, rfl, rfl, rfl, rfl, List.prefix_append _ _⟩

theorem Kept.pushFrame (s : State) (l : Link) (f : OutFrame) : Kept s (s.pushFrame l f) := Kept.appendFrames s l [f]

theorem Kept.mapQueues {s : State} {f : Fin 16 → Queue → Queue} (h : ∀ q, QueueKept (s.queue q) (f q (s.queue q))) :
    Kept s (s.mapQueues f) := by
  constructor <;> first
    | (simp only [State.mapQueues]; done)
    | exact PortKept.refl _
    | (intro q; rw [State.mapQueues_queue]; exact h q)

theorem Kept.modQueue {s : State} {q : Fin 16} {f : Queue → Queue} (h : QueueKept (s.queue q) (f (s.queue q))) :
    Kept s (s.modQueue q f) := by
  constructor <;> first
    | rfl
    | exact PortKept.refl _
    | (intro p; rw [State.modQueue_queue]; split
       · next e => exact e ▸ h
       · exact QueueKept.refl _)

theorem Kept.clearPoolStalls (s : State) : Kept s s.clearPoolStalls := Kept.mapQueues fun _ => ⟨rfl, rfl, rfl⟩

theorem Kept.mapSlots (s : State) (f : Fin 16 → FetchSlot → FetchSlot) : Kept s (s.mapSlots f) := by
  constructor <;> first
    | (simp only [State.mapSlots]; done)
    | exact PortKept.refl _
    | exact fun _ => QueueKept.refl _

theorem Kept.modSlot (s : State) (i : Fin 16) (f : FetchSlot → FetchSlot) : Kept s (s.modSlot i f) := by
  constructor <;> first | rfl | exact PortKept.refl _ | exact fun _ => QueueKept.refl _

theorem Kept.modBand (s : State) (b : Nat) (f : Band → Band) : Kept s (s.modBand b f) := by
  constructor <;> first | rfl | exact PortKept.refl _ | exact fun _ => QueueKept.refl _

theorem Kept.mapBands (s : State) (f : Band → Band) : Kept s (s.mapBands f) := by
  constructor <;> first | rfl | exact PortKept.refl _ | exact fun _ => QueueKept.refl _

theorem Kept.setMap (s : State) (m : List Entry) : Kept s (s.setMap m) := by
  constructor <;> first | rfl | exact PortKept.refl _ | exact fun _ => QueueKept.refl _

theorem Kept.mapWrites (s : State) (f : WriteOrder → WriteOrder) : Kept s (s.mapWrites f) := by
  constructor <;> first
    | rfl
    | exact State.mapWrites_length s f
    | exact PortKept.refl _
    | exact fun _ => QueueKept.refl _

theorem Kept.table (s : State) (t : List ReqEntry) : Kept s { s with table := t } := by
  constructor <;> first | rfl | exact PortKept.refl _ | exact fun _ => QueueKept.refl _

theorem Kept.modEntry (s : State) (k : Key) (f : ReqEntry → ReqEntry) : Kept s (s.modEntry k f) := Kept.table s _

theorem Kept.dropEntry (s : State) (k : Key) : Kept s (s.dropEntry k) := Kept.table s _

theorem Kept.engine (s : State) (e : Engine) : Kept s { s with engine := e } := by
  constructor <;> first | rfl | exact PortKept.refl _ | exact fun _ => QueueKept.refl _

theorem Kept.spindle (s : State) (x : Spindle) : Kept s { s with spindle := x } := by
  constructor <;> first | rfl | exact PortKept.refl _ | exact fun _ => QueueKept.refl _

theorem Kept.reset (s : State) (r : Option ResetRecord) (n : Option Nat) :
    Kept s { s with resetRecord := r, resetWaits := n } := by
  constructor <;> first | rfl | exact PortKept.refl _ | exact fun _ => QueueKept.refl _

theorem Kept.stage (s : State) (x : Service) (g : StartStage) (w : Bool) :
    Kept s { s with service := x, stage := g, startWait := w } := by
  constructor <;> first | rfl | exact PortKept.refl _ | exact fun _ => QueueKept.refl _

/-! ### Answers -/

theorem Kept.answerEntry (s : State) (k : Key) (x : Status) (r : Result) : Kept s (s.answerEntry k x r) := by
  unfold State.answerEntry
  split
  · exact Kept.refl s
  · split
    · exact Kept.refl s
    · split
      · exact Kept.dropEntry s k
      · exact (Kept.modEntry s k _).trans (Kept.pushFrame _ _ _)

theorem Kept.answerAll (s : State) (ks : List Key) (x : Status) : Kept s (s.answerAll ks x) :=
  Kept.foldl (fun s k => Kept.answerEntry s k x .none) ks s

theorem Kept.acknowledge (s : State) (k : Key) : Kept s (s.acknowledge k) :=
  (Kept.mapQueues fun _ => ⟨rfl, rfl, rfl⟩).trans (Kept.mapWrites _ _)

theorem Kept.answerPutEntry (s : State) (e : ReqEntry) : Kept s (s.answerPutEntry e) := by
  unfold State.answerPutEntry
  split
  · split
    · unfold State.answerPut
      dsimp only
      split
      · exact (Kept.acknowledge s _).trans (Kept.answerEntry _ _ _ _)
      · exact Kept.answerEntry _ _ _ _
    · exact Kept.refl s
  · exact Kept.refl s

theorem Kept.answerPuts (s : State) : Kept s s.answerPuts := Kept.foldl Kept.answerPutEntry s.table s

theorem Kept.clearMarks (s : State) : Kept s s.clearMarks := by
  refine (Kept.mapQueues (f := fun q x => if s.markCleared q then { x with mark := false, waiting := [] } else x)
    fun q => ?_).trans (Kept.foldl (fun s k => ?_) _ _)
  · split
    · exact ⟨rfl, rfl, rfl⟩
    · exact QueueKept.refl _
  · split
    · exact Kept.refl s
    · exact Kept.answerEntry s k _ _

theorem Kept.finishReset (s : State) : Kept s s.finishReset := by
  unfold State.finishReset
  split
  · dsimp only
    split
    · exact Kept.reset s s.resetRecord none
    · unfold State.answerReset
      dsimp only
      split
      · exact Kept.reset s none none
      · exact (Kept.reset s none none).trans (Kept.pushFrame _ _ _)
  · exact Kept.refl s

/-! ### The engine and the spindle -/

theorem Kept.resolveLostrels (s : State) : Kept s s.resolveLostrels := by
  refine Kept.foldl (fun s r => ?_) _ s
  exact (Kept.setMap s _).trans ((Kept.modQueue (by exact ⟨rfl, rfl, rfl⟩)).trans (Kept.clearPoolStalls _))

theorem Kept.endRun (s : State) (x : Status) : Kept s (s.endRun x) := by
  unfold State.endRun
  dsimp only
  split
  · exact Kept.engine s _
  · exact (Kept.engine s _).trans (Kept.answerEntry _ _ _ _)

theorem Kept.continueRun (s : State) : Kept s s.continueRun := by
  unfold State.continueRun
  split
  · exact Kept.engine s _
  · exact Kept.endRun s .ok

theorem Kept.victimReleased (s : State) : Kept s s.victimReleased := by
  unfold State.victimReleased
  dsimp only
  split
  · exact (Kept.engine s _).trans (Kept.endRun _ .ok)
  · exact (Kept.engine s _).trans (Kept.continueRun _)

theorem Kept.releaseEmptied (s : State) : Kept s s.releaseEmptied := by
  refine Kept.foldl (fun s x => ?_) _ s
  unfold State.releaseBand
  have h := (Kept.modBand s x.2 Band.released).trans (Kept.raiseBoth _ .relocationDone x.2)
  dsimp only
  split
  · exact h.trans (Kept.victimReleased _)
  · exact h

theorem Kept.setHand (s : State) (h : Option TrackInHand) : Kept s (s.setHand h) := Kept.engine s _

theorem Kept.searchTrack (s : State) : Kept s s.searchTrack := by
  unfold State.searchTrack
  split
  · exact Kept.refl s
  · split
    · exact Kept.setHand s _
    · exact Kept.engine s _

theorem Kept.testGates (s : State) : Kept s s.testGates := by
  unfold State.testGates
  split
  · split
    · exact Kept.setHand s _
    · exact Kept.refl s
  · exact Kept.refl s

theorem Kept.advanceEngine (s : State) : Kept s s.advanceEngine := by
  unfold State.advanceEngine
  split
  · split
    · split
      · exact ((Kept.setHand s none).trans (Kept.searchTrack _)).trans (Kept.testGates _)
      · exact Kept.testGates s
    · exact (Kept.searchTrack s).trans (Kept.testGates _)
  · exact Kept.refl s

theorem Kept.release (s : State) : Kept s s.release := by
  unfold State.release
  split
  · exact Kept.spindle s _
  · exact Kept.spindle s _
  · exact Kept.spindle s _
  · exact Kept.spindle s _
  · exact Kept.refl s
  · exact Kept.refl s

theorem Kept.startRelocation (s old : State) (ended : Bool) : Kept s (s.startRelocation old ended) := by
  unfold State.startRelocation
  split
  · dsimp only
    split
    · exact (Kept.engine s _).trans (Kept.release _)
    · exact Kept.engine s _
  · exact Kept.refl s

/-! ### Start-up -/

theorem Kept.clearReads (s : State) : Kept s s.clearReads := (Kept.mapBands s _).trans (Kept.releaseEmptied _)

theorem Kept.enterService (s : State) : Kept s s.enterService := by
  unfold State.enterService
  dsimp only
  have h := ((Kept.clearReads s).trans (Kept.mapBands _ fun b => b.skipRest.shut.uncleaned)).trans
    (Kept.stage _ .inService .done false)
  split
  · exact h.trans (Kept.raiseBoth _ _ _)
  · exact h

theorem Kept.nextFooter (s : State) : Kept s s.nextFooter := by
  unfold State.nextFooter
  split
  · exact Kept.enterService s
  · exact Kept.stage s s.service _ s.startWait

theorem Kept.advanceStartUp (s : State) : Kept s s.advanceStartUp := by
  unfold State.advanceStartUp
  split
  · unfold State.beginReconciliation
    split
    · exact (Kept.clearReads s).trans (Kept.nextFooter _)
    · exact Kept.enterService s
  · exact Kept.refl s

/-! ### Gets, timers, stalls, notices and transmissions -/

theorem Kept.deliverSlot (s : State) (i : Fin 16) : Kept s (s.deliverSlot i) := by
  unfold State.deliverSlot
  dsimp only
  split
  · split
    · exact Kept.refl s
    · split
      · exact (Kept.appendFrames s _ _).trans ((Kept.answerEntry _ _ _ _).trans (Kept.modSlot _ _ _))
      · exact (Kept.appendFrames s _ _).trans (Kept.modSlot _ _ _)
  · exact Kept.refl s

theorem Kept.deliverPattern (s : State) (e : ReqEntry) : Kept s (s.deliverPattern e) := by
  unfold State.deliverPattern
  split
  · split
    · exact Kept.refl s
    · dsimp only
      split
      · exact (Kept.modEntry s _ _).trans ((Kept.pushFrame _ _ _).trans (Kept.answerEntry _ _ _ _))
      · exact (Kept.modEntry s _ _).trans (Kept.pushFrame _ _ _)
  · exact Kept.refl s

theorem Kept.deliver (s : State) : Kept s s.deliver :=
  (Kept.foldl Kept.deliverSlot _ s).trans (Kept.foldl Kept.deliverPattern _ _)

theorem Kept.freeEnded (s : State) : Kept s s.freeEnded := Kept.mapSlots s _

theorem Kept.holdTimers (s : State) : Kept s s.holdTimers := Kept.mapQueues fun _ => ⟨rfl, rfl, rfl⟩

theorem Kept.clearStalls (s old : State) : Kept s (s.clearStalls old) := by
  unfold State.clearStalls
  split
  · exact Kept.clearPoolStalls s
  · exact Kept.refl s

theorem Kept.askRelease (s old : State) : Kept s (s.askRelease old) := by
  unfold State.askRelease
  split
  · exact Kept.release s
  · exact Kept.refl s

theorem Kept.raiseSpace (s old : State) : Kept s (s.raiseSpace old) :=
  Kept.foldl (fun s _ => Kept.raiseBoth s _ _) _ s

theorem Kept.storeFills (s old : State) : Kept s (s.storeFills old) := by
  refine Kept.mapQueues fun q => ?_
  split
  · exact QueueKept.refl _
  · exact ⟨rfl, rfl, rfl⟩

theorem Kept.storeStalls (s : State) : Kept s s.storeStalls := Kept.mapQueues fun _ => ⟨rfl, rfl, rfl⟩

theorem PortKept.begin_ (p : Port) : PortKept p p.begin_ := by
  unfold Port.begin_
  split
  · exact ⟨rfl, rfl, rfl, rfl, rfl, rfl, rfl, List.prefix_refl _⟩
  · exact PortKept.refl p

theorem Kept.beginSending (s : State) : Kept s s.beginSending := by
  constructor <;> first | rfl | exact PortKept.begin_ _ | exact fun _ => QueueKept.refl _

/-! ### The whole -/

theorem Kept.settleRecords (s : State) : Kept s s.settleRecords :=
  (Kept.advanceStartUp s).trans <| (Kept.resolveLostrels _).trans <| (Kept.releaseEmptied _).trans <|
    (Kept.advanceEngine _).trans <| (Kept.deliver _).trans (Kept.freeEnded _)

theorem Kept.settleRequests (s old : State) : Kept s (s.settleRequests old) :=
  (Kept.answerPuts s).trans <| (Kept.clearMarks _).trans <| (Kept.storeFills _ old).trans (Kept.finishReset _)

theorem Kept.settleWork (s old : State) (ended : Bool) : Kept s (s.settleWork old ended) :=
  (Kept.startRelocation s old ended).trans <| (Kept.holdTimers _).trans <| (Kept.clearStalls _ old).trans <|
    (Kept.askRelease _ old).trans (Kept.raiseSpace _ old)

/-- The settling of a step keeps what Kept lists. -/
theorem Kept.settleWhole (s old : State) : Kept s (s.settle old) :=
  (Kept.settleRecords s).trans <| (Kept.settleRequests _ old).trans <| (Kept.settleWork _ old _).trans <|
    (Kept.storeStalls _).trans (Kept.beginSending _)

end Sys2Proof.Machine
end

