-- ==== Sys2Proof/Laws/Ops.lean ====
section
/-! SUPPORT. What the shared operations do, said once: a frame taken, a request handed to its owner or refused, an answer given, the
gates of a request that needs the part in service; and that a finished effect gives the step its end. -/

namespace Sys2Proof.Machine

/-! ### How a step ends -/

theorem gives_of_finish {c : Instr} {s X : State} (h : exec c s = finish s X) : Gives c s X :=
  ⟨_, h, rfl, Kept.settleWhole X s⟩

/-! ### Completions taken (R90, R91, R99, R171) -/

/-- The oldest order leaves the window with a completion it accepts: the next order's deadline starts, and a reset in progress
waits for one order less. -/
theorem takeCompletion_good {s : State} {kind : Nat} {c : Completion} {o : Order} {rest : List Order} (hp : s.path = .ready)
    (hw : s.window = o :: rest) (hc : c.check = checkValue (completionBytes kind c)) (hk : o.code = kind)
    (ha : o.accepts c = true) :
    s.takeCompletion kind c = State.orderCompleted { s with
      window := rest, deadline := rest.head?.map s.limitOf, resetWaits := s.resetWaits.map fun n => n - 1 } c o := by
  simp [State.takeCompletion, hp, hw, hc, hk, ha, State.startDeadline, State.orderLeft]
  congr 2

/-- Any other completion is a sequencer fault. -/
theorem takeCompletion_fault {s : State} {kind : Nat} {c : Completion} {o : Order} {rest : List Order} (hp : s.path = .ready)
    (hw : s.window = o :: rest) (ha : ¬ (c.check = checkValue (completionBytes kind c) ∧ o.code = kind ∧ o.accepts c = true)) :
    s.takeCompletion kind c = s.mediaFault := by
  simp only [State.takeCompletion, hp, hw, ne_eq, not_true_eq_false, if_false]
  rw [if_neg ha]

/-! ### Orders failed and withdrawn (R101, R105), and their terms in the statements -/

theorem failOrders_cons (down : Bool) (o : Order) (rest : List Order) (s : State) :
    failOrders down (o :: rest) s = failOrders down rest (State.failOrder { s with window := rest } down o).orderLeft := rfl

theorem loadEnds_eq (s : State) (status : Status) (g : GeoOrder) : s.loadEnds status g = s.geometryLost status g := by
  unfold State.loadEnds State.geometryLost
  cases g.origin <;> rfl

theorem readDown_eq (s : State) (f : FetchRead) : s.readDown f = s.downRead f := by
  simp only [State.readDown, State.downRead, FetchSlot.isActive, beq_iff_eq, State.failNeeded, State.modSlot]
  split <;> simp

theorem opening_eq (s : State) (q : Fin 16) (b : Nat) : s.opening q b = s.modBand b (Band.open_ q) := rfl

/-! ### Thresholds (R57) -/

/-- What a Set of the thresholds does to its queue. -/
theorem setThresholds_eq (s : State) (q : Fin 16) (offset hold : Nat) :
    s.setThresholds q offset hold = s.modQueue q fun x =>
      { x with offset := offset, hold := hold, almostFull := q.val < 15 && s.space q ≤ offset } := by
  have h : (s.modQueue q fun x => { x with offset := offset, hold := hold }).fillsUp q
      = (decide (q.val < 15) && decide (s.space q ≤ offset)) := by
    simp [State.fillsUp, State.space, State.occupancy, State.ordersOf, State.writeOrders]
  simp only [State.setThresholds, h]
  simp [State.modQueue]

/-! ### Frames taken (R159) -/

theorem takeFrame_taken {s p : State} {l : Link} {f : InFrame} (h : Taken s l f p) (m : State → State) :
    s.takeFrame l true f m = m p := by
  unfold Taken at h
  simp only [State.takeFrame, h]

theorem takeRequest_takes {s p : State} {l : Link} {tag : Tag} {r : Request} (h : Takes s l tag r p)
    (owner : Key → State → State) : s.takeRequest l tag r owner = owner ⟨l, tag⟩ p := by
  simp only [State.takeRequest, takeFrame_taken h.taken, State.handOver, h.passes]

/-- A request that is taken gives what its owner makes of it. -/
theorem gives_takes {c : Instr} {s p X : State} {l : Link} {tag : Tag} {r : Request} {owner : Key → State → State}
    (hc : exec c s = finish s (s.takeRequest l tag r owner)) (h : Takes s l tag r p) (hx : owner ⟨l, tag⟩ p = X) :
    Gives c s X := by
  apply gives_of_finish
  rw [hc, takeRequest_takes h, hx]

theorem takeRequest_refused {s p : State} {l : Link} {tag : Tag} {r : Request} {x : Status} (h : Taken s l (.request tag r) p)
    (hx : p.requestRefusal ⟨l, tag⟩ r = some x) (owner : Key → State → State) :
    s.takeRequest l tag r owner = p.answerNow ⟨l, tag⟩ r.kind x .none := by
  simp only [State.takeRequest, takeFrame_taken h, State.handOver, hx]

/-! ### Service (R6, R49) -/

theorem serviceRefusal_serving {s : State} (h : Serving s) : s.serviceRefusal = none := by
  simp [State.serviceRefusal, h.1, h.2]

theorem serviceRefusal_unserving {s : State} {r : Status} (h : Unserving s r) : s.serviceRefusal = some r := by
  rcases h with ⟨h, rfl⟩ | ⟨h, k, rfl⟩ | ⟨h, k, rfl⟩ <;> simp_all [State.serviceRefusal]

/-! ### Answers -/

/-- An immediate answer keeps the receive slot and the tag until it is sent, and changes nothing else (R149, R160). -/
theorem answerNow_eq (s : State) (k : Key) (kind : Nat) (x : Status) (r : Result) :
    s.answerNow k kind x r = s.modPort k.origin fun p => { p with txq := p.txq ++ [immediate k.origin k.tag kind x r] } := rfl

theorem answerIf_true {s : State} {k : Key} {kind : Nat} {x : Status} {f : State → State} {ok : Bool} (h : ok = true) :
    s.answerIf k kind ok x f = (f s).answerNow k kind .ok .none := by
  simp [State.answerIf, h]

theorem answerIf_false {s : State} {k : Key} {kind : Nat} {x : Status} {f : State → State} {ok : Bool} (h : ok = false) :
    s.answerIf k kind ok x f = s.answerNow k kind x .none := by
  simp [State.answerIf, h]

/-- An entry not answered yet is answered on its reply link (R162), and no other entry is touched. -/
theorem answerEntry_open {s : State} {k : Key} {e : ReqEntry} (h : s.entry k = some e) (ha : e.answered = false)
    (hd : e.discarded = false) (x : Status) (r : Result) :
    s.answerEntry k x r = (s.modEntry k fun e => { e with answered := true }).pushFrame e.reply
      { tag := k.tag, origin := k.origin, redirected := e.redirected, holds := .entry
        body := .response e.info.kind x r } := by
  simp [State.answerEntry, h, ha, hd]

theorem answerEntry_none {s : State} {k : Key} (h : s.entry k = none) (x : Status) (r : Result) :
    s.answerEntry k x r = s := by
  simp [State.answerEntry, h]

/-! ### The answer of an abandoned Put (R155) -/

/-- An abandoned Put takes its answer where nothing is outstanding of it; no record is acknowledged. -/
theorem answerAbandoned_eq {s : State} {k : Key} {p : PutInfo} (h : s.putInfo k = some p) (hs : p.settling = true) :
    s.answerAbandoned k = if p.pieces = 0 then s.answerEntry k p.outcome.status p.result else s := by
  simp [State.answerAbandoned, h, PutInfo.due, State.answerPut, hs]

/-! ### What an answer and a notice leave as it was -/

/-- An answer changes the Request Table and the link ports alone. -/
theorem answerEntry_only (s : State) (k : Key) (x : Status) (r : Result) :
    ∃ t a b, s.answerEntry k x r = { s with table := t, portA := a, portB := b } := by
  unfold State.answerEntry
  split
  · exact ⟨_, _, _, rfl⟩
  · split
    · exact ⟨_, _, _, rfl⟩
    · split
      · exact ⟨_, _, _, rfl⟩
      · rename_i e _ _ _
        cases e.reply <;> exact ⟨_, _, _, rfl⟩

theorem answerAll_only (s : State) (ks : List Key) (x : Status) :
    ∃ t a b, s.answerAll ks x = { s with table := t, portA := a, portB := b } := by
  unfold State.answerAll
  induction ks generalizing s with
  | nil => exact ⟨_, _, _, rfl⟩
  | cons k ks ih =>
    obtain ⟨t, a, b, h⟩ := answerEntry_only s k x .none
    obtain ⟨t', a', b', h'⟩ := ih (s.answerEntry k x .none)
    rw [List.foldl_cons, h', h]
    exact ⟨_, _, _, rfl⟩

/-- A notice changes the link ports alone. -/
theorem raise_only (s : State) (l : Link) (n : Notice) (d : Nat) :
    ∃ a b, s.raise l n d = { s with portA := a, portB := b } := by
  cases l <;> exact ⟨_, _, rfl⟩

theorem raiseBoth_only (s : State) (n : Notice) (d : Nat) :
    ∃ a b, s.raiseBoth n d = { s with portA := a, portB := b } := ⟨_, _, rfl⟩

/-! ### Ports -/

theorem modPort_id (s : State) (l : Link) : (s.modPort l fun p => p) = s := by cases l <;> rfl

theorem modQueue_same (s : State) (q : Fin 16) : (s.modQueue q fun x => x) = s := by
  simp [State.modQueue]

theorem port_modPort (s : State) (l : Link) (f : Port → Port) : (s.modPort l f).port l = f (s.port l) := by cases l <;> rfl

theorem port_modPort_other (s : State) (l : Link) (f : Port → Port) : (s.modPort l f).port l.other = s.port l.other := by
  cases l <;> rfl

theorem modPort_modPort (s : State) (l : Link) (f g : Port → Port) :
    (s.modPort l f).modPort l g = s.modPort l fun p => g (f p) := by cases l <;> rfl

/-! ### Start of a spin-up (R141, R143) -/

theorem release_rests {s : State} (h : s.spindle.state = .parked ∨ s.spindle.state = .stopped) : s.release = s.startSpin := by
  rcases h with h | h <;> simp [State.release, h]

/-! ### Bytes -/

@[simp] theorem leBytes_length (n v : Nat) : (leBytes n v).length = n := by
  induction n generalizing v with
  | zero => rfl
  | succ n ih => simp [leBytes, ih]

theorem leNat_leBytes (n v : Nat) : leNat (leBytes n v) = v % 256 ^ n := by
  induction n generalizing v with
  | zero => simp [leBytes, leNat, Nat.mod_one]
  | succ n ih =>
    rw [leBytes, leNat, ih, Nat.pow_succ', BitVec.toNat_ofNat]
    exact Nat.mod_mul.symm

/-- Bytes sent with their check value are found right (R181). -/
theorem checkRight_withCheck (bytes : List Byte) : checkRight (withCheck bytes) = true := by
  have h : (withCheck bytes).length - 4 = bytes.length := by simp [withCheck]
  have hv := (checkValue bytes).isLt
  simp only [checkRight, h, Bool.and_eq_true, decide_eq_true_eq, beq_iff_eq]
  refine ⟨by simp [withCheck], ?_⟩
  rw [withCheck, List.drop_left, List.take_left, leNat_leBytes]
  exact Nat.mod_eq_of_lt (by simpa using hv)

end Sys2Proof.Machine
end

