-- ==== Sys2Proof/Laws/PerInstr.lean ====
section
/-! SUPPORT. One lemma for each command: the request it carries, if any, has one of the fifteen kind codes of R180. -/

namespace Sys2Proof.Laws.RequestKinds

open Sys2Proof Sys2Proof.Machine

/-- The request a command carries, which is none for an event, has a kind code from 1 to 15 (R180). -/
def Statement (i : Instr) : Prop := ∀ l t r, requestOf i = some (l, t, r) → 1 ≤ r.kind ∧ r.kind ≤ 15

theorem ofRequest (n : Nat) {i : Instr} {x : Link × Tag × Request} (h : requestOf i = some x) (hk : x.2.2.kind = n)
    (hn : 1 ≤ n ∧ n ≤ 15) : Statement i := by
  intro l t r hr
  rw [h, Option.some.injEq] at hr
  subst hr
  exact hk ▸ hn

theorem ofEvent {i : Instr} (h : requestOf i = none) : Statement i := by
  intro l t r hr
  simp [h] at hr

theorem put (l : Link) (tag : Tag) (lsa count durability : Nat)
    : Statement (.put l tag lsa count durability) := ofRequest 1 rfl rfl (by decide)
theorem dataFrame (l : Link) (f : DataFrame) : Statement (.dataFrame l f) := ofEvent rfl
theorem get (l : Link) (tag : Tag) (lsa count : Nat)
    : Statement (.get l tag lsa count) := ofRequest 2 rfl rfl (by decide)
theorem trim (l : Link) (tag : Tag) (lsa count : Nat)
    : Statement (.trim l tag lsa count) := ofRequest 3 rfl rfl (by decide)
theorem flush (l : Link) (tag : Tag) (queue : Nat) : Statement (.flush l tag queue) := ofRequest 4 rfl rfl (by decide)
theorem select (l : Link) (tag : Tag) (queue : Nat)
    : Statement (.select l tag queue) := ofRequest 5 rfl rfl (by decide)
theorem clean (l : Link) (tag : Tag) (band : Nat) : Statement (.clean l tag band) := ofRequest 6 rfl rfl (by decide)
theorem setQueueDivision (l : Link) (tag : Tag) (depths : List Nat)
    : Statement (.setQueueDivision l tag depths) := ofRequest 7 rfl rfl (by decide)
theorem setQueueThresholds (l : Link) (tag : Tag) (value : Option (Nat × Nat × Nat))
    : Statement (.setQueueThresholds l tag value) := ofRequest 7 rfl rfl (by decide)
theorem setIntervals (l : Link) (tag : Tag) (value : Option (Nat × List Interval))
    : Statement (.setIntervals l tag value) := ofRequest 7 rfl rfl (by decide)
theorem setSpaceMarks (l : Link) (tag : Tag) (value : Option (Nat × Nat × Nat))
    : Statement (.setSpaceMarks l tag value) := ofRequest 7 rfl rfl (by decide)
theorem setLinkMode (l : Link) (tag : Tag) (value : Option Nat)
    : Statement (.setLinkMode l tag value) := ofRequest 7 rfl rfl (by decide)
theorem setErrorScope (l : Link) (tag : Tag) (value : Option (Nat × Nat))
    : Statement (.setErrorScope l tag value) := ofRequest 7 rfl rfl (by decide)
theorem setNoticeEnables (l : Link) (tag : Tag) (value : Option (Nat × Nat))
    : Statement (.setNoticeEnables l tag value) := ofRequest 7 rfl rfl (by decide)
theorem setOrderLimit (l : Link) (tag : Tag) (value : Option Nat)
    : Statement (.setOrderLimit l tag value) := ofRequest 7 rfl rfl (by decide)
theorem setClearPendingNotices (l : Link) (tag : Tag) (value : Option (Nat × Nat))
    : Statement (.setClearPendingNotices l tag value) := ofRequest 7 rfl rfl (by decide)
theorem queryBandRecord (l : Link) (tag : Tag) (band : Nat)
    : Statement (.queryBandRecord l tag band) := ofRequest 8 rfl rfl (by decide)
theorem queryQueueRecord (l : Link) (tag : Tag) (queue : Nat)
    : Statement (.queryQueueRecord l tag queue) := ofRequest 8 rfl rfl (by decide)
theorem queryMapLookup (l : Link) (tag : Tag) (lsa : Nat)
    : Statement (.queryMapLookup l tag lsa) := ofRequest 8 rfl rfl (by decide)
theorem queryCounts (l : Link) (tag : Tag) : Statement (.queryCounts l tag) := ofRequest 8 rfl rfl (by decide)
theorem queryMediaAndSpindleState (l : Link) (tag : Tag)
    : Statement (.queryMediaAndSpindleState l tag) := ofRequest 8 rfl rfl (by decide)
theorem queryRelocationState (l : Link) (tag : Tag)
    : Statement (.queryRelocationState l tag) := ofRequest 8 rfl rfl (by decide)
theorem queryLinkStatesAndTableUse (l : Link) (tag : Tag)
    : Statement (.queryLinkStatesAndTableUse l tag) := ofRequest 8 rfl rfl (by decide)
theorem queryProfileRecord (l : Link) (tag : Tag) (profile : Nat)
    : Statement (.queryProfileRecord l tag profile) := ofRequest 8 rfl rfl (by decide)
theorem querySetting (l : Link) (tag : Tag) (item : Nat)
    : Statement (.querySetting l tag item) := ofRequest 8 rfl rfl (by decide)
theorem loadProfile (l : Link) (tag : Tag) (profile sectors tracks verify : Nat)
    : Statement (.loadProfile l tag profile sectors tracks verify) := ofRequest 9 rfl rfl (by decide)
theorem format (l : Link) (tag : Tag) (logical bands : Nat) (ranges : List LayoutRange)
    : Statement (.format l tag logical bands ranges) := ofRequest 10 rfl rfl (by decide)
theorem formatComplete : Statement (.formatComplete) := ofEvent rfl
theorem quiesce (l : Link) (tag : Tag) (target release interval : Nat)
    : Statement (.quiesce l tag target release interval) := ofRequest 11 rfl rfl (by decide)
theorem wake (l : Link) (tag : Tag) : Statement (.wake l tag) := ofRequest 12 rfl rfl (by decide)
theorem reset (l : Link) (tag : Tag) (level : Nat) : Statement (.reset l tag level) := ofRequest 13 rfl rfl (by decide)
theorem holdLinkHold (l : Link) (tag : Tag) (named : Nat)
    : Statement (.holdLinkHold l tag named) := ofRequest 14 rfl rfl (by decide)
theorem holdLinkRelease (l : Link) (tag : Tag) (named : Nat)
    : Statement (.holdLinkRelease l tag named) := ofRequest 14 rfl rfl (by decide)
theorem mediaRestart (l : Link) (tag : Tag) : Statement (.mediaRestart l tag) := ofRequest 15 rfl rfl (by decide)
theorem malformed (l : Link) (bytes : List Byte) : Statement (.malformed l bytes) := ofEvent rfl
theorem idleReceived (l : Link) : Statement (.idleReceived l) := ofEvent rfl
theorem creditReceived (l : Link) : Statement (.creditReceived l) := ofEvent rfl
theorem frameReceived (l : Link) (bytes : List Byte) : Statement (.frameReceived l bytes) := ofEvent rfl
theorem frameSent (l : Link) : Statement (.frameSent l) := ofEvent rfl
theorem noticeSent (l : Link) : Statement (.noticeSent l) := ofEvent rfl
theorem linkSilenceTimeout (l : Link) : Statement (.linkSilenceTimeout l) := ofEvent rfl
theorem quietIntervalEnd (l : Link) : Statement (.quietIntervalEnd l) := ofEvent rfl
theorem level0Reset : Statement (.level0Reset) := ofEvent rfl
theorem startUp : Statement (.startUp) := ofEvent rfl
theorem sequencerReady : Statement (.sequencerReady) := ofEvent rfl
theorem sequencerReadyWithdrawn : Statement (.sequencerReadyWithdrawn) := ofEvent rfl
theorem writeTrackCompletion (c : Completion) : Statement (.writeTrackCompletion c) := ofEvent rfl
theorem readTrackCompletion (c : Completion) : Statement (.readTrackCompletion c) := ofEvent rfl
theorem geometryCompletion (c : Completion) : Statement (.geometryCompletion c) := ofEvent rfl
theorem motionCompletion (kind : Nat) (c : Completion) : Statement (.motionCompletion kind c) := ofEvent rfl
theorem sectorDelivery (sector : Nat) (data : Sector) (check : BitVec 32)
    : Statement (.sectorDelivery sector data check) := ofEvent rfl
theorem deadlineExpiry : Statement (.deadlineExpiry) := ofEvent rfl
theorem recoveryWaitEnd : Statement (.recoveryWaitEnd) := ofEvent rfl
theorem startupWaitEnd : Statement (.startupWaitEnd) := ofEvent rfl
theorem escalationTimerExpiry : Statement (.escalationTimerExpiry) := ofEvent rfl
theorem holdTimerExpiry (q : Fin 16) : Statement (.holdTimerExpiry q) := ofEvent rfl
theorem wakeTimerExpiry : Statement (.wakeTimerExpiry) := ofEvent rfl
theorem mediaGrant : Statement (.mediaGrant) := ofEvent rfl
theorem victimSelection : Statement (.victimSelection) := ofEvent rfl
theorem relocationRecords : Statement (.relocationRecords) := ofEvent rfl

end Sys2Proof.Laws.RequestKinds
end

