-- ==== Sys2Proof/Tests/Slice0.lean ====
section
/-! SUPPORT. Tests: ill-formed terms refused, frames read from bytes written out from R180, single steps on a small state, and for
every statement with hypotheses a state and operands that meet them, clause by clause. -/

namespace Sys2Proof.Tests

open Sys2Proof Sys2Proof.Machine

set_option Elab.async false

/-! ### A small state -/

/-- A part in service, formatted with 4 bands of 8 tracks of 63 data sectors, both links RUNNING. (A layout of so few bands is none
that Format takes; it keeps the tests small.) -/
def base : State := State.storeStalls { State.reset with
  portA := { Port.reset with state := .running, creditsHeld := 4 }
  portB := { Port.reset with state := .running }
  service := .inService, stage := .done, path := .ready, format := .formatted
  layout := some ⟨1000, 4, [⟨0, 3, 0⟩]⟩
  profiles := State.reset.profiles.set 0 ⟨.active, some ⟨64, 8, false⟩, none, none⟩
  bands := List.replicate 4 (Band.formatted 0), spindle := Spindle.turning, marks := ⟨1, 2, 3⟩ }

/-- The next state of an outcome. -/
def nextOf (o : Host.Outcome State Fault Refusal) : State :=
  match o with
  | .next t => t
  | _ => State.reset

def run (s : State) (cs : List Instr) : State := cs.foldl (fun s c => nextOf (exec c s)) s

/-- The state in which a frame has left the receive buffer. -/
def left (s : State) (l : Link) (f : InFrame) : State := ((s.frameReady l true f).frameTaken l f).getD s

def takenB (s : State) (l : Link) (f : InFrame) : Bool := ((s.frameReady l true f).frameTaken l f).isSome

/-- A frame is taken, and the state it leaves meets a condition. -/
def metFrame (s : State) (l : Link) (f : InFrame) (c : State → Bool) : Bool := takenB s l f && c (left s l f)

/-- A request is taken and passes the Request Unit's checks, and the state it leaves meets a condition. -/
def met (s : State) (l : Link) (tag : Tag) (r : Request) (c : State → Bool) : Bool :=
  metFrame s l (.request tag r) fun p => (p.requestRefusal ⟨l, tag⟩ r).isNone && c p

theorem metFrame_sound {s : State} {l : Link} {f : InFrame} {c : State → Bool} (h : metFrame s l f c = true) :
    ∃ p, Taken s l f p ∧ c p = true := by
  simp only [metFrame, takenB, Bool.and_eq_true] at h
  obtain ⟨h1, h2⟩ := h
  obtain ⟨p, hp⟩ := Option.isSome_iff_exists.mp h1
  exact ⟨p, hp, by simpa [left, hp] using h2⟩

theorem met_sound {s : State} {l : Link} {tag : Tag} {r : Request} {c : State → Bool} (h : met s l tag r c = true) :
    ∃ p, Takes s l tag r p ∧ c p = true := by
  obtain ⟨p, hp, hc⟩ := metFrame_sound h
  simp only [Bool.and_eq_true, Option.isNone_iff_eq_none] at hc
  exact ⟨p, ⟨hp, hc.1⟩, hc.2⟩

/-- A completion record with its check value. -/
def comp (kind status : Nat) (unreadable : List Nat) : Completion :=
  ⟨status, unreadable, checkValue (completionBytes kind ⟨status, unreadable, 0⟩)⟩

def sector : Sector := List.replicate 4096 0

/-! ### Operands that do not fit (WellFormed) -/

def noneFits (cs : List Instr) : Bool := cs.all fun c => !c.wellFormed

theorem test_illFormed_put : noneFits [.put .a 0 (2 ^ 64) 1 0, .put .a 0 0 65536 0, .put .a 0 0 1 256] = true := by
  decide +kernel

theorem test_illFormed_dataFrame : noneFits [.dataFrame .a ⟨0, 256, 0, 0, 0, []⟩, .dataFrame .a ⟨0, 0, 65536, 0, 0, []⟩,
    .dataFrame .a ⟨0, 0, 0, 256, 0, []⟩, .dataFrame .a ⟨0, 0, 0, 0, 256, []⟩] = true := by decide +kernel

theorem test_illFormed_ranges : noneFits [.get .a 0 (2 ^ 64) 1, .get .a 0 0 65536, .trim .a 0 (2 ^ 64) 1, .trim .a 0 0 (2 ^ 64),
    .flush .a 0 256, .select .a 0 256, .clean .a 0 (2 ^ 32)] = true := by decide +kernel

theorem test_illFormed_sets : noneFits [.setQueueDivision .a 0 (List.replicate 17 0), .setQueueDivision .a 0 [2 ^ 32],
    .setQueueThresholds .a 0 (some (256, 0, 0)), .setQueueThresholds .a 0 (some (0, 2 ^ 32, 0)),
    .setQueueThresholds .a 0 (some (0, 0, 65536)), .setIntervals .a 0 (some (256, [])),
    .setIntervals .a 0 (some (0, List.replicate 256 ⟨0, 0, 0⟩)), .setIntervals .a 0 (some (0, [⟨2 ^ 64, 0, 0⟩])),
    .setIntervals .a 0 (some (0, [⟨0, 2 ^ 64, 0⟩])), .setIntervals .a 0 (some (0, [⟨0, 0, 256⟩])),
    .setSpaceMarks .a 0 (some (256, 0, 0)), .setSpaceMarks .a 0 (some (0, 256, 0)), .setSpaceMarks .a 0 (some (0, 0, 256)),
    .setLinkMode .a 0 (some 256), .setErrorScope .a 0 (some (256, 0)), .setErrorScope .a 0 (some (0, 256)),
    .setNoticeEnables .a 0 (some (256, 0)), .setNoticeEnables .a 0 (some (0, 65536)), .setOrderLimit .a 0 (some 65536),
    .setClearPendingNotices .a 0 (some (256, 0)), .setClearPendingNotices .a 0 (some (0, 65536))] = true := by decide +kernel

theorem test_illFormed_queries : noneFits [.queryBandRecord .a 0 (2 ^ 64), .queryQueueRecord .a 0 (2 ^ 64),
    .queryMapLookup .a 0 (2 ^ 64), .queryProfileRecord .a 0 (2 ^ 64), .querySetting .a 0 (2 ^ 64)] = true := by decide +kernel

theorem test_illFormed_others : noneFits [.loadProfile .a 0 256 0 0 0, .loadProfile .a 0 0 65536 0 0, .loadProfile .a 0 0 0 256 0,
    .loadProfile .a 0 0 0 0 256, .format .a 0 (2 ^ 64) 0 [⟨0, 0, 0⟩], .format .a 0 0 (2 ^ 32) [⟨0, 0, 0⟩], .format .a 0 0 0 [],
    .format .a 0 0 0 (List.replicate 9 ⟨0, 0, 0⟩), .format .a 0 0 0 [⟨2 ^ 32, 0, 0⟩], .format .a 0 0 0 [⟨0, 2 ^ 32, 0⟩],
    .format .a 0 0 0 [⟨0, 0, 256⟩], .quiesce .a 0 256 0 0, .quiesce .a 0 0 256 0, .quiesce .a 0 0 0 (2 ^ 32), .reset .a 0 256,
    .holdLinkHold .a 0 256, .holdLinkRelease .a 0 256] = true := by decide +kernel

theorem test_illFormed_records : noneFits [.writeTrackCompletion ⟨256, [], 0⟩, .readTrackCompletion ⟨0, [65536], 0⟩,
    .geometryCompletion ⟨0, List.replicate 65536 0, 0⟩, .motionCompletion 256 ⟨0, [], 0⟩, .motionCompletion 4 ⟨256, [], 0⟩,
    .sectorDelivery 65536 sector 0, .sectorDelivery 0 [0] 0] = true := by decide +kernel

/-! ### Bytes (R180 to R182) -/

/-- The check value of the digits 1 to 9, as CRC-32C gives it. -/
theorem test_checkValue : checkValue [0x31, 0x32, 0x33, 0x34, 0x35, 0x36, 0x37, 0x38, 0x39] = 0xE3069283#32 := by decide +kernel

/-- PUT: type 1, kind 1, tag 7, n 11, flags 0; LSA 5, count 3, DURABLE. -/
def putBytes : List Byte := withCheck [1, 1, 7, 0, 11, 0, 0, 0, 5, 0, 0, 0, 0, 0, 0, 0, 3, 0, 1]

theorem test_read_put : checkRight putBytes = true ∧ readFrame putBytes = .request 7 (.put 5 3 1) := by decide +kernel

/-- SET_QUEUE_THRESHOLDS: item 2, queue 1, offset 256, hold interval 500 ms. -/
theorem test_read_setThresholds :
    readFrame (withCheck [1, 7, 9, 0, 8, 0, 0, 0, 2, 1, 0, 1, 0, 0, 244, 1]) =
      .request 9 (.setQueueThresholds (some (1, 256, 500))) := by decide +kernel

/-- FORMAT: L 1,000, B 64, one range of bands 0 to 63 under Z2. -/
theorem test_read_format :
    readFrame (withCheck [1, 10, 3, 0, 22, 0, 0, 0, 232, 3, 0, 0, 0, 0, 0, 0, 64, 0, 0, 0, 1, 0, 0, 0, 0, 63, 0, 0, 0, 2]) =
      .request 3 (.format 1000 64 [⟨0, 63, 2⟩]) := by decide +kernel

/-- QUERY of a setting, HOLD and RELEASE of Link B. -/
theorem test_read_others :
    readFrame (withCheck [1, 8, 4, 0, 9, 0, 0, 0, 9, 6, 0, 0, 0, 0, 0, 0, 0]) = .request 4 (.querySetting 6) ∧
    readFrame (withCheck [1, 14, 4, 0, 2, 0, 0, 0, 1, 0]) = .request 4 (.hold 1) ∧
    readFrame (withCheck [1, 14, 4, 0, 2, 0, 0, 0, 1, 1]) = .request 4 (.release 1) := by decide +kernel

/-- A kind above 15, a flag, a length that is not the kind's, a type that travels outbound: the header cannot be read (R182). -/
theorem test_read_malformed :
    readFrame (withCheck [1, 16, 4, 0, 0, 0, 0, 0]) = .malformed 16 4 ∧
    readFrame (withCheck [1, 12, 4, 0, 0, 0, 1, 0]) = .malformed 12 4 ∧
    readFrame (withCheck [1, 13, 4, 0, 2, 0, 0, 0, 1, 0]) = .malformed 13 4 ∧
    readFrame (withCheck [2, 9, 4, 0, 0, 0, 0, 0]) = .malformed 9 4 := by decide +kernel

/-- A response's bytes: type 2, kind 5, tag 7, OK, not redirected, no result (R180). -/
theorem test_response_bytes :
    (immediate .a 7 5 .ok .none).bytes = withCheck [2, 5, 7, 0, 0, 0, 0, 0, 0, 0] := by decide +kernel

/-- An order record's bytes: READ TRACK of profile 2, band 300, track 3, positions 40 to 49 (R180). -/
theorem test_order_bytes :
    (Order.read { owner := .startUp, band := 300, track := 3, profile := 2, first := 40, count := 10, timeouts := 0,
                  delivered := [] }).bytes =
      withCheck [2, 2, 44, 1, 0, 0, 3, 0, 40, 0, 10, 0, 0, 0, 0, 0] := by decide +kernel

/-- A footer's header and its one piece record, a HOST piece of 2 sectors at LSA 20 with sequence 9 (R78, R180). -/
theorem test_footer_bytes :
    (WriteOrder.footer { band := 3, track := 1, generation := 7, profile := 2, verify := true, queue := 0
                         pieces := [⟨false, 20, 2, 0, 9, none, none, 0, false, false, [⟨0, 2, []⟩]⟩]
                         orphaned := false }).take 38 =
      [3, 0, 0, 0, 7, 0, 1, 2, 1, 0, 0, 0, 0, 0, 0, 0, 20, 0, 0, 0, 0, 2, 0, 0, 0, 9, 0, 0, 0, 0, 0, 0, 0, 0, 0, 0, 0, 0] ∧
    readFooterPieces 1 [20, 0, 0, 0, 0, 2, 0, 0, 0, 9, 0, 0, 0, 0, 0, 0, 0, 0, 0, 0, 0, 0] = [⟨20, 2, 0, 9, 0, ⟨0, 0⟩⟩] := by
  decide +kernel

/-- The bytes of a record (R180). -/
def sent (fields : List Field) : List Nat := (fields.flatMap Field.bytes).map BitVec.toNat

/-- A VALID entry and a LOST one. -/
def twoEntries : State := { base with map := [⟨5, 2, 9, some ⟨3, 7⟩⟩, ⟨9, 1, 4, none⟩] }

/-- An AUTO run for a Clean, with no track in hand. -/
def cleanRun : State :=
  { base with engine := { Engine.reset with state := .selecting, run := some .auto, clean := some ⟨.b, 258⟩ } }

/-- A field that may be absent takes one byte where it is, and its parts follow one byte where it is not (R180): a lookup in a VALID
entry, in a LOST one and beside them, and a relocation state with a Clean and no track in hand. -/
theorem test_absentFields :
    sent (twoEntries.lookupFields 6) = [1, 9, 0, 0, 0, 0, 0, 1, 0, 1, 3, 0, 0, 8, 0, 0, 1, 5, 0, 0, 0, 0, 1, 2, 0, 0,
      1, 9, 0, 0, 0, 0, 0, 1, 0, 1, 3, 0, 0, 7, 0, 0, 0] ∧
    sent (twoEntries.lookupFields 9) = [1, 4, 0, 0, 0, 0, 0, 1, 1, 0, 1, 9, 0, 0, 0, 0, 1, 1, 0, 0, 1, 4, 0, 0, 0, 0, 0, 1, 1, 0, 0] ∧
    sent (twoEntries.lookupFields 7) = [0, 0, 0, 0, 0, 0, 0, 0, 1, 9, 0, 0, 0, 0] ∧
    sent cleanRun.relocationFields = [1, 1, 0, 1, 1, 2, 1, 0, 0, 0, 0, 1, 2, 3] := by decide +kernel

/-! ### The map: the worked sequence of chapter 2 -/

def mapOf2 : List Entry := [⟨5000, 50, 1000, some ⟨40, 0⟩⟩, ⟨5050, 10, 1050, some ⟨41, 0⟩⟩, ⟨5060, 5, 1120, some ⟨41, 20⟩⟩,
  ⟨5065, 5, 1050, some ⟨41, 15⟩⟩, ⟨5070, 130, 1000, some ⟨40, 70⟩⟩]

/-- Step 4: P3's host run of LSAs 5,040 to 5,079. -/
theorem test_map_insert : (insertHost mapOf2 ⟨5040, 40, 1100, some ⟨40, 254⟩⟩ 2).entries =
    [⟨5000, 40, 1000, some ⟨40, 0⟩⟩, ⟨5040, 20, 1100, some ⟨40, 254⟩⟩, ⟨5060, 5, 1120, some ⟨41, 20⟩⟩,
     ⟨5065, 15, 1100, some ⟨40, 279⟩⟩, ⟨5080, 120, 1000, some ⟨40, 80⟩⟩] := by decide +kernel

/-- Step 5: the Trim of LSAs 5,030 to 5,089. -/
theorem test_map_trim : cutRange 5030 5090 (insertHost mapOf2 ⟨5040, 40, 1100, some ⟨40, 254⟩⟩ 2).entries =
    [⟨5000, 30, 1000, some ⟨40, 0⟩⟩, ⟨5090, 110, 1000, some ⟨40, 90⟩⟩] := by decide +kernel

/-- The relocation insert overtaken in part. -/
theorem test_map_relocation :
    (insertReloc [⟨5080, 20, 1000, some ⟨40, 80⟩⟩, ⟨5100, 4, 1300, some ⟨41, 25⟩⟩, ⟨5104, 96, 1000, some ⟨40, 104⟩⟩]
      ⟨5080, 47, 1000, some ⟨90, 0⟩⟩ ⟨40, 80⟩ 2).entries =
      [⟨5080, 20, 1000, some ⟨90, 0⟩⟩, ⟨5100, 4, 1300, some ⟨41, 25⟩⟩, ⟨5104, 23, 1000, some ⟨90, 24⟩⟩,
       ⟨5127, 73, 1000, some ⟨40, 127⟩⟩] := by decide +kernel

/-- The insert under entry shortage: the fill stretch of highest LSA is dropped. -/
theorem test_map_shortage :
    (insertHost [⟨8001, 1, 2010, some ⟨41, 0⟩⟩, ⟨8003, 1, 2020, some ⟨41, 1⟩⟩] ⟨8000, 6, 2000, some ⟨40, 0⟩⟩ 2) =
      { entries := [⟨8000, 1, 2000, some ⟨40, 0⟩⟩, ⟨8001, 1, 2010, some ⟨41, 0⟩⟩, ⟨8002, 1, 2000, some ⟨40, 2⟩⟩,
                    ⟨8003, 1, 2020, some ⟨41, 1⟩⟩]
        entered := [(8000, 8001), (8002, 8003)], dropped := [(8004, 8006)] } := by decide +kernel


/-! ### The hypotheses of the statements are met -/

/-- The step's statement: a command in front, and an empty queue. -/
theorem met_step : ({ base with pending := [.wake .a 1] } : State).pending = .wake .a 1 :: [] ∧ base.pending = [] := by
  decide +kernel

def waitingFormat : State := { base with pending := [.formatComplete] }

theorem base_sound : waitingFormat.Sound where
  validCounts := by
    intro i b h
    have hb : b ∈ List.replicate 4 (Band.formatted 0) := List.mem_of_getElem? h
    rw [List.eq_of_mem_replicate hb]
    rfl
  mapInForm := rfl
  windowFits := by decide
  fetchRunFits := by decide
  creditsFit := by decide
  stallsStand := by
    intro q
    revert q
    decide +kernel
  noTimer15 := by decide +kernel
  noneEmptied := by decide +kernel
  tableFits := ⟨by decide, by intro l; exact Nat.zero_le 64, by decide⟩
  slotsFit := by intro l; cases l <;> decide +kernel
  counterInRange := by decide
  putsAnswered := by
    intro e he
    exact absurd he (List.not_mem_nil)
  marksStand := by decide +kernel
  fillsStand := by decide +kernel
  heldOffline := by intro h; exact absurd h (by decide)
  patternsServed := by
    intro e he
    exact absurd he (List.not_mem_nil)
  slotsServed := by
    intro i h
    have : (waitingFormat.slot i).state = .free := by
      revert i
      decide +kernel
    exact absurd (h.symm.trans this) (by decide)

/-- The invariants' statements: a sound state whose step answers a next state. -/
theorem met_invariants : ∃ s : State, s.Sound ∧ ∃ t, step s = .next t := ⟨_, base_sound, _, rfl⟩

theorem met_quietSettling : base.Quiet base where
  stage := by decide
  lostrel := by
    intro r h
    have : ((base.queue 15).records.head?) = none := by decide +kernel
    rw [this] at h
    exact absurd h (by simp)
  bands := base_sound.noneEmptied
  engine := by decide
  slots := by decide +kernel
  patterns := base_sound.patternsServed
  puts := base_sound.putsAnswered
  marks := by decide +kernel
  reset := by decide
  run := by decide +kernel
  release := by decide
  pool := rfl
  headroom := rfl
  space := by decide +kernel

/-- The map's statements: a Trim that cuts an entry at both ends and leaves one outside. -/
theorem met_trimOfTheMap : mapSorted [⟨10, 10, 1, some ⟨0, 0⟩⟩, ⟨30, 1, 2, none⟩] = true ∧ (12 : Nat) < 15 ∧
    ((10 : Nat) < 12 ∧ (12 : Nat) < 20) ∧ ((10 : Nat) < 15 ∧ (15 : Nat) < 20) ∧ Outside 12 15 30 31 := by decide

/-- A host run of LSAs 5 to 9 of sequence 7 over: unwritten, LOST, older, as new, newer; and one of its sectors dropped for want
of entries. -/
theorem met_hostInsert :
    let m : List Entry := [⟨6, 1, 9, none⟩, ⟨7, 1, 6, some ⟨0, 0⟩⟩, ⟨8, 1, 7, some ⟨0, 1⟩⟩, ⟨9, 1, 8, some ⟨0, 2⟩⟩]
    let run : Run := ⟨5, 5, 7, some ⟨1, 0⟩⟩
    mapSorted m = true ∧ content m 5 = none ∧ content m 6 = some (9, none) ∧ content m 7 = some (6, some ⟨0, 0⟩) ∧
      content m 8 = some (7, some ⟨0, 1⟩) ∧ content m 9 = some (8, some ⟨0, 2⟩) ∧ (insertHost m run 2).dropped = [] ∧
      (insertHost [⟨7, 1, 6, some ⟨0, 0⟩⟩] ⟨5, 1, 7, some ⟨1, 0⟩⟩ 0).dropped = [(5, 6)] := by decide +kernel

/-- Two runs that share LSA 6, over an unwritten map: VALID and VALID, VALID and LOST, LOST and VALID. -/
theorem met_hostInserts :
    ([(some ⟨0, 0⟩, some ⟨1, 0⟩), (some ⟨0, 0⟩, none), (none, some ⟨1, 0⟩)] : List (Option Location × Option Location)).all
      fun x =>
        let r1 : Run := ⟨5, 2, 1, x.1⟩
        let r2 : Run := ⟨6, 2, 2, x.2⟩
        (insertHost [] r1 2).dropped == [] && (insertHost (insertHost [] r1 2).entries r2 2).dropped == [] &&
          (insertHost [] r2 2).dropped == [] && (insertHost (insertHost [] r2 2).entries r1 2).dropped == [] := by
  decide +kernel

/-- A relocation run one of whose sectors stands at its source and one elsewhere. -/
theorem met_relocationInsert :
    let m : List Entry := [⟨5, 1, 7, some ⟨0, 3⟩⟩, ⟨6, 1, 7, some ⟨0, 9⟩⟩]
    mapSorted m = true ∧ content m 5 = some (7, some ⟨0, 3⟩) ∧ content m 6 = some (7, some ⟨0, 9⟩) := by decide +kernel

/-! #### Requests -/

/-- An entry that waits. -/
def waiting (l : Link) (tag : Tag) (info : EntryInfo) : ReqEntry :=
  { key := ⟨l, tag⟩, reply := l, redirected := false, discarded := false, answered := false, info := info }

def starting : State := { base with service := .starting }
def formatting : State := { base with format := .formatting }
def unformatted : State := { base with format := .unformatted }
def down : State := { base with path := .down }

/-- Link A in PATTERN mode. -/
def patterned : State := base.modPort .a fun p => { p with pattern := true }

/-- Link B in a state. -/
def linkB (x : LinkState) : State := base.modPort .b fun p => { p with state := x }

/-- A record of Q0 or Q1, complete and acknowledged. -/
def record (lsa length sequence : Nat) : Fragment :=
  { kind := .host, lsa := lsa, length := length, sequence := sequence, filling := 0, origin := none, attempts := 0
    source := none, acknowledged := true, drain := false, data := List.replicate length [] }

def staged (rs : List Fragment) : State := base.modQueue 0 fun q => { q with records := rs }

/-- Q1 holds n records of one sector. -/
def pooled (n : Nat) (s : State) : State := s.modQueue 1 fun q => { q with records := List.replicate n (record 900 1 1) }

def isUnserving (p : State) (r : Status) : Bool := decide (Unserving p r)

/-- A request is taken with a part not in service, UNFORMATTED, and FORMATTING. -/
def metUnserving (r : Request) : Bool :=
  met starting .a 7 r (isUnserving · .starting) && met unformatted .a 7 r (isUnserving · .unformatted)
    && met formatting .a 7 r (isUnserving · .busy)

/-- The five refusals of the Request Unit: tag in use, reset, table full, PATTERN mode, STARTING. -/
theorem met_requestUnit :
    metFrame { base with table := [waiting .a 7 .wake] } .a (.request 7 .wake) (·.tagInUse ⟨.a, 7⟩) = true ∧
    metFrame { base with resetWaits := some 1 } .a (.request 7 .wake)
      (fun p => !p.tagInUse ⟨.a, 7⟩ && p.resetting && !Request.wake.isQuery) = true ∧
    metFrame { base with table := (List.range 64).map fun i => waiting .a (BitVec.ofNat 16 (100 + i)) .wake } .a (.request 7 .wake)
      (fun p => !p.tagInUse ⟨.a, 7⟩ && !p.resetting && p.tableFull .a && !Request.wake.isReset) = true ∧
    metFrame patterned .a (.request 7 .wake) (fun p => !p.tagInUse ⟨.a, 7⟩ && !p.resetting && !p.tableFull .a &&
      (p.port .a).pattern && !Request.wake.inPattern) = true ∧
    metFrame starting .a (.request 7 (.select 3)) (fun p => !p.tagInUse ⟨.a, 7⟩ && !p.resetting && !p.tableFull .a &&
      !(p.port .a).pattern && p.service == .starting && !(Request.select 3).ownStarting) = true ∧
    requestOf (.wake .a 7) = some (.a, 7, .wake) ∧ requestOf (.select .a 7 3) = some (.a, 7, .select 3) := by decide +kernel

/-- Serving, and the path not DOWN. -/
def ready (p : State) : Bool := decide (Serving p) && p.path != .down

/-- R49's checks in order, each at the edge of its range. -/
theorem met_putRefusals :
    met base .a 7 (.put 5 1 2) (fun _ => true) = true ∧
    met base .a 7 (.put 5 0 1) (fun p => !decide (InSpace p 5 0)) = true ∧
    met base .a 7 (.put 5 257 1) (fun p => !decide (InSpace p 5 257)) = true ∧
    met base .a 7 (.put 1000 1 1) (fun p => !decide (InSpace p 1000 1)) = true ∧
    metUnserving (.put 5 256 0) = true ∧ met unformatted .a 7 (.put 5 256 0) (fun p => decide (InSpace p 5 256)) = true ∧
    met down .a 7 (.put 999 1 0) (fun p => decide (InSpace p 999 1 ∧ Serving p ∧ p.path = .down)) = true ∧
    met (base.modQueue 0 fun q => { q with depth := 2 }) .a 7 (.put 5 3 0)
      (fun p => ready p && decide (p.space (hostQueue (p.targetQueue .a 5)) < 3)) = true ∧
    met { base with sequence := 2 ^ 48 - 1 } .a 7 (.put 5 3 0)
      (fun p => ready p && decide (3 ≤ p.space 0 ∧ 1 ≤ p.poolFree ∧ 2 ≤ p.headroom ∧ p.sequence = 2 ^ 48 - 1)) = true := by
  decide +kernel

theorem met_putPool : met (pooled 4096 base) .a 7 (.put 5 3 0)
    (fun p => ready p && decide (3 ≤ p.space (hostQueue (p.targetQueue .a 5)) ∧ p.poolFree = 0)) = true := by decide +kernel

/-- A map with one free entry. -/
def crowdedMap : List Entry := List.replicate 8388607 ⟨0, 900, 1, none⟩

theorem crowded_headroom {s : State} (h : s.map = crowdedMap) : s.headroom < 2 := by
  unfold State.headroom State.freeEntries
  rw [h, crowdedMap, List.length_replicate]
  exact Nat.lt_of_le_of_lt (Nat.sub_le _ _) (by decide)

theorem met_putMap : ∃ s p, Takes s .a 7 (.put 5 3 0) p ∧ ready p = true ∧
    3 ≤ p.space (hostQueue (p.targetQueue .a 5)) ∧ 1 ≤ p.poolFree ∧ p.headroom < 2 :=
  ⟨{ base with map := crowdedMap }, _, ⟨rfl, rfl⟩, rfl, by decide +kernel, by decide +kernel, crowded_headroom rfl⟩

/-- A Put admitted with its queue NORMAL, one that carries it to ALMOST_FULL, and one that finds it so. -/
theorem met_putAdmission :
    met base .a 7 (.put 5 3 1) (fun p => ready p && decide (InSpace p 5 3 ∧ p.targetQueue .a 5 = 0 ∧ 3 ≤ p.space 0 ∧
      1 ≤ p.poolFree ∧ 2 ≤ p.headroom ∧ p.sequence ≠ 2 ^ 48 - 1 ∧ ¬ p.space 0 - 3 ≤ (p.queue 0).offset)) = true ∧
    met (base.modQueue 0 fun q => { q with offset := 16383 }) .a 7 (.put 5 1 1) (fun p => ready p && decide (InSpace p 5 1 ∧
      1 ≤ p.space 0 ∧ p.space 0 - 1 ≤ (p.queue 0).offset ∧ (p.queue 0).almostFull = false)) = true ∧
    met (base.modQueue 0 fun q => { q with offset := 16384, almostFull := true }) .a 7 (.put 5 1 1) (fun p => ready p &&
      decide (p.space 0 - 1 ≤ (p.queue 0).offset ∧ (p.queue 0).almostFull = true)) = true := by decide +kernel

/-- The free pool records on either side of their line. -/
theorem met_poolFalls : 256 ≤ (pooled 3840 base).poolFree ∧ (pooled 3841 base).poolFree < 256 ∧ 65536 ≤ base.headroom := by
  decide +kernel

/-- A part with nothing staged and a map. -/
def mapped (m : List Entry) : State := { base with map := m }

theorem mapped_headroom (m : List Entry) : (mapped m).headroom = 8388608 - m.length := by
  have h : (mapped m).inUse = base.inUse := by simp only [State.inUse, State.queue, State.writeOrders, mapped]
  have hb : base.inUse = 0 := by decide +kernel
  rw [State.headroom, State.freeEntries, State.reservedEntries, h, hb]
  rfl

/-- The headroom on either side of its line. -/
theorem met_headroomFalls : (mapped (List.replicate 8323072 ⟨0, 1, 1, none⟩)).headroom = 65536 ∧
    (mapped (List.replicate 8323073 ⟨0, 1, 1, none⟩)).headroom = 65535 := by
  rw [mapped_headroom, mapped_headroom, List.length_replicate, List.length_replicate]
  decide

/-- A non-durable Put of one sector at LSA 5, admitted. -/
def filling : State := run base [.put .a 7 5 1 0]

/-- A frame of the first sector of the Put, and of a second one. -/
def firstData (data : Sector) : DataFrame := ⟨7, 0, 0, 0, 0, data⟩
def secondData (data : Sector) : DataFrame := ⟨7, 0, 1, 0, 0, data⟩

theorem firstData_inForm : dataInForm (firstData sector) = true := by
  unfold dataInForm firstData sector
  rw [List.length_replicate]
  rfl

/-- A frame that stands at the head of the receive buffer is taken. -/
theorem taken_first {s : State} {l : Link} {f : InFrame} {rest : List InFrame}
    (h : ((s.frameReady l true f).port l).rx = f :: rest) :
    Taken s l f ((s.frameReady l true f).modPort l fun p => { p with rx := rest }) := by
  simp [Taken, State.frameTaken, h]

set_option maxRecDepth 20000 in
/-- A data frame expected, one of an offset not expected, one of no Put, whatever the data. -/
theorem met_dataFrames (data : Sector) :
    (∃ p, Taken filling .a (.data (firstData data)) p ∧ (p.putInfo ⟨.a, 7⟩).any (fun x =>
      x.next < x.count && !x.settling && x.next == 0) = true) ∧
    (∃ p, Taken filling .a (.data (secondData data)) p ∧ (p.putInfo ⟨.a, 7⟩).any (fun x => x.next != 1) = true) ∧
    (∃ p, Taken base .a (.data (firstData data)) p ∧ (p.putInfo ⟨.a, 7⟩).isNone = true) :=
  by refine ⟨?_, ?_, ?_⟩ <;> exact ⟨_, taken_first (rest := []) rfl, rfl⟩

set_option maxRecDepth 20000 in
theorem met_filledPut (data : Sector) : ∃ p, Taken filling .a (.data (firstData data)) p ∧ ((p.entry ⟨.a, 7⟩).any fun e =>
    !e.answered && !e.discarded && (match e.info with
      | .put x => !x.durable && !x.settling && x.outcome == .none && x.next + 1 == x.count && x.next == 0
      | _ => false) &&
    decide (p.table.length ≤ 128 ∧ (p.table.map (·.key)).Nodup) &&
    decide (p.engine.clean ≠ some ⟨.a, 7⟩ ∧ ∀ i, (p.slot i).state = .free)) = true :=
  ⟨_, taken_first (rest := []) rfl, rfl⟩

/-! #### Gets and Trims -/

/-- LSAs 0 to 9 lie in band 0, which is FULL. -/
def written : State := { base with
  map := [⟨0, 10, 1, some ⟨0, 0⟩⟩]
  bands := { Band.formatted 0 with state := .full, issued := 8, completed := 8, valid := 10 } :: List.replicate 3 (Band.formatted 0) }

def slotted (n : Nat) (l : Link) : State :=
  { base with slots := Vector.ofFn fun i => if i.val < n then { FetchSlot.empty with state := .ending, key := ⟨l, 0⟩ } else FetchSlot.empty }

/-- A Get of LSA 9 finds a slot and needs the media. -/
def needsMedia (p : State) : Bool :=
  decide (Serving p ∧ InSpace p 9 1 ∧ p.slotsInUse .a < 8) && p.freeFetchSlot == some 0 && !(p.readsOf 0 (p.resolve 9 1)).isEmpty

theorem met_gets :
    met base .a 7 (.get 5 0) (fun p => !(p.port .a).pattern && !decide (InSpace p 5 0)) = true ∧
    met base .a 7 (.get 1000 1) (fun p => !decide (InSpace p 1000 1)) = true ∧ metUnserving (.get 5 256) = true ∧
    met (slotted 8 .a) .a 7 (.get 5 1) (fun p => decide (Serving p ∧ 8 ≤ p.slotsInUse .a)) = true ∧
    met (slotted 16 .b) .a 7 (.get 5 1) (fun p => decide (∀ i, (p.slot i).state ≠ .free)) = true ∧
    met { written with path := .down } .a 7 (.get 9 1) (fun p => needsMedia p && p.path == .down) = true ∧
    met { written with spindle := Spindle.reset } .a 7 (.get 9 1)
      (fun p => needsMedia p && p.path != .down && p.spindle.state == .stopped && !p.getReleases) = true ∧
    met (written.modBand 0 fun b => { b with pendingReads := 32 }) .a 7 (.get 9 1)
      (fun p => needsMedia p && p.spindle.state == .spinning && !p.claimable 0 1) = true ∧
    met (written.modBand 0 fun b => { b with pendingReads := 31 }) .a 7 (.get 9 1)
      (fun p => needsMedia p && p.claimsGranted (p.readsOf 0 (p.resolve 9 1))) = true ∧
    met base .a 7 (.get 999 1) (fun p => (p.readsOf 0 (p.resolve 999 1)).isEmpty) = true := by decide +kernel

/-- A RELOC record of LSA 5 of sequence 9 at the head of Q15. -/
def relocRecord : Fragment := { record 5 1 9 with kind := .reloc, source := some ⟨0, 0⟩, acknowledged := false }

/-- A staged copy newer than the map's; unwritten; LOST; on the media, with a staged copy as new as the map's; in a staged RELOC copy. -/
theorem met_getResolution :
    (let p := { staged [record 5 1 9] with map := [⟨5, 1, 3, some ⟨0, 0⟩⟩] }
     p.hostCopies = [⟨5, 9, [[]]⟩] ∧ content p.map 5 = some (3, some ⟨0, 0⟩)) ∧
    base.hostCopies = [] ∧ content base.map 5 = none ∧
    content ({ base with map := [⟨5, 1, 3, none⟩] } : State).map 5 = some (3, none) ∧
    written.hostCopies = [] ∧ written.relocCopies = [] ∧ content written.map 5 = some (1, some ⟨0, 5⟩) ∧
    (let p := { staged [record 5 1 9] with map := [⟨5, 1, 9, some ⟨0, 0⟩⟩] }
     p.hostCopies = [⟨5, 9, [[]]⟩] ∧ p.relocCopies = [] ∧ content p.map 5 = some (9, some ⟨0, 0⟩)) ∧
    (let p := { base.modQueue 15 fun q => { q with records := [relocRecord] } with map := [⟨5, 1, 9, some ⟨0, 0⟩⟩] }
     p.hostCopies = [] ∧ p.relocCopies = [] ++ ⟨5, 9, [[]]⟩ :: [] ∧ content p.map 5 = some (9, some ⟨0, 0⟩)) := by decide +kernel

theorem met_patternGet :
    met patterned .a 7 (.get 0 0) (fun p => (p.port .a).pattern && !decide (InSpace p 0 0)) = true ∧
    met { patterned with service := .starting } .a 7 (.get 0 1) (fun p => decide (InSpace p 0 1) && p.service == .starting) = true ∧
    met { patterned with format := .unformatted } .a 7 (.get (2 ^ 36 - 1) 1)
      (fun p => decide (InSpace p (2 ^ 36 - 1) 1) && p.service == .inService) = true := by decide +kernel

/-- A pattern Get of two sectors with so many of its frames handed over, none of them or the last still in the transmit queue. -/
def patternGet (next : Nat) (waits : Bool) : State :=
  let e := waiting .a 7 (.patternGet 0 2 next)
  { patterned.modPort .a fun p => { p with txq := if waits then [{ e.patternFrame 0 0 with body := .data .ok 0 [] }] else [] } with
    table := [e] }

theorem met_patternFrames :
    ([(0, false), (1, false), (1, true)].all fun x =>
      let s := patternGet x.1 x.2
      s.entry ⟨.a, 7⟩ == some (waiting .a 7 (.patternGet 0 2 x.1)) &&
        (s.port .a).txq.any (OutFrame.isDataOf ⟨.a, 7⟩) == x.2 && s.engine.clean == none) = true := by decide +kernel

theorem patternGet_tableFits : (patternGet 1 true).tableFits := ⟨by decide, by intro l; cases l <;> decide, by decide⟩

/-- No failure of Link A in these states has a paired survivor: PART scope, LINK scope unpaired, and no link RUNNING beside it. -/
theorem met_patternFailures : (patternGet 1 true).service = .inService ∧ (patternGet 1 true).scope.link = false ∧
    ({ patternGet 1 true with scope := ⟨true, false⟩ } : State).scope.paired = false ∧
    ({ linkB .error with scope := ⟨true, true⟩ } : State).service = .inService ∧
    (({ linkB .error with scope := ⟨true, true⟩ } : State).port .b).state ≠ .running := by decide +kernel

theorem met_trims :
    met base .a 7 (.trim 5 0) (fun _ => true) = true ∧
    met base .a 7 (.trim 0 1001) (fun p => decide (p.logical < 0 + 1001)) = true ∧ metUnserving (.trim 0 1) = true ∧
    met (pooled 4095 (staged [record 0 10 1])) .a 7 (.trim 3 2)
      (fun p => decide (Serving p ∧ p.poolFree < p.recordNeed 3 5)) = true ∧
    met { base with sequence := 2 ^ 48 - 1 } .a 7 (.trim 0 1000)
      (fun p => decide (Serving p ∧ p.recordNeed 0 1000 ≤ p.poolFree ∧ p.entryNeed 0 1000 ≤ p.headroom)) = true ∧
    met written .a 7 (.trim 3 2) (fun p => decide (Serving p ∧ p.recordNeed 3 5 ≤ p.poolFree ∧
      p.entryNeed 3 5 ≤ p.headroom ∧ p.entryNeed 3 5 = 1 ∧ p.sequence ≠ 2 ^ 48 - 1)) = true := by decide +kernel

theorem met_trimMap : ∃ s p, Takes s .a 7 (.trim 3 2) p ∧ Serving p ∧ p.recordNeed 3 5 ≤ p.poolFree ∧
    p.headroom < p.entryNeed 3 5 :=
  ⟨{ staged [record 0 10 1] with map := crowdedMap }, _, ⟨rfl, rfl⟩, by decide +kernel, by decide +kernel,
    Nat.lt_of_lt_of_le (crowded_headroom rfl) (by decide +kernel)⟩

theorem met_trimLeavesNothing : (3 : Nat) < 5 ∧ mapSorted written.map = true := by decide +kernel

/-! #### Flush, Select, Clean, Set -/

def drains (queue : Nat) (p : State) : List (Fin 16) :=
  (hostQueues.filter fun q => queue == 255 || q.val == queue).filter p.drainable

theorem met_flushes :
    met base .a 7 (.flush 15) (fun _ => true) = true ∧ met base .a 7 (.flush 254) (fun _ => true) = true ∧
    met unformatted .a 7 (.flush 14) (·.formatNow == .unformatted) = true ∧
    met formatting .a 7 (.flush 255) (·.formatNow == .formatting) = true ∧
    met base .a 7 (.flush 255) (fun p => p.formatNow == .formatted && (drains 255 p).isEmpty) = true ∧
    met (staged [record 5 1 1]) .a 7 (.flush 0) (fun p => p.formatNow == .formatted && drains 0 p == [0]) = true := by
  decide +kernel

theorem met_select :
    ([14, 255, 15, 254].all fun q => met base .a 7 (.select q) fun _ => true) = true ∧
    ((base.modPort .a fun p => { p with selection := some 3 }).port .a).selection = some 3 ∧
    intervalsSorted none [⟨5, 9, 4⟩] = true ∧ (base.port .a).selection = none := by decide +kernel

/-- Band 0 CLOSED and a candidate. -/
def closed : State := base.modBand 0 fun b => { b with state := .closed }

theorem met_cleans :
    met base .a 7 (.clean 4) (fun p => p.formatNow == .formatted && p.bands.length ≤ 4) = true ∧
    metUnserving (.clean 4294967295) = true ∧ met unformatted .a 7 (.clean 9) (isUnserving · .unformatted) = true ∧
    met base .a 7 (.clean 3) (fun p => decide (Serving p) && !(p.bands[3]?).any Band.candidate) = true ∧
    met base .a 7 (.clean 4294967295) (fun p => decide (Serving p) && !p.bands.any Band.candidate) = true ∧
    met { closed with engine := { Engine.reset with state := .draining } } .a 7 (.clean 0)
      (fun p => (p.bands[0]?).any Band.candidate && p.engine.state != .idle) = true ∧
    met closed .a 7 (.clean 0) (fun p => decide (Serving p) && (p.bands[0]?).any Band.candidate && p.engine.state == .idle) = true ∧
    met closed .a 7 (.clean 4294967295) (fun p => p.bands.any Band.candidate && p.engine.state == .idle) = true := by decide +kernel

def division : List Nat := List.replicate 15 17408 ++ [1024]

theorem met_queueDivision :
    met base .a 7 (.setQueueDivision []) (fun _ => true) = true ∧
    met (staged [record 5 1 1]) .a 7 (.setQueueDivision division)
      (fun p => decide (division.length = 16 ∧ (∀ d ∈ division, d ≤ 262144) ∧ 1024 ≤ division.getD 15 0 ∧
        division.sum ≤ 262144 ∧ (p.queue 0).records ≠ [])) = true ∧
    met base .a 7 (.setQueueDivision division) (fun p => decide ((∀ q, (p.queue q).records = []) ∧ p.writeOrders = [])) = true := by
  decide +kernel

theorem met_settings :
    met base .a 7 (.setQueueThresholds none) (fun _ => true) = true ∧
    met base .a 7 (.setQueueThresholds (some (15, 0, 0))) (fun _ => true) = true ∧
    met base .a 7 (.setQueueThresholds (some (14, 16385, 0))) (fun p => decide ((p.queue 14).depth < 16385)) = true ∧
    met base .a 7 (.setQueueThresholds (some (14, 0, 60001))) (fun _ => true) = true ∧
    met base .a 7 (.setQueueThresholds (some (14, 16384, 60000))) (fun p => decide (16384 ≤ (p.queue 14).depth)) = true ∧
    met base .a 7 (.setIntervals none) (fun _ => true) = true ∧
    met base .a 7 (.setIntervals (some (15, []))) (fun _ => true) = true ∧
    met base .a 7 (.setIntervals (some (0, [⟨5, 9, 0⟩, ⟨9, 9, 0⟩]))) (fun _ => !decide ((9 : Nat) < 9)) = true ∧
    met base .a 7 (.setIntervals (some (14, [⟨5, 9, 0⟩, ⟨10, 2 ^ 36 - 1, 14⟩]))) (fun _ => decide ((9 : Nat) < 10)) = true ∧
    met base .a 7 (.setSpaceMarks none) (fun _ => true) = true ∧
    met base .a 7 (.setSpaceMarks (some (0, 1, 2))) (fun _ => true) = true ∧
    met base .a 7 (.setSpaceMarks (some (63, 64, 65))) (fun _ => true) = true ∧
    met base .a 7 (.setSpaceMarks (some (62, 63, 64))) (fun _ => true) = true ∧
    ([none, some 99, some 10001, some 100, some 10000].all fun v => met base .a 7 (.setOrderLimit v) fun _ => true) = true := by
  decide +kernel

/-- A Set that gives the offset in force works the fill state out all the same. -/
theorem test_setThresholds : (let s := base.modQueue 0 fun q => { q with offset := 16384 }
    (s.queue 0).almostFull = false ∧
      ((nextOf (exec (.setQueueThresholds .a 7 (some (0, 16384, 500))) s)).queue 0).almostFull = true) := by decide +kernel

theorem met_linkModeAndScope :
    met { base with table := [waiting .a 9 .wake] } .a 7 (.setLinkMode (some 0)) (·.table.any fun e => e.key.origin == .a) = true ∧
    ([none, some 2, some 0, some 1].all fun v => met { base with table := [waiting .b 9 .wake] } .a 7 (.setLinkMode v) fun p =>
      p.table.all fun e => e.key.origin != .a) = true ∧
    ([none, some (0, 1), some (2, 0), some (0, 0), some (1, 0), some (1, 1)].all fun v =>
      met base .a 7 (.setErrorScope v) fun _ => true) = true ∧
    met base .a 7 (.querySetting 6) (fun _ => true) = true := by decide +kernel

theorem met_noticeSets :
    ([none, some (2, 0), some (0, 1024), some (Link.a.code, 1023), some (Link.b.code, 0)].all fun v =>
      met base .a 7 (.setNoticeEnables v) (fun _ => true) && met base .a 7 (.setClearPendingNotices v) fun _ => true) = true := by
  decide +kernel

theorem met_queries :
    met unformatted .a 7 (.queryBandRecord 0) (·.formatNow == .unformatted) = true ∧
    met formatting .a 7 (.queryBandRecord 0) (·.formatNow == .formatting) = true ∧
    met base .a 7 (.queryBandRecord 4) (fun p => p.formatNow == .formatted && p.bands.length ≤ 4) = true ∧
    met base .a 7 (.queryBandRecord 3) (fun p => (p.bands[3]?).isSome) = true ∧
    met unformatted .a 7 (.queryMapLookup 0) (·.formatNow == .unformatted) = true ∧
    met formatting .a 7 (.queryMapLookup 0) (·.formatNow == .formatting) = true ∧
    met base .a 7 (.queryMapLookup 1000) (fun p => p.logical ≤ 1000) = true ∧
    met base .a 7 (.queryMapLookup 999) (fun p => 999 < p.logical) = true ∧
    ([.queryQueueRecord 16, .queryQueueRecord 15, .queryCounts, .queryMediaAndSpindleState, .queryRelocationState,
      .queryLinkStatesAndTableUse, .queryProfileRecord 8, .queryProfileRecord 7, .querySetting 0, .querySetting 9, .querySetting 1,
      .querySetting 8].all fun r => met base .a 7 r fun _ => true) = true ∧
    (mapSorted [⟨5, 2, 1, none⟩] = true ∧ ((5 : Nat) ≤ 6 ∧ (6 : Nat) < 7) ∧ ¬ ((5 : Nat) ≤ 7 ∧ (7 : Nat) < 7)) := by decide +kernel

/-! #### Load Profile, Format, spindle, reset -/

theorem met_loadProfiles :
    ([(8, 64, 8, 0), (1, 63, 8, 0), (1, 1025, 8, 0), (1, 64, 7, 0), (1, 64, 129, 0), (1, 64, 8, 2)].all fun x =>
      met base .a 7 (.loadProfile x.1 x.2.1 x.2.2.1 x.2.2.2) fun _ => true) = true ∧
    met base .a 7 (.loadProfile 0 64 8 1) (fun p => !p.loadValid 0 64 8 1) = true ∧
    met (base.modProfile 1 fun p => { p with state := .updating }) .a 7 (.loadProfile 1 1024 128 1)
      (fun p => p.loadValid 1 1024 128 1 && (p.profile 1).state == .updating) = true ∧
    met { closed with layout := some ⟨1, 4, []⟩ } .a 7 (.loadProfile 0 64 8 1)
      (fun p => p.loadValid 0 64 8 1 && p.bands.any fun b => b.profile == 0 && b.state != .free) = true ∧
    met down .a 7 (.loadProfile 1 64 8 1) (fun p => p.path == .down && p.bands.all fun b => b.profile != 1) = true ∧
    met base .a 7 (.loadProfile 1 64 8 1) (fun p => p.loadValid 1 64 8 1 && (p.profile 1).state == .unset && p.path == .ready
      && p.bands.all fun b => b.profile != 1) = true := by decide +kernel

/-- A layout of 64 bands of 504 data sectors: 27,216 is the largest L it takes. -/
def oneRange (logical profile : Nat) : Request := .format logical 64 [⟨0, 63, profile⟩]

theorem met_formats :
    met base .a 7 (.format 1 63 [⟨0, 62, 0⟩]) (fun _ => !Layout.wellFormed ⟨1, 63, [⟨0, 62, 0⟩]⟩) = true ∧
    met base .a 7 (oneRange 1 1) (fun p => Layout.wellFormed ⟨1, 64, [⟨0, 63, 1⟩]⟩ && (p.profile 1).state == .unset) = true ∧
    met (base.modProfile 7 fun p => { p with state := .updating }) .a 7 (oneRange 1 0)
      (fun p => (p.profile 0).state != .unset && (p.profile 7).state == .updating) = true ∧
    met (staged [record 5 1 1]) .a 7 (oneRange 1 0) (fun p => p.inUse != 0) = true ∧
    met { base with table := [waiting .b 9 (.patternGet 0 1 0)] } .a 7 (oneRange 1 0) (fun p => p.table.any (·.info.isGet)) = true ∧
    met base .a 7 (oneRange 27217 0) (fun p => p.formatQuiet && !Layout.holds p.capacityOf ⟨27217, 64, [⟨0, 63, 0⟩]⟩) = true ∧
    met base .a 7 (oneRange 27216 0) (fun p => p.formatQuiet && Layout.holds p.capacityOf ⟨27216, 64, [⟨0, 63, 0⟩]⟩ &&
      p.profiles.toList.all fun x => x.state != .updating) = true ∧
    (let s := { base with format := .formatting, formatting := some ⟨1, 64, [⟨0, 63, 0⟩]⟩ }
     s.format = .formatting ∧ s.formatting = some ⟨1, 64, [⟨0, 63, 0⟩]⟩) ∧ base.format ≠ .formatting := by decide +kernel

theorem met_quiesces :
    ([(2, 0, 0), (0, 8, 0), (0, 4, 0), (0, 4, 86401)].all fun x => met base .a 7 (.quiesce x.1 x.2.1 x.2.2) fun _ => true) = true ∧
    metUnserving (.quiesce 1 7 86400) = true ∧
    met { base with spindle := Spindle.reset } .a 7 (.quiesce 0 0 0) (fun p => decide (Serving p) && p.spindle.state != .spinning) = true ∧
    met down .a 7 (.quiesce 0 0 0) (fun p => p.spindle.state == .spinning && p.path == .down) = true ∧
    met { base with path := .recovering } .a 7 (.quiesce 0 0 0) (·.path == .recovering) = true ∧
    met base .a 7 (.quiesce 1 7 1) (fun p => ready p && p.spindle.state == .spinning && !p.restless true) = true := by decide +kernel

/-- The spindle at rest, parked or stopped; on its way there; and starting. -/
def spindleIn (x : SpindleState) : State := { base with spindle := { Spindle.reset with state := x } }

theorem met_wakesAndRestarts :
    met starting .a 7 .wake (·.service == .starting) = true ∧ met base .a 7 .wake (·.spindle.state == .spinning) = true ∧
    met { spindleIn .parked with path := .down } .a 7 .wake (fun p => p.spindle.state == .parked && p.path == .down) = true ∧
    ([SpindleState.parked, .stopped, .parking, .stopping, .starting].all fun x =>
      met (spindleIn x) .a 7 .wake fun p => p.service == .inService && p.spindle.state == x && p.path != .down) = true ∧
    met base .a 7 .mediaRestart (·.path != .down) = true ∧
    met down .a 7 .mediaRestart (fun p => p.path == .down && p.window.isEmpty && p.geometry.isEmpty) = true := by decide +kernel

/-- The spindle on its way to rest with PLACE in the release set. -/
def placing (s : State) : State := { s with spindle := Spindle.quiesced 0 2 0 ⟨.a, 7⟩ }

/-- Q0 newly offered; a relocation read newly presented; neither; and PLACE not in the set. -/
theorem met_releases :
    (let s := placing (staged [record 5 1023 9])
     s.placeReleases = true ∧ s.offered 0 = true ∧ (placing base).offered 0 = false) ∧
    (let s := placing { base with engine := { Engine.reset with
       state := .reading, victim := some 0, hand := some { TrackInHand.fresh 0 with phase := .presented } } }
     s.placeReleases = true ∧ s.relocPresented = true ∧ base.relocPresented = false) ∧
    ((allQueues.all fun q => !(placing base).offered q) && !(placing base).relocPresented) = true ∧ base.placeReleases = false := by
  decide +kernel

/-- A GEOMETRY order in the window. -/
def shaping (origin : GeoOrigin) : State := { base with window := [.geometry ⟨0, 64, 8, origin⟩], deadline := some 5000 }

theorem met_resets :
    met base .a 7 (.reset 0) (fun _ => true) = true ∧ met base .a 7 (.reset 3) (fun _ => true) = true ∧
    met base .a 7 (.reset 1) (·.window.isEmpty) = true ∧ met base .a 7 (.reset 2) (·.window.isEmpty) = true ∧
    met (shaping .reinstall) .a 7 (.reset 1) (!·.window.isEmpty) = true ∧
    met (shaping .reinstall) .a 7 (.reset 2) (!·.window.isEmpty) = true := by decide +kernel

theorem met_resetWork : (∀ b ∈ base.bands, b.prior ≠ some .opened) ∧
    (let p := staged [record 5 2 9]
     mapSorted p.map = true ∧ p.acknowledgedRecords = [record 5 2 9] ∧ 2 * p.inUse + 2 * 2 ≤ p.freeEntries ∧
       content p.map 5 = none ∧ (∀ l, (p.port l).pending = [])) := by
  refine ⟨by decide +kernel, by decide +kernel, by decide +kernel, by decide +kernel, by decide +kernel, ?_⟩
  intro l
  cases l <;> rfl

/-- The valid counts, told from the records. -/
theorem validCounts_of {s : State} (h : (s.bands.zipIdx.all fun x => x.1.valid == validOf s.map x.2) = true) : s.validCounts := by
  intro i b hb
  have := List.all_eq_true.mp h (b, i) (List.mem_zipIdx_iff_getElem?.mpr hb)
  simpa using this

/-- Band 0 is CLEANING, and all it holds is an older copy of the sector staged. -/
def cleaning : State := { staged [record 5 1 9] with
  map := [⟨5, 1, 3, some ⟨0, 0⟩⟩]
  bands := { Band.formatted 0 with state := .cleaning, prior := some .full, issued := 8, completed := 8, valid := 1 } ::
    List.replicate 3 (Band.formatted 0) }

theorem met_resetEmpties : cleaning.validCounts ∧ (∃ b, cleaning.bands[0]? = some b ∧ b.state = .cleaning ∧ b.pendingReads = 0) ∧
    validOf cleaning.convertRecords.map 0 = 0 :=
  ⟨validCounts_of (by decide +kernel), ⟨_, rfl, rfl, rfl⟩, by decide +kernel⟩

/-- The engine's victim, band 0, holds LSA 5 and a pending read, for a Clean; band 1 is OPEN; a Flush waits on Q0; a Get has slot 0. -/
def busy : State := { cleaning with
  map := [⟨900, 1, 3, some ⟨0, 0⟩⟩]
  bands := { Band.formatted 0 with state := .cleaning, prior := some .full, issued := 8, completed := 8, valid := 1, pendingReads := 1 } ::
    { Band.formatted 0 with state := .opened, queue := some 0 } :: List.replicate 2 (Band.formatted 0)
  engine := { Engine.reset with state := .reading, run := some .single, clean := some ⟨.a, 9⟩, target := some 0, victim := some 0 }
  table := [waiting .a 9 .clean, waiting .b 8 .flush, waiting .a 7 .get]
  queues := (cleaning.queues.set 0 { cleaning.queue 0 with waiting := [⟨.b, 8⟩], mark := true })
  slots := base.slots.set 0 { FetchSlot.empty with state := .active, key := ⟨.a, 7⟩ } }

theorem busy_tableFits : busy.tableFits := ⟨by decide, by intro l; cases l <;> decide, by decide⟩

theorem busy_validCounts : busy.validCounts := validCounts_of (by decide +kernel)

theorem met_resetReturns :
    ((busy.bands[1]?).any fun b => b.state == .opened) = true ∧
    ((busy.bands[0]?).any fun b => b.state == .cleaning && b.prior == some .full && b.pendingReads == 1 && b.valid == 1) = true ∧
    busy.engine.victim = some 0 ∧ busy.engine.clean = some ⟨.a, 9⟩ ∧ ⟨.b, 8⟩ ∈ (busy.queue 0).waiting ∧
    (busy.slot 0).state = .active ∧ (busy.slot 0).key = ⟨.a, 7⟩ ∧ validOf busy.convertRecords.map 0 = 1 := by
  decide +kernel

/-- The entry of a durable Put of two sectors with its data received. -/
def putEntry (discarded : Bool) (outcome : Outcome) (pieces : Nat) : ReqEntry :=
  { waiting .a 7 (.put { lsa := 5, count := 2, durable := true, sequence := 9, queue := 0, almostFull := false, next := 2
                         settling := false, pieces := pieces, outcome := outcome }) with discarded := discarded }

/-- A piece of one stretch of two sectors at LSA 5. -/
def piece (reloc : Bool) (attempts : Nat) : Piece :=
  { reloc := reloc, lsa := 5, length := 2, offset := 0, sequence := 9, source := if reloc then some ⟨1, 0⟩ else none, origin := none
    attempts := attempts, acknowledged := true, drain := false, stretches := [⟨0, 2, [[], []]⟩] }

/-- A piece of the Put. -/
def putPiece (attempts : Nat) : Piece := { piece false attempts with origin := some ⟨.a, 7⟩, acknowledged := false }

def writing (ps : List Piece) : State := { base with
  bands := { Band.formatted 0 with state := .opened, queue := some 0, issued := 1 } :: List.replicate 3 (Band.formatted 0)
  window := [.write { band := 0, track := 0, generation := 0, profile := 0, verify := false, queue := 0, pieces := ps, orphaned := false }]
  deadline := some 2000 }

/-- One entry, and it keeps the table's sizes. -/
theorem one_tableFits {s : State} {e : ReqEntry} (h : s.table = [e]) : s.tableFits where
  total := by rw [h]; simp
  ofLink := by
    intro l
    rw [h]
    exact Nat.le_trans List.countP_le_length (by simp)
  distinct := by rw [h]; simp

/-- A Put without a piece in flight, cut off by the reset or not, owed its answer or not; and one with a piece in flight. -/
theorem met_resetPuts :
    ([(false, Outcome.none), (true, .mediaError), (false, .aborted)].all fun x =>
      let p := { base with table := [putEntry x.1 x.2 1] }
      (p.allPieces.map fun c => if c.origin = some ⟨.a, 7⟩ then c.stretches.length else 0).sum == 0 && p.engine.clean == none
        && (allQueues.all fun q => (p.queue q).waiting.isEmpty) && allQueues.all fun i => (p.slot i).state == .free) = true ∧
    (let p := { staged [{ record 5 2 9 with origin := some ⟨.a, 7⟩ }] with table := [putEntry false .none 1] }
     ∃ r ∈ (p.queue 0).records, r.origin = some ⟨.a, 7⟩) ∧
    ((filling.table.any fun e => match e.info with
      | .put x => decide (x.next < x.count) && !x.settling && !e.answered
      | _ => false) = true) ∧
    (let p := { writing [putPiece 0] with table := [putEntry false .none 1] }
     (p.allPieces.map fun c => if c.origin = some ⟨.a, 7⟩ then c.stretches.length else 0).sum = 1) := by decide +kernel

theorem met_resetPutTable (d : Bool) (o : Outcome) : ({ base with table := [putEntry d o 1] } : State).tableFits := one_tableFits rfl

/-! #### Links -/

theorem met_holdAndRelease :
    ([LinkState.running, .ready, .error, .held].all fun x =>
      (met (linkB x) .a 7 (.hold 1) fun p => (p.port .b).state == x) && met (linkB x) .a 7 (.release 1) fun p => (p.port .b).state == x)
      = true ∧
    met base .a 7 (.hold 0) (fun _ => true) = true ∧ met base .a 7 (.release 2) (fun _ => true) = true := by decide +kernel

theorem met_malformedFrames :
    checkRight (withCheck [1, 16, 4, 0, 0, 0, 0, 0]) = true ∧ metFrame base .a (.malformed 16 4) (fun _ => true) = true ∧
    checkRight (withCheck [1, 7, 4, 0, 1, 0, 0, 0, 10]) = true ∧
    readFrame (withCheck [1, 7, 4, 0, 1, 0, 0, 0, 10]) = .request 4 (.unknown 7) ∧
    met base .a 4 (.unknown 7) (fun _ => true) = true ∧ fieldAt (withCheck [2, 9, 4, 0]) 0 1 = 2 ∧
    checkRight [1, 16, 4, 0, 0, 0, 0, 0, 0, 0, 0, 0] = false ∧ readFrame [1, 16, 4, 0, 0, 0, 0, 0, 0, 0, 0, 0] = .malformed 16 4 ∧
    checkRight [1, 7, 4, 0, 1, 0, 0, 0, 10, 0, 0, 0, 0] = false ∧
    readFrame [1, 7, 4, 0, 1, 0, 0, 0, 10, 0, 0, 0, 0] = .request 4 (.unknown 7) ∧
    (base.port .a).state = .running ∧ (base.port .a).rx = [] ∧ ((linkB .ready).port .b).state = .ready ∧
    ((linkB .ready).port .b).rx = [] := by decide +kernel

/-- Link B READY with 16 credits, RUNNING with 16 credits held, RUNNING with no credit granted, ERROR, HELD. -/
theorem met_unitsReceived :
    ((linkB .ready).port .b).creditsHeld ≠ 16 ∧ 1 ≤ ((linkB .ready).port .b).creditsGranted ∧ (base.port .a).creditsHeld ≠ 16 ∧
    ((base.modPort .a fun p => { p with creditsHeld := 16 }).port .a).creditsHeld = 16 ∧ 1 ≤ (base.port .a).creditsGranted ∧
    ((base.modPort .a fun p => { p with creditsGranted := 0 }).port .a).creditsGranted = 0 ∧ checkRight putBytes = true ∧
    checkRight (1 :: putBytes) = false ∧ ((linkB .ready).port .b).state = .ready ∧
    (((linkB .ready).modPort .b fun p => { p with creditsHeld := 16, creditsGranted := 0 }).port .b).creditsHeld = 16 ∧ ((linkB .error).port .b).state = .error ∧ ((linkB .held).port .b).state = .held := by
  decide +kernel

/-- A frame being sent that holds x; a notice being sent. -/
def sending (x : FrameHold) : State := base.modPort .a fun p =>
  { p with sending := some .frame, txq := [{ immediate .a 7 5 .ok .none with holds := x }] }

theorem met_unitsSent :
    ([FrameHold.slotAndTag, .slot, .entry, .resetTag, .nothing].all fun x =>
      ((sending x).port .a).sending == some .frame && !((sending x).port .a).txq.isEmpty) = true ∧
    (base.port .a).sending = none ∧
    ([Sending.notice .wake, .cleared].all fun x =>
      ((base.modPort .a fun p => { p with sending := some x }).port .a).sending == some x) = true := by decide +kernel

/-- The scopes of a link failure, in service and not. -/
theorem met_linkFailures : base.scope.link = false ∧ base.resetting = false ∧
    ({ base with resetWaits := some 1 } : State).resetting = true ∧
    (let s := { base with scope := ⟨true, true⟩ }; s.scope.paired = true ∧ (s.port .b).state = .running) ∧
    (let s := { linkB .error with scope := ⟨true, true⟩ }; s.scope.link = true ∧ (s.port .b).state ≠ .running) ∧
    starting.service = .starting ∧ base.service = .inService := by decide +kernel

/-- Link A fails under LINK scope, with and without a survivor, with a frame of an entry and an immediate answer waiting, while a Put of
it is filling. -/
theorem met_abandoned :
    ([true, false].all fun paired =>
      let s := { filling with scope := ⟨true, paired⟩ }
      s.service == .inService && (s.port .a).state == .running && (s.port .b).state == .running && s.engine.clean == none &&
        (allQueues.all fun i => (s.slot i).state == .free) && s.table.any fun e => e.stillFills .a && !e.discarded && match e.info with
          | .put put => decide (put.pieces ≤ (hostQueues.flatMap fun q => (s.queue q).records).countP fun r =>
              r.origin == some e.key && r.filling != 0)
          | _ => false) = true ∧
    (((sending .entry).port .a).txq.filter fun f => f.holds != .slotAndTag && f.holds != .slot).length = 1 ∧
    (((sending .slot).port .a).txq.filter fun f => f.holds != .slotAndTag && f.holds != .slot) = [] := by decide +kernel

/-- The worked sequence of chapter 9: the Put still filling on link A is answered ABORTED on link B, redirected, ahead of the frame moved
there, and its records and entries are released (R155; log 47). -/
theorem test_pairedFailure :
    (let moved : OutFrame := { tag := 6, origin := .a, redirected := false, holds := .nothing, body := .data .ok 3 [] }
     let s := { filling.modPort .a fun p => { p with txq := [moved] } with scope := ⟨true, true⟩ }
     let t := nextOf (exec (.linkSilenceTimeout .a) s)
     (t.port .b).txq = s.table.filterMap (s.abandonedAnswer .a) ++ [{ moved with redirected := true }] ∧
       (s.table.filterMap (s.abandonedAnswer .a)).map (fun f => (f.tag, f.redirected)) = [(7, true)] ∧
       t.inUse = 0 ∧ ∀ q, (t.queue q).records = []) := by decide +kernel

theorem filling_tableFits : filling.tableFits := by
  have h : filling.table = [(filling.table.head?).getD (waiting .a 7 .wake)] := by decide +kernel
  exact one_tableFits h

/-! #### Start-up and the media path -/

def offline : State := { base with path := .offline, service := .starting, stage := .waitReady, startWait := true }

theorem met_startUp :
    State.reset.stage = .held ∧ State.reset.path = .offline ∧ State.reset.service = .starting ∧ base.stage ≠ .held ∧ offline.path = .offline ∧
    offline.stage = .waitReady ∧ State.reset.format ≠ .formatted ∧
    ((base.modProfile 3 fun p => { p with state := .updating }).profile 3).state = .updating ∧
    (∃ b ∈ base.bands, b.state = .free) ∧ base.path = .ready ∧ down.path = .down := by decide +kernel

/-- The deadline runs; the escalation timer runs or not; the waits; the timers. -/
theorem met_mediaFaults : (shaping .reinstall).path = .ready ∧ (shaping .reinstall).escalation = false ∧
    (shaping .reinstall).deadline ≠ none ∧ ({ shaping .reinstall with escalation := true } : State).escalation = true ∧
    down.path ≠ .ready ∧ base.deadline = none ∧ ({ base with recoveryWait := true } : State).recoveryWait = true ∧
    base.recoveryWait = false ∧ offline.startWait = true ∧ base.startWait = false ∧
    ((base.modQueue 3 fun q => { q with timer := .running 500 }).queue 3).timer = .running 500 ∧ (base.queue 3).timer = .stopped ∧
    (let s := { base with spindle := { Spindle.reset with wakeTimer := some 5 } }
     s.spindle.wakeTimer = some 5 ∧ s.spindle.state = .stopped ∧ s.path ≠ .down) ∧ base.spindle.wakeTimer = none := by decide +kernel

/-- A SPIN UP in the window after one failure, and none. -/
theorem met_pathEntries :
    ({ base with window := [.motion .spinUp], spindle := { Spindle.reset with state := .starting, attempts := some 1 } } :
      State).secondSpinFailure = true ∧ base.secondSpinFailure = false := by decide +kernel

/-- A READ TRACK of positions 5 and 6 of track 0 of band 0, for slot 0. -/
def fetch (stage : ReadStage) : FetchRead :=
  { slot := 0, band := 0, track := 0, profile := 0, first := 5, count := 2, needed := [(5, 0), (6, 1)], stage := stage, timeouts := 0 }

def reading (stage : ReadStage) : State := { base with
  window := [.read { owner := .fetch (fetch stage), band := 0, track := 0, profile := 0, first := 5, count := 2, timeouts := 0
                     delivered := [5] }]
  deadline := some 2000
  slots := base.slots.set 0 { FetchSlot.empty with
    state := .active, count := 2, sectors := List.replicate 2 { source := .media, status := none, place := none, data := [] } } }

/-- The oldest order of a state, if it is a read. -/
def oldestRead (s : State) : Option ReadOrder :=
  match s.window.head? with
  | some (.read r) => some r
  | _ => none

/-- An order of each owner in the window of a part: first and second timeouts, a read of a slot in ENDING, one a reset has left over, the
band of a second timeout emptied or not, a Load Profile and a reinstall, each motion order; and an empty window with the spindle in each
state. -/
theorem met_handedOver :
    (reading .initial).window.length = 1 ∧ ((reading .initial).slot 0).state = .active ∧ (fetch .initial).timeouts = 0 ∧
    (base.slot 0).state ≠ .active ∧
    ((busy.bands[0]?).any fun b => b.state == .cleaning && b.prior == some .full && !(b.valid == 0 && b.pendingReads ≤ 1)) = true ∧
    (let s := { busy with bands := busy.bands.modify 0 fun b => { b with valid := 0 } }
     (s.bands[0]?).any fun b => b.valid == 0 && b.pendingReads ≤ 1) = true ∧
    busy.engine.run = some .single ∧ busy.engine.victim = some 0 ∧ busy.engine.clean.isSome = true ∧
    (let s := closed.abandoned 1 .full
     s.freeBands < s.marks.high ∧ s.bands.any Band.candidate = true ∧ closed.freeBands = 3) ∧
    (([GeoOrigin.loadProfile ⟨.a, 7⟩, .reinstall].all fun g => (shaping g).window.length == 1) = true) ∧
    (let s := { base with spindle := Spindle.quiesced 0 4 5 ⟨.a, 7⟩, window := [.motion .park] }
     s.spindle.quiesce = some ⟨.a, 7⟩ ∧ s.secondSpinFailure = false) ∧
    (State.startSpin { base with spindle := Spindle.reset }).spindle.attempts = some 0 ∧
    ([SpindleState.starting, .parking, .stopping, .parked, .stopped, .spinning].all fun x =>
      (spindleIn x).window.isEmpty && (spindleIn x).service == .inService) = true ∧ base.stage ≠ .held := by
  decide +kernel

theorem base_noMotion (m : Motion) : Order.motion m ∉ base.window := List.not_mem_nil

/-- The edges of R183: status 5, a sector below and above the range, one twice, not ascending, a list on a WRITE; and a sector
awaited. -/
theorem met_recordFaults : (reading .initial).path = .ready ∧ ((oldestRead (reading .initial)).any fun r =>
      r.first == 5 && r.first + r.count == 7 && !r.delivered.contains 6) = true ∧
    (4 : Nat) < (comp 2 5 []).status ∧ ¬ (comp 2 0 [6, 6]).unreadable.Pairwise (· < ·) ∧
    ¬ (comp 2 0 [6, 5]).unreadable.Pairwise (· < ·) ∧ (∀ x ∈ [4, 7], x < 5 ∨ 5 + 2 ≤ x) ∧
    (comp 3 0 [1]).unreadable ≠ [] ∧ (comp 2 3 [6]).status ≠ 0 ∧
    (comp 2 0 [6, 6]).check = checkValue (completionBytes 2 (comp 2 0 [6, 6])) := by decide +kernel

theorem met_recordsOutOfTurn : down.path ≠ .ready ∧ base.path = .ready ∧ base.window = [] ∧
    (∀ o ∈ (shaping .reinstall).window.head?, o.code = 3) ∧ (∀ o ∈ (reading .initial).window.head?, o.code = 2) ∧
    ((oldestRead (reading .initial)).all fun r => !r.expects 4 && !r.expects 5 && r.expects 6 && !r.expects 7) = true := by
  decide +kernel

/-- A record with another check value, and the first statuses that are none of the kind's. -/
theorem met_wrongRecords :
    ([1, 2, 3, 4].all fun k => checkValue (completionBytes k ⟨0, [], 0⟩) != 0) = true ∧ 3 < (comp 1 4 []).status ∧
    ([1, 2, 4].all fun x => (comp 2 x []).status != 0 && (comp 2 x []).status != 3) = true ∧
    ([1, 3, 5].all fun x => (comp 4 x []).status != 0 && (comp 4 x []).status != 4) = true ∧
    checkValue (deliveryBytes 6 []) ≠ 0 := by decide +kernel

/-- The order of a state with a WRITE TRACK in front. -/
def oldestWrite (s : State) : Option WriteOrder :=
  match s.window.head? with
  | some (.write w) => some w
  | _ => none

theorem met_writes :
    ([[], [piece false 0], [piece true 0], [piece false 2], [piece false 1, piece true 2, putPiece 2]].all fun ps =>
      (writing ps).path == .ready && (oldestWrite (writing ps)).any fun w => w.pieces == ps && !w.orphaned) = true ∧
    (comp 1 0 []).check = checkValue (completionBytes 1 (comp 1 0 [])) ∧ (comp 1 3 []).status = 3 ∧ (comp 1 1 []).status = 1 ∧
    (∀ pc ∈ [piece false 0, piece false 1], pc.attempts < 2) ∧ (piece false 2).origin = none ∧
    ((insertHost (writing []).map { lsa := 5, length := 2, sequence := 9, location := none }
      (State.budget { writing [] with window := [] } 1)).entered ≠ []) := by decide +kernel

/-- A durable Put whose last piece is in the order, whether the order is done, at its third failure, or orphaned and failed; and a
non-durable Put settled by a reset. -/
theorem met_writtenPuts :
    recordsNaming ⟨.a, 7⟩ [putPiece 0] = 1 ∧ recordsNaming ⟨.a, 7⟩ ([putPiece 2].filter fun pc => !(pc.attempts < 2)) = 1 ∧
    (let s := { writing [putPiece 2] with table := [putEntry false .none 1] }
     s.putInfo ⟨.a, 7⟩ = match (putEntry false .none 1).info with
       | .put x => some x
       | _ => none) ∧
    (let s := { writing [putPiece 0] with table := [putEntry false .none 1] }
     s.entry ⟨.a, 7⟩ = some (putEntry false .none 1) ∧ s.engine.clean = none ∧ (∀ i, (s.slot i).state = .free)) ∧
    (∀ pc ∈ [piece false 0, putPiece 0, piece true 0], pc.acknowledged = true → pc.origin = none) ∧
    (insertsOf (fun _ _ => none) (fun pc => !pc.reloc && pc.acknowledged) 0 (stretchesOf [piece false 0, putPiece 0]) []).any
      (fun r => !(r.2.entered ++ r.2.dropped).isEmpty) = true ∧
    (insertsOf (fun _ _ => none) (fun _ => true) 0 (stretchesOf [piece false 2]) []).any (fun r => !r.2.entered.isEmpty) = true := by
  decide +kernel

/-- A piece of the Put that a data frame fills, parted from its record by a Trim and a placement split, is in flight. -/
theorem met_filledPiece : (let s := { filling with window := (writing [putPiece 0]).window }
    (s.allPieces.any fun c => c.origin == some ⟨.a, 7⟩) = true ∧ ∃ r ∈ (s.queue 0).records, r.origin = some ⟨.a, 7⟩) := by
  decide +kernel

theorem met_writtenTable : ({ writing [putPiece 0] with table := [putEntry false .none 1] } : State).tableFits := one_tableFits rfl

/-- Q1 holds so many records beside a write order. -/
def holding (rs : List Fragment) : State := { writing [piece false 0] with
  window := [], queues := (writing [piece false 0]).queues.set 1 { Queue.reset with records := rs } }

theorem holding_inUse (rs : List Fragment) : rs.length ≤ (holding rs).inUse := by
  have h : ((holding rs).queue 1).records.length = rs.length := rfl
  simp only [State.inUse, allQueues, List.map_cons, List.sum_cons, h]
  omega

/-- Two unwritten sectors entered with no entry to spare are dropped. -/
theorem met_droppedSectors : (∃ rs, 4194305 ≤ (holding rs).inUse) ∧
    ∀ n, 4194305 ≤ n → ∃ r ∈ insertsOf (fun _ _ => some ⟨0, 0⟩) (fun _ => true) n (stretchesOf [piece false 0]) [],
      r.1.reloc = false ∧ r.2.dropped ≠ [] := by
  constructor
  · refine ⟨List.replicate 4194305 (record 900 1 1), ?_⟩
    have h := holding_inUse (List.replicate 4194305 (record 900 1 1))
    rwa [List.length_replicate] at h
  · intro n hn
    refine ⟨_, List.mem_cons_self, rfl, ?_⟩
    have h : budgetWith (n + 0 + 1) [] = 0 := by
      unfold budgetWith
      simp only [List.length_nil]
      omega
    show (if true = true then Piece.insert (piece false 0) [] (some ⟨0, 0⟩) ⟨0, 2, [[], []]⟩ (budgetWith (n + 0 + 1) [])
      else { entries := [], entered := [], dropped := [] }).dropped ≠ []
    rw [h]
    decide +kernel

/-- A read of an owner in the window of a state, with positions 5 and 6 of track 0 of band 0 to come. -/
def readingFor (owner : ReadOwner) (delivered : List Nat) (s : State) : State := { s with
  window := [.read { owner := owner, band := 0, track := 0, profile := 0, first := 5, count := 2, timeouts := 0, delivered := delivered }]
  deadline := some 2000 }

/-- The engine reads LSAs 5 and 6, which lie at data indexes 5 and 6 of its victim, band 0. -/
def relocating (stage : ReadStage) : State := { written with engine := { Engine.reset with
  state := .reading, run := some .auto, victim := some 0, cursor := some 0
  hand := some { track := 0, phase := .inWindow, stage := stage, timeouts := 0, fixed := true, claimWait := false
                 live := [⟨5, 5, 0, none, []⟩, ⟨6, 6, 0, none, []⟩] } } }

/-- A relocation read with every sector read, with one listed; one left over; a read of a slot in ENDING. -/
theorem met_otherReads :
    ([ReadOwner.relocation false, .relocation true, .fetch (fetch .initial)].all fun o =>
      (oldestRead (readingFor o [5, 6] base)).any fun r => (Order.read r).accepts (comp 2 0 []) && (Order.read r).accepts (comp 2 0 [6]) &&
        (Order.read r).accepts (comp 2 3 []) && r.owner == o && r.band == 0) = true ∧
    (readingFor (.relocation false) [5, 6] (relocating .initial)).engine.victim = some 0 ∧
    (readingFor (.relocation false) [5, 6] (relocating .initial)).engine.hand.isSome = true ∧
    (let s := readingFor (.fetch (fetch .initial)) [5, 6] (slotted 1 .a)
     (s.slot 0).state = .ending ∧ State.slotReads { s with window := [] } 0 = false) ∧
    (comp 2 0 []).check = checkValue (completionBytes 2 (comp 2 0 [])) := by decide +kernel

/-- The footer of track 0 of band 0, with one piece of one sector at LSA 20. -/
def footer : Sector := WriteOrder.footer { band := 0, track := 0, generation := 0, profile := 0, verify := false, queue := 0
                                           pieces := [⟨false, 20, 1, 0, 9, none, none, 0, false, false, [⟨0, 1, []⟩]⟩], orphaned := false }

/-- Start-up reads it, with another band left to reconcile, or none. -/
def reconciling (more : Nat) : State := { base with
  service := .starting, stage := .reconcile 0 0 0 true footer
  bands := { Band.formatted 0 with state := .closed, issued := 1 } :: { Band.formatted 0 with state := .closed, issued := more } ::
    List.replicate 2 (Band.formatted 0)
  window := [.read { owner := .startUp, band := 0, track := 0, profile := 0, first := 63, count := 1, timeouts := 0, delivered := [63] }] }

theorem footer_length : footer.length = 4096 := by
  simp only [footer, WriteOrder.footer, withCheck, List.length_append, List.length_replicate, leBytes_length]
  rfl

theorem footer_intact : (intactFooter footer 0 0 0 0 64).isSome = true := by
  have h : checkRight footer = true := checkRight_withCheck _
  rw [intactFooter, if_pos ⟨footer_length, h, by decide +kernel⟩]
  rfl

theorem met_reconciliation :
    ([0, 1].all fun n => (oldestRead (reconciling n)).any fun r => (Order.read r).accepts (comp 2 0 []) &&
      (Order.read r).accepts (comp 2 0 [63]) && (reconciling n).bands.all fun v => v.prior == none) = true ∧
    (reconciling 0).footerData = footer ∧ ((reconciling 0).shapeOf 0).sectors = 64 ∧ intactFooter [] 0 0 0 0 64 = none := by
  refine ⟨by decide +kernel, rfl, by decide +kernel, by decide +kernel⟩

theorem met_reconciled : Reconciled (reconciling 0) 0 { Band.formatted 0 with state := .closed, issued := 1 } := by
  refine ⟨by decide +kernel, by decide, by decide, by decide +kernel⟩

/-- A Get of three sectors in slot 0: with all of them settled, with the second left, with one LOST, and with one settled under R118. -/
def answering (second : Option SectorStatus) (mediaDown : Bool) : State := { base with
  table := [waiting .a 7 .get]
  slots := base.slots.set 0 { FetchSlot.empty with
    state := .active, key := ⟨.a, 7⟩, count := 3, next := 0, mediaDown := mediaDown
    sectors := [some .ok, second, some .unwritten].map fun x => { source := .media, status := x, place := none, data := [] } } }

theorem met_delivery :
    ([(none, false), (some .ok, false), (some .lost, false), (some .mediaError, true)].all fun x =>
      let s := answering x.1 x.2
      (s.slot 0).state == .active && s.entry (s.slot 0).key == some (waiting .a 7 .get) && s.engine.clean == none &&
        (allQueues.all fun j => j == 0 || (s.slot j).state == .free) &&
        (((s.slot 0).sectors.drop 0).takeWhile fun y => y.status.isSome).length == (if x.1.isSome then 3 else 1)) = true := by
  decide +kernel

theorem met_geometryCompletes :
    ([GeoOrigin.loadProfile ⟨.a, 7⟩, .reinstall, .startUp].all fun g => (shaping g).path == .ready && (shaping g).window.length == 1) = true ∧
    ([0, 3].all fun x => (comp 3 x []).check == checkValue (completionBytes 3 (comp 3 x []))) = true := by decide +kernel

/-- Each motion order in the window, with a Quiesce, with no failure and with one. -/
theorem met_motionCompletes :
    ([Motion.park, .unpark, .spinDown, .spinUp].all fun m => [0, 4].all fun x => (comp m.code x []).check ==
      checkValue (completionBytes m.code (comp m.code x []))) = true ∧
    (let s := { base with spindle := Spindle.quiesced 0 4 5 ⟨.a, 7⟩, window := [.motion .park] }
     s.path = .ready ∧ s.spindle.releasePending = false ∧ s.spindle.quiesce = some ⟨.a, 7⟩) ∧ base.service = .inService ∧
    base.stage = .done ∧ (State.startSpin { base with spindle := Spindle.reset }).spindle.attempts = some 0 := by decide +kernel

/-- A PARK that ends DONE with a release pending; the SPIN UP of a start-up. -/
theorem met_motionReleases :
    (let s := { base with window := [.motion .park], spindle := { Spindle.quiesced 0 4 5 ⟨.a, 7⟩ with releasePending := true } }
     s.path = .ready ∧ s.spindle.releasePending = true ∧ s.spindle.quiesce = some ⟨.a, 7⟩) ∧
    (let s := { starting with window := [.motion .spinUp], stage := .spinUp false }
     s.path = .ready ∧ s.service = .starting ∧ s.stage = .spinUp false) := by decide +kernel

/-! #### Grants and relocation -/

theorem met_grants :
    down.path ≠ .ready ∧ ({ base with window := List.replicate 4 (.geometry ⟨0, 64, 8, .reinstall⟩) } : State).window.length = 4 ∧
    (∃ o ∈ ({ base with window := [.motion .park] } : State).window, o = .motion .park) ∧
    (let s := { shaping .reinstall with spindle := { Spindle.turning with motion := some .park } }
     s.spindle.motion = some .park ∧ s.window.length < 4 ∧ s.window ≠ [] ∧ s.window.any Order.isMotion = false) ∧
    (let s := { base with geometry := [⟨0, 64, 8, .reinstall⟩] }; s.spindle.motion = none ∧ s.geometry.length = 1 ∧ s.window = []) ∧
    (spindleIn .stopped).spindle.state ≠ .spinning ∧
    (let s := { base with fetchList := [fetch .initial] }
     s.emergency = false ∧ s.fetchRun < 8 ∧ s.candidate = false ∧ s.stage = .done ∧ s.spindle.state = .spinning) := by decide +kernel

/-- A relocation read presented, of the track on which LSAs 0 to 9 lie. -/
def presenting (fixed : Bool) : State := { written with engine := { Engine.reset with
  state := .reading, run := some .auto, victim := some 0, cursor := some 0
  hand := some { TrackInHand.fresh 0 with phase := .presented, fixed := fixed } } }

/-- The ranks: a space emergency or not, the gates held or not, the claim granted or not; the footer read of start-up. -/
theorem met_relocationGrants :
    ([presenting false, presenting true].all fun s => s.path == .ready && s.window.isEmpty && s.spindle.state == .spinning &&
      s.spindle.motion == none && s.geometry.isEmpty && s.stage == .done && !s.candidate && s.fetchList.isEmpty && s.relocPresented &&
      s.claimable 0 1) = true ∧
    ({ presenting false with marks := ⟨3, 4, 5⟩ } : State).emergency = true ∧ (presenting false).emergency = false ∧
    pieceSectors ((presenting false).piecesOn 0 0) = 10 ∧ (presenting false).space 15 = 16384 ∧
    ((presenting false).modQueue 15 fun q => { q with depth := 9 }).space 15 = 9 ∧
    ((presenting false).modQueue 15 fun q => { q with depth := 10 }).space 15 = 10 ∧
    ((presenting false).modBand 0 fun b => { b with pendingReads := 32 }).claimable 0 1 = false ∧
    (let s := { base with stage := .reconcile 0 0 0 false [], service := .starting }
     s.relocPresented = false ∧ s.candidate = false ∧ s.spindle.state = .spinning) ∧
    (let s := { base with fetchList := [fetch .initial], marks := ⟨4, 5, 6⟩ }
     s.emergency = true ∧ s.relocPresented = false ∧ s.offered 15 = false) := by decide +kernel

/-- Q0 holds a full track and has band 0. -/
def offering : State := { staged [record 5 64 9] with
  bands := { Band.formatted 0 with state := .opened, queue := some 0, issued := 7, completed := 7 } :: List.replicate 3 (Band.formatted 0) }

theorem met_writeIsGranted :
    offering.path = .ready ∧ offering.window = [] ∧ offering.spindle.motion = none ∧ offering.geometry = [] ∧
    offering.spindle.state = .spinning ∧ offering.emergency = false ∧ offering.stage = .done ∧ offering.fetchList = [] ∧
    (roundFrom offering.lastServed).find? offering.offered = some 0 ∧ offering.boundBand 0 = some 0 ∧
    (offering.bands[0]?).isSome = true ∧ (offering.build 0 0).pieces ≠ [] ∧ (offering.build 0 0).split ≠ none := by decide +kernel

/-- At a fetch-run count of 8 with a fetch read waiting; in a space emergency, a host queue's write, and Q15's ahead of a fetch read. -/
theorem met_writeRanks :
    (let s := { offering with fetchRun := 8, fetchList := [fetch .initial] }
     s.emergency = false ∧ s.candidate = true ∧ (roundFrom s.lastServed).find? s.offered = some 0) ∧
    (let s := { offering with marks := ⟨3, 4, 5⟩ }
     s.emergency = true ∧ s.relocPresented = false ∧ s.offered 15 = false ∧ (roundFrom s.lastServed).find? s.offered = some 0) ∧
    (let s := { base.modQueue 15 fun q => { q with records := [relocRecord] } with
       marks := ⟨3, 4, 5⟩, fetchList := [fetch .initial]
       bands := { Band.formatted 0 with state := .opened, queue := some 15 } :: List.replicate 3 (Band.formatted 0) }
     s.emergency = true ∧ s.relocPresented = false ∧ s.offered 15 = true ∧ s.boundBand 15 = some 0 ∧ (s.build 15 0).pieces ≠ []) := by
  decide +kernel

/-- A candidate that declines: its record is longer than the track, and no pool record is left for a split. -/
theorem met_declined :
    (let s := { offering.modQueue 1 fun q => { q with records := List.replicate 4095 { record 900 1 1 with filling := 1 } } with
       fetchRun := 8, fetchList := [fetch .initial] }
     (s.emergency = false ∧ s.candidate = true ∧ s.stage = .done) ∧ s.placementGrant.2 = false) := by decide +kernel

/-- Q0 holds a full track and is bound to no band: band 0 is opened for it. -/
theorem met_opens :
    (let s := staged [record 5 64 9]
     s.offered 0 = true ∧ s.boundBand 0 = none ∧ s.grantable 0 = some 0 ∧ (s.opening 0 0).ready 0 = true ∧
       ((s.opening 0 0).build 0 0).pieces ≠ [] ∧ (roundFrom s.lastServed).find? s.offered = some 0 ∧ s.fetchList = [] ∧
       s.emergency = false) ∧
    (let s := { base with marks := ⟨4, 5, 6⟩ }; s.grantable 0 = none ∧ s.grantable 15 = some 0 ∧ s.stallOf 0 = .space) := by
  decide +kernel

/-- Neither a pool record nor a track for its record: Q0 declines, on its band or on one opened for it; Q2 is chosen after it, or none. -/
theorem met_declines :
    ([none, some 0].all fun bound => [[], [record 5 63 9]].all fun next =>
      let s := { ((staged [record 5 64 9]).modQueue 1 fun q => { q with
          records := List.replicate (4095 - next.length) { record 900 1 1 with filling := 1 } }).modQueue 2 fun q => { q with
          records := next } with
        bands := { Band.formatted 0 with state := if bound = none then .free else .opened, queue := bound, generation := 3 } ::
          List.replicate 3 (Band.formatted 0) }
      let z := if bound = none then s.opening 0 0 else s
      s.poolFree == 0 && (roundFrom s.lastServed).find? s.offered == some 0 && !s.emergency && !s.relocPresented && z.ready 0 &&
        (z.build 0 0).pieces.isEmpty && (z.poolStalled 0).nextAfter 0 == next.head?.map (fun _ => 2) &&
        (next.isEmpty || ((z.poolStalled 0).boundBand 2 == none && (z.poolStalled 0).grantable 2 == some 1 &&
          !(((z.poolStalled 0).opening 2 1).build 2 1).pieces.isEmpty))) = true := by decide +kernel

theorem met_trackBuilding : (∀ r ∈ [record 5 64 9, record 80 1 10], r.filling = 0 ∧ r.kind ≠ .lostrel ∧ 0 < r.length) ∧
    (∀ r ∈ [record 5 64 9, record 80 1 10], r.length ≤ 64) := by decide +kernel

/-- Each way a walk ends: all taken, the room full, a filling record, a record too long with no split, and a split. -/
theorem test_walks :
    (buildWalk true 63 160 0 [record 5 2 9]).left = [] ∧ (buildWalk true 2 160 0 [record 5 2 9, record 9 1 3]).left = [record 9 1 3] ∧
    (buildWalk true 63 160 0 [{ relocRecord with kind := .lostrel }, { record 5 2 9 with filling := 1 }]).pieces = [] ∧
    (buildWalk false 3 160 0 [record 5 2 9, record 7 2 3]).left = [record 7 2 3] ∧
    (buildWalk true 3 160 0 [record 5 2 9, record 7 2 3]).split = some (record 7 2 3) := by decide +kernel

def selecting (run : RunKind) (target : Option Nat) (clean : Option Key) (s : State) : State :=
  { s with engine := { Engine.reset with state := .selecting, run := some run, clean := clean, target := target } }

theorem met_victims :
    base.engine.state ≠ .selecting ∧ (selecting .auto none none closed).chosenVictim = some 0 ∧
    (selecting .single (some 0) (some ⟨.a, 7⟩) closed).chosenVictim = some 0 ∧
    (selecting .auto none none base).chosenVictim = none ∧ (selecting .auto none (some ⟨.a, 7⟩) base).chosenVictim = none ∧
    (selecting .single (some 1) (some ⟨.a, 7⟩) closed).chosenVictim = none ∧
    (selecting .auto none none closed).engine.run = some .auto ∧ (selecting .single (some 0) none closed).engine.run = some .single ∧
    (closed.bands[0]?).any (fun v => v.state == .closed && v.completed == v.issued) = true ∧ closed.engine.deferred ≠ some 0 := by
  decide +kernel

/-- LSAs 0 and 1 of a victim, one read and one not, in RECORDS. -/
def hand : TrackInHand :=
  { track := 0, phase := .records, stage := .reread, timeouts := 0, fixed := true
    live := [⟨0, 0, 0, some true, []⟩, ⟨1, 1, 0, some false, []⟩], claimWait := false }

def recording : State := { written with engine := { Engine.reset with
  state := .reading, run := some .auto, victim := some 0, cursor := some 0, hand := some hand } }

theorem met_relocationRecords :
    recording.engine.victim = some 0 ∧ recording.engine.hand = some hand ∧ hand.phase = .records ∧
    (recording.relocRecords 0 hand).length = 2 ∧ 2 ≤ recording.poolFree ∧ 4 ≤ recording.headroom ∧ base.engine.hand = none ∧
    (hand.live.map (·.index)).Pairwise (· < ·) ∧ (TrackInHand.fresh 0).phase ≠ .records ∧
    (∀ x ∈ hand.live, ∀ y ∈ hand.live, x.piece = y.piece → x.lsa + y.index = y.lsa + x.index) ∧
    (∀ x ∈ hand.live, recording.stillLive 0 x ≠ none) ∧
    (let h := { hand with live := [⟨0, 0, 0, some true, []⟩, ⟨1, 1, 0, some true, []⟩] }
     (recording.relocRecords 0 h).map (·.length) = [2]) := by decide +kernel

theorem met_relocationRefused : (pooled 4095 recording).poolFree < ((pooled 4095 recording).relocRecords 0 hand).length := by
  decide +kernel


end Sys2Proof.Tests
end

/-! PROOFS. A level 0 reset, the choice of a victim, and the GEOMETRY orders that complete (O4, O59, O54). -/

namespace Sys2Proof.Machine

/-! ### The choice of a victim (R128) -/

theorem Band.candidate_iff (b : Band) :
    b.candidate = true ↔ (b.state = .full ∨ b.state = .closed) ∧ b.completed = b.issued := by
  simp [Band.candidate]

/-- The order of ranks is the lexicographic one. -/
theorem rankBefore_iff (x y : Nat × Nat × Nat) :
    rankBefore x y = true ↔ x.1 < y.1 ∨ (x.1 = y.1 ∧ (x.2.1 < y.2.1 ∨ (x.2.1 = y.2.1 ∧ x.2.2 < y.2.2))) := by
  simp [rankBefore]

theorem bestVictim_concat_none {l : List (Band × Nat)} (h : bestVictim l = none) (x : Band × Nat) :
    bestVictim (l ++ [x]) = some x := by
  unfold bestVictim at h ⊢
  rw [List.foldl_append, h]
  rfl

theorem bestVictim_concat_some {l : List (Band × Nat)} {y : Band × Nat} (h : bestVictim l = some y) (x : Band × Nat) :
    bestVictim (l ++ [x]) = if rankBefore (victimRank x) (victimRank y) then some x else some y := by
  unfold bestVictim at h ⊢
  rw [List.foldl_append, h]
  rfl

/-- Candidates yield a victim exactly where there is one. -/
theorem bestVictim_eq_none {l : List (Band × Nat)} : bestVictim l = none ↔ l = [] := by
  induction l using List.reverseRecOn with
  | nil => simp [bestVictim]
  | append_singleton l x _ =>
    cases h : bestVictim l with
    | none => simp [bestVictim_concat_none h]
    | some y => rw [bestVictim_concat_some h]; split <;> simp

/-- The victim is one of the candidates, and none ranks before it. -/
theorem bestVictim_first {l : List (Band × Nat)} {y : Band × Nat} (h : bestVictim l = some y) :
    y ∈ l ∧ ∀ x ∈ l, rankBefore (victimRank x) (victimRank y) = false := by
  induction l using List.reverseRecOn generalizing y with
  | nil => simp [bestVictim] at h
  | append_singleton l x ih =>
    cases hl : bestVictim l with
    | none =>
      rw [bestVictim_concat_none hl, Option.some.injEq] at h
      subst h
      simp [bestVictim_eq_none.mp hl, ← Bool.not_eq_true, rankBefore_iff]
    | some z =>
      obtain ⟨hz, first⟩ := ih hl
      rw [bestVictim_concat_some hl] at h
      split at h <;> obtain rfl := Option.some.inj h
      · next hx =>
        refine ⟨by simp, fun u hu => ?_⟩
        rcases List.mem_append.mp hu with hu | hu
        · have hf := first u hu
          simp only [← Bool.not_eq_true, rankBefore_iff] at hf hx ⊢
          omega
        · simp [List.mem_singleton.mp hu, ← Bool.not_eq_true, rankBefore_iff]
      · next hx =>
        refine ⟨by simp [hz], fun u hu => ?_⟩
        rcases List.mem_append.mp hu with hu | hu
        · exact first u hu
        · simpa [List.mem_singleton.mp hu] using hx

/-- The candidates of an AUTO run, with their numbers. -/
theorem mem_autoCandidates {s : State} {x : Band × Nat} :
    x ∈ s.bands.zipIdx.filter (fun x => x.1.candidate && s.engine.deferred != some x.2) ↔
      s.bands[x.2]? = some x.1 ∧ x.1.candidate = true ∧ s.engine.deferred ≠ some x.2 := by
  simp [List.mem_filter, List.mem_zipIdx_iff_getElem?]

theorem chosenVictim_auto {s : State} (h : s.engine.run = some .auto) : s.chosenVictim =
    (bestVictim (s.bands.zipIdx.filter fun x => x.1.candidate && s.engine.deferred != some x.2)).map (·.2) := by
  simp [State.chosenVictim, h]

theorem chosenVictim_single_iff {s : State} (h : s.engine.run = some .single) (b : Nat) :
    s.chosenVictim = some b ↔ s.engine.target = some b ∧
      ∃ v, s.bands[b]? = some v ∧ (v.state = .full ∨ v.state = .closed) ∧ v.completed = v.issued := by
  simp [State.chosenVictim, h, Option.filter_eq_some_iff, Option.any_eq_true, Band.candidate_iff]

theorem chosenVictim_auto_some {s : State} (h : s.engine.run = some .auto) {i : Nat} {v : Band} (hi : s.bands[i]? = some v)
    (hc : v.candidate = true) (hd : s.engine.deferred ≠ some i) : ∃ b, s.chosenVictim = some b := by
  rw [chosenVictim_auto h, ← Option.isSome_iff_exists, Option.isSome_map, Option.isSome_iff_ne_none, ne_eq, bestVictim_eq_none]
  exact List.ne_nil_of_mem ((mem_autoCandidates (s := s) (x := (v, i))).mpr ⟨hi, hc, hd⟩)

/-- The victim of an AUTO run is an eligible band, and no eligible band ranks before it. -/
theorem chosenVictim_auto_first {s : State} (h : s.engine.run = some .auto) {b : Nat} (hb : s.chosenVictim = some b) :
    ∃ v, s.bands[b]? = some v ∧ v.candidate = true ∧ s.engine.deferred ≠ some b ∧
      ∀ i u, s.bands[i]? = some u → u.candidate = true → s.engine.deferred ≠ some i →
        rankBefore (victimRank (u, i)) (victimRank (v, b)) = false := by
  rw [chosenVictim_auto h, Option.map_eq_some_iff] at hb
  obtain ⟨⟨v, n⟩, hbest, rfl⟩ := hb
  obtain ⟨hmem, first⟩ := bestVictim_first hbest
  obtain ⟨hv, hc, hd⟩ := mem_autoCandidates.mp hmem
  exact ⟨v, hv, hc, hd, fun i u hu hcu hdu => first (u, i) (mem_autoCandidates.mpr ⟨hu, hcu, hdu⟩)⟩

/-- The first part of a rank is 0 for a suspect band, and at most 1 for one with retire set. -/
theorem victimRank_suspect (x : Band × Nat) : (victimRank x).1 = 0 ↔ x.1.suspect = true := by
  unfold victimRank
  split
  · next h => simp [h]
  · next h => split <;> simp [h]

theorem victimRank_flagged (x : Band × Nat) : (victimRank x).1 ≤ 1 ↔ x.1.suspect = true ∨ x.1.retire = true := by
  unfold victimRank
  split
  · next h => simp [h]
  · next h => split <;> simp_all

theorem victimRank_class_eq {x y : Band × Nat} (hs : x.1.suspect = y.1.suspect)
    (hr : x.1.suspect = true ∨ x.1.retire = y.1.retire) : (victimRank x).1 = (victimRank y).1 := by
  unfold victimRank
  rw [← hs]
  rcases hr with hr | hr <;> simp [hr]

/-- R128's order: suspect, then retire, then the valid count, then the number. -/
theorem victimOrder_of_first {u v : Band} {i b : Nat} (h : rankBefore (victimRank (u, i)) (victimRank (v, b)) = false) :
    (u.suspect = true → v.suspect = true) ∧
    (v.suspect = false → u.suspect = false ∧ (u.retire = true → v.retire = true)) ∧
    (u.suspect = v.suspect → (u.suspect = true ∨ u.retire = v.retire) →
      v.valid < u.valid ∨ (v.valid = u.valid ∧ b ≤ i)) := by
  rw [← Bool.not_eq_true, rankBefore_iff] at h
  have hclass : (victimRank (v, b)).1 ≤ (victimRank (u, i)).1 := by omega
  have hsuspect : u.suspect = true → v.suspect = true := by
    rw [← victimRank_suspect (u, i), ← victimRank_suspect (v, b)]
    omega
  have hflagged : u.suspect = true ∨ u.retire = true → v.suspect = true ∨ v.retire = true := by
    rw [← victimRank_flagged (u, i), ← victimRank_flagged (v, b)]
    omega
  refine ⟨hsuspect, fun hv => ⟨?_, fun hr => ?_⟩, fun hs hr => ?_⟩
  · rw [← Bool.not_eq_true]
    exact fun hu => by simp [hsuspect hu] at hv
  · exact (hflagged (.inr hr)).resolve_left (by simp [hv])
  · have heq := victimRank_class_eq (x := (u, i)) (y := (v, b)) hs hr
    simp only [heq, true_and] at h
    simp only [victimRank] at h
    omega

theorem selectVictim_of_some {s : State} {b : Nat} (h : s.engine.state = .selecting) (hb : s.chosenVictim = some b) :
    s.selectVictim = { s with
      bands := s.bands.modify b fun r => { r with state := .cleaning, prior := some r.state }
      engine := { s.engine with state := .reading, victim := some b, cursor := some 0, hand := none } } := by
  simp only [State.selectVictim, h, hb, if_true]
  rfl

theorem selectVictim_of_none {s : State} (h : s.engine.state = .selecting) (hb : s.chosenVictim = none) :
    s.selectVictim = s.endRun .ok := by
  simp [State.selectVictim, h, hb]

/-- A run that ends leaves the engine IDLE; with no Clean to answer nothing more changes. -/
theorem endRun_of_none {s : State} (h : s.engine.clean = none) (x : Status) :
    s.endRun x = { s with engine := { Engine.reset with deferred := s.engine.deferred } } := by
  simp [State.endRun, h]

theorem endRun_of_some {s : State} {k : Key} (h : s.engine.clean = some k) (x : Status) :
    s.endRun x = State.answerEntry { s with engine := { Engine.reset with deferred := s.engine.deferred } } k x .none := by
  simp [State.endRun, h]

theorem exec_victimSelection (s : State) : exec .victimSelection s = finish s s.selectVictim := rfl

theorem gives_victimSelection {s X : State} (h : s.selectVictim = X) : Gives .victimSelection s X :=
  gives_of_finish (h ▸ exec_victimSelection s)

/-- Settles O59, from the lexicographic order of the ranks. -/
theorem victimIsChosen : Obligations.VictimIsChosen := by
  intro s
  refine ⟨fun h => ?_, fun b h hb => ?_, fun h hb hc => ?_, fun k h hb hc => ?_, chosenVictim_single_iff, ?_, ?_⟩
  · exact gives_victimSelection (by simp [State.selectVictim, h])
  · exact gives_victimSelection (selectVictim_of_some h hb)
  · exact gives_victimSelection ((selectVictim_of_none h hb).trans (endRun_of_none hc .ok))
  · exact gives_victimSelection ((selectVictim_of_none h hb).trans (endRun_of_some hc .ok))
  · intro h i v hi hstate hcount
    exact chosenVictim_auto_some h hi (v.candidate_iff.mpr ⟨hstate, hcount⟩)
  · intro b h hb
    obtain ⟨v, hv, hc, hd, first⟩ := chosenVictim_auto_first h hb
    obtain ⟨hstate, hcount⟩ := v.candidate_iff.mp hc
    exact ⟨v, hv, hstate, hcount, hd, fun i u hu hcu hdu => victimOrder_of_first (first i u hu hcu hdu)⟩

/-! ### A level 0 reset -/

/-- Settles O4: both sides are the same record, field by field. -/
theorem levelZeroResetKeepsMapMemory : Obligations.LevelZeroResetKeepsMapMemory := fun _ => rfl

/-! ### GEOMETRY orders that complete -/

/-- The oldest order has left the window: the next one's deadline starts, and a reset in progress waits for one order less. -/
def State.oldestLeft (s : State) (rest : List Order) : State :=
  { s with window := rest, deadline := rest.head?.map s.limitOf, resetWaits := s.resetWaits.map fun n => n - 1 }

theorem takeCompletion_oldest {s : State} {kind : Nat} {c : Completion} {o : Order} {rest : List Order} (hp : s.path = .ready)
    (hw : s.window = o :: rest) (hc : c.check = checkValue (completionBytes kind c)) (hk : o.code = kind)
    (ha : o.accepts c = true) : s.takeCompletion kind c = (s.oldestLeft rest).orderCompleted c o :=
  takeCompletion_good hp hw hc hk ha

theorem exec_geometryCompletion (c : Completion) (s : State) :
    exec (.geometryCompletion c) s = finish s (s.takeCompletion 3 c) := rfl

theorem geometry_accepts {c : Completion} {g : GeoOrder} (hu : c.unreadable = []) (hs : c.status = 0 ∨ c.status = 3) :
    (Order.geometry g).accepts c = true := by
  rcases hs with hs | hs <;> simp [Order.accepts, hu, hs]

/-- A Load Profile's order, DONE or REJECTED (R5). -/
theorem geometryCompleted_load {g : GeoOrder} {k : Key} (h : g.origin = .loadProfile k) (s : State) :
    (s.geometryCompleted g true = (s.modProfile g.profile fun p =>
      { state := .active, shape := p.pending, pending := none, before := none }).answerEntry k .ok .none) ∧
    (s.geometryCompleted g false = (s.modProfile g.profile fun p =>
      { state := p.before.getD .unset, shape := if p.before = some .active then p.shape else none, pending := none
        before := none }).answerEntry k .rejected .none) := by
  simp only [State.geometryCompleted, State.geometryLost, h]
  exact ⟨rfl, rfl⟩

/-- A reinstall or a start-up order, DONE or REJECTED (R95, R177). -/
theorem geometryCompleted_plain {g : GeoOrder} (h : g.origin = .reinstall ∨ g.origin = .startUp) (s : State) :
    s.geometryCompleted g true = s ∧ s.geometryCompleted g false = s.enterDown := by
  rcases h with h | h <;> simp [State.geometryCompleted, h]

/-- A GEOMETRY order that leaves the window DONE or REJECTED gives what its hand-over makes of the state behind it. -/
theorem gives_geometryCompletion {s X : State} {g : GeoOrder} {rest : List Order} {c : Completion} (hp : s.path = .ready)
    (hw : s.window = .geometry g :: rest) (hu : c.unreadable = []) (hc : c.check = checkValue (completionBytes 3 c))
    {done : Bool} (hs : c.status = if done then 0 else 3) (hX : (s.oldestLeft rest).geometryCompleted g done = X) :
    Gives (.geometryCompletion c) s X := by
  have hstatus : c.status = 0 ∨ c.status = 3 := by cases done <;> simp [hs]
  have hdone : (c.status == 0) = done := by cases done <;> simp [hs]
  have hover : (s.oldestLeft rest).orderCompleted c (.geometry g) = X := by rw [← hX, ← hdone]; rfl
  apply gives_of_finish
  rw [exec_geometryCompletion, takeCompletion_oldest hp hw hc rfl (geometry_accepts hu hstatus), hover]

/-- Settles O54, by the order's origin and the status of its record. -/
theorem geometryCompletes : Obligations.GeometryCompletes := by
  intro s g rest c hp hw hu hc
  have given {done : Bool} {X : State} (hs : c.status = if done then 0 else 3)
      (hX : (s.oldestLeft rest).geometryCompleted g done = X) : Gives (.geometryCompletion c) s X :=
    gives_geometryCompletion hp hw hu hc hs hX
  refine ⟨fun k hk => ⟨fun h => ?done, fun h => ?rejected⟩, fun ho => ⟨fun h => ?installed, fun h => ?down⟩⟩
  case done => exact given (done := true) h (geometryCompleted_load hk _).1
  case rejected => exact given (done := false) h (geometryCompleted_load hk _).2
  case installed => exact given (done := true) h (geometryCompleted_plain ho _).1
  case down => exact given (done := false) h (geometryCompleted_plain ho _).2

end Sys2Proof.Machine


/-! PROOFS. Load Profile and Format (O34, O35). -/

namespace Sys2Proof.Machine

/-! ### Load Profile (R3) -/

/-- R3's check 1, over the ranges of the operands and the layout in force. -/
theorem loadValid_iff (s : State) (profile sectors tracks verify : Nat) : s.loadValid profile sectors tracks verify = true ↔
    (profile < 8 ∧ 64 ≤ sectors ∧ sectors ≤ 1024 ∧ 8 ≤ tracks ∧ tracks ≤ 128 ∧ verify ≤ 1) ∧
      ∀ x, s.format = .formatted → s.layout = some x → x.assigns profile = true →
        x.holds (fun n => if n = profile then tracks * (sectors - 1) else s.capacityOf n) = true := by
  by_cases hf : s.format = .formatted <;> cases hl : s.layout <;>
    simp [State.loadValid, hf, hl, and_assoc, or_iff_not_imp_left]

section
variable {s : State} {profile sectors tracks verify : Nat}

theorem loadRefusal_invalid (h : ¬ s.loadValid profile sectors tracks verify = true) :
    s.loadRefusal profile sectors tracks verify = some .invalid := by
  simp [State.loadRefusal, h]

theorem loadRefusal_busy (h : s.loadValid profile sectors tracks verify = true)
    (hb : (s.profile profile).state = .updating ∨ s.format = .formatting) :
    s.loadRefusal profile sectors tracks verify = some .busy := by
  simp [State.loadRefusal, h, hb]

theorem loadRefusal_inUse (h : s.loadValid profile sectors tracks verify = true) (hp : (s.profile profile).state ≠ .updating)
    (hf : s.format = .formatted) (hb : ∃ b ∈ s.bands, b.profile = profile ∧ b.state ≠ .free) :
    s.loadRefusal profile sectors tracks verify = some .inUse := by
  simp [State.loadRefusal, h, hp, hf, hb]

/-- Behind checks 1 to 3 only the media path can refuse. -/
theorem loadRefusal_path (h : s.loadValid profile sectors tracks verify = true) (hp : (s.profile profile).state ≠ .updating)
    (hf : s.format ≠ .formatting) (hb : s.format = .formatted → ∀ b ∈ s.bands, b.profile = profile → b.state = .free) :
    s.loadRefusal profile sectors tracks verify = if s.path = .down then some .mediaDown else none := by
  have hu : ¬ (s.format = .formatted ∧ s.bands.any (fun b => b.profile == profile && b.state != .free) = true) := by
    simpa using hb
  simp only [State.loadRefusal, h, hp, hf, hu]
  simp

theorem takeLoad_refused {x : Status} (h : s.loadRefusal profile sectors tracks verify = some x) (k : Key) :
    State.takeLoad profile sectors tracks verify k s = s.answerNow k 9 x .none := by
  simp [State.takeLoad, h]

theorem takeLoad_passes (h : s.loadRefusal profile sectors tracks verify = none) (k : Key) :
    State.takeLoad profile sectors tracks verify k s =
      { (s.modProfile profile fun x =>
          { state := .updating, shape := x.shape, pending := some ⟨sectors, tracks, verify == 1⟩
            before := some x.state }).enterTable k .loadProfile with
        geometry := s.geometry ++ [⟨profile, sectors, tracks, .loadProfile k⟩] } := by
  have hg : ((s.modProfile profile (Profile.update ⟨sectors, tracks, verify == 1⟩)).enterTable k .loadProfile).geometry =
      s.geometry := by simp
  simp only [State.takeLoad, h, hg]
  rfl

end

theorem gives_loadProfile {s p X : State} {l : Link} {tag : Tag} {profile sectors tracks verify : Nat}
    (h : Takes s l tag (.loadProfile profile sectors tracks verify) p)
    (hX : State.takeLoad profile sectors tracks verify (key l tag) p = X) :
    Gives (.loadProfile l tag profile sectors tracks verify) s X := gives_takes rfl h hX

/-- Settles O34, by the first check that refuses. -/
theorem loadProfiles : Obligations.LoadProfiles := by
  intro s l tag profile sectors tracks verify p h
  dsimp only
  have valid := loadValid_iff p profile sectors tracks verify
  refine ⟨fun hv => ?invalid, fun hr hfit => ?valid⟩
  case invalid =>
    exact gives_loadProfile h (takeLoad_refused (loadRefusal_invalid (hv ∘ valid.mp)) _)
  case valid =>
    replace valid := valid.mpr ⟨hr, hfit⟩
    refine ⟨fun hb => ?busy, fun hp hf => ⟨fun hform hb => ?inUse, fun hb => ⟨fun hd => ?down, fun hd => ⟨_, ?passes, rfl⟩⟩⟩⟩
    case busy => exact gives_loadProfile h (takeLoad_refused (loadRefusal_busy valid hb) _)
    case inUse => exact gives_loadProfile h (takeLoad_refused (loadRefusal_inUse valid hp hform hb) _)
    case down =>
      exact gives_loadProfile h (takeLoad_refused ((loadRefusal_path valid hp hf hb).trans (if_pos hd)) _)
    case passes =>
      exact gives_loadProfile h (takeLoad_passes ((loadRefusal_path valid hp hf hb).trans (if_neg hd)) _)

/-! ### Format (R6 to R8) -/

theorem mem_allQueues : ∀ q : Fin 16, q ∈ allQueues := by decide

/-- R7's check 3: nothing staged, ordered, fetched or relocated is at work. -/
theorem formatQuiet_iff (s : State) : s.formatQuiet = true ↔
    s.inUse = 0 ∧ s.window = [] ∧ s.geometry = [] ∧ s.spindle.motion = none ∧ s.fetchList = [] ∧
      (∀ i, (s.slot i).state = .free) ∧ (∀ e ∈ s.table, e.info.isGet = false) ∧ s.engine.state = .idle := by
  simp [State.formatQuiet, and_assoc, mem_allQueues]

/-- Some profile is UPDATING. -/
theorem anyUpdating_iff (s : State) : s.profiles.toList.any (fun p => p.state == .updating) = true ↔
    ∃ n, n < 8 ∧ (s.profile n).state = .updating := by
  have profile_eq : ∀ n (hn : n < 8), s.profile n = s.profiles.toList[n]'(by simpa using hn) := fun n hn =>
    (List.getElem_eq_getD Profile.blank).symm
  simp only [List.any_eq_true, beq_iff_eq, List.mem_iff_getElem, Vector.length_toList]
  constructor
  · rintro ⟨_, ⟨n, hn, rfl⟩, h⟩
    exact ⟨n, hn, (congrArg Profile.state (profile_eq n hn)).trans h⟩
  · rintro ⟨n, hn, h⟩
    exact ⟨_, ⟨n, hn, rfl⟩, (congrArg Profile.state (profile_eq n hn)).symm.trans h⟩

section
variable {s : State} {x : Layout}

theorem formatRefusal_malformed (h : x.wellFormed = false) : s.formatRefusal x = some .invalid := by
  simp [State.formatRefusal, h]

theorem formatRefusal_unset (h : x.wellFormed = true) (hr : ∃ r ∈ x.ranges, (s.profile r.profile).state = .unset) :
    s.formatRefusal x = some .state := by
  simp [State.formatRefusal, h, hr]

theorem formatRefusal_busy (h : x.wellFormed = true) (hr : ∀ r ∈ x.ranges, (s.profile r.profile).state ≠ .unset)
    (hb : (∃ n, n < 8 ∧ (s.profile n).state = .updating) ∨ s.format = .formatting) : s.formatRefusal x = some .busy := by
  have hset : ¬ x.ranges.any (fun r => (s.profile r.profile).state == .unset) = true := by simpa using hr
  rw [← anyUpdating_iff] at hb
  simp only [State.formatRefusal, h, hset, hb]
  simp

/-- With no profile UPDATING and no Format under way, requests at work refuse, and then the layout's capacity. -/
theorem formatRefusal_idle (h : x.wellFormed = true) (hr : ∀ r ∈ x.ranges, (s.profile r.profile).state ≠ .unset)
    (hu : ∀ n, n < 8 → (s.profile n).state ≠ .updating) (hf : s.format ≠ .formatting) : s.formatRefusal x =
      if s.formatQuiet = false then some .busy else if x.holds s.capacityOf = false then some .invalid else none := by
  have hset : ¬ x.ranges.any (fun r => (s.profile r.profile).state == .unset) = true := by simpa using hr
  have idle : ¬ s.profiles.toList.any (fun p => p.state == .updating) = true := by
    rw [anyUpdating_iff]
    rintro ⟨n, hn, hs⟩
    exact hu n hn hs
  simp only [State.formatRefusal, h, hset, idle, hf, Bool.not_eq_true']
  simp

end

theorem takeFormat_refused {s : State} {logical bands : Nat} {ranges : List LayoutRange} {r : Status}
    (h : s.formatRefusal ⟨logical, bands, ranges⟩ = some r) (k : Key) :
    State.takeFormat logical bands ranges k s = s.answerNow k 10 r .none := by
  simp [State.takeFormat, h]

theorem takeFormat_passes {s : State} {logical bands : Nat} {ranges : List LayoutRange}
    (h : s.formatRefusal ⟨logical, bands, ranges⟩ = none) (k : Key) : State.takeFormat logical bands ranges k s =
      State.enterTable { s with format := .formatting, formatting := some ⟨logical, bands, ranges⟩ } k .format := by
  simp [State.takeFormat, h]

theorem gives_format {s p X : State} {l : Link} {tag : Tag} {logical bands : Nat} {ranges : List LayoutRange}
    (h : Takes s l tag (.format logical bands ranges) p)
    (hX : State.takeFormat logical bands ranges (key l tag) p = X) :
    Gives (.format l tag logical bands ranges) s X := gives_takes rfl h hX

/-- The ranges from a band on hold as many bands as there are from it to B. -/
theorem rangesCover_sum {bands next : Nat} {ranges : List LayoutRange} (h : rangesCover bands next ranges = true) :
    next + (ranges.map bandsIn).sum = bands := by
  induction ranges generalizing next with
  | nil => simpa [rangesCover] using h
  | cons r rest ih =>
    simp only [rangesCover, Bool.and_eq_true, beq_iff_eq, decide_eq_true_eq] at h
    obtain ⟨⟨⟨hfirst, hle⟩, _⟩, hrest⟩ := h
    have hsum := ih hrest
    simp only [List.map_cons, List.sum_cons, bandsIn]
    omega

/-- A well formed layout gives each of its B bands a profile. -/
theorem wellFormed_bands {x : Layout} (h : x.wellFormed = true) :
    (x.ranges.flatMap fun r => List.replicate (r.last + 1 - r.first) r.profile).length = x.bands := by
  simp only [Layout.wellFormed, Bool.and_eq_true] at h
  have hsum := rangesCover_sum h.2
  rw [Nat.zero_add] at hsum
  simp only [List.length_flatMap, List.length_replicate]
  exact hsum

theorem completeFormat_formatting {s : State} {x : Layout} (h : s.format = .formatting) (hx : s.formatting = some x) :
    s.completeFormat = State.answerAll { s.mapQueues fun _ q => { q with almostFull := false } with
        format := .formatted, layout := some x, formatting := none, map := [], engine := { s.engine with deferred := none }
        bands := x.table } s.formats .ok := by
  simp only [State.completeFormat, h, hx]
  rfl

theorem completeFormat_none {s : State} (h : s.format ≠ .formatting ∨ s.formatting = none) : s.completeFormat = s := by
  unfold State.completeFormat
  split
  · next hf hx => simp [hf, hx] at h
  · rfl

theorem exec_formatComplete (s : State) : exec .formatComplete s = finish s s.completeFormat := rfl

theorem gives_formatComplete {s X : State} (h : s.completeFormat = X) : Gives .formatComplete s X :=
  gives_of_finish (h ▸ exec_formatComplete s)

/-- Settles O35: the checks by the first that refuses, the completion from the two cases of the format state. -/
theorem formats : Obligations.Formats := by
  refine ⟨fun s l tag logical bands ranges p h => ?_, fun s => ⟨fun x hf hx => ?_, fun hf => ?_, fun x => wellFormed_bands⟩⟩
  · dsimp only
    simp only [← formatQuiet_iff]
    refine ⟨fun hx => ?malformed, fun hx => ⟨fun hr => ?unset, fun hr => ⟨fun hb => ?busy, fun hu hf =>
      ⟨fun hq => ?atWork, fun hq hc => ?tooSmall, fun hq hc => ?passes⟩⟩⟩⟩
    case malformed => exact gives_format h (takeFormat_refused (formatRefusal_malformed hx) _)
    case unset => exact gives_format h (takeFormat_refused (formatRefusal_unset hx hr) _)
    case busy => exact gives_format h (takeFormat_refused (formatRefusal_busy hx hr hb) _)
    case atWork =>
      exact gives_format h (takeFormat_refused (by rw [formatRefusal_idle hx hr hu hf]; simp [hq]) _)
    case tooSmall =>
      exact gives_format h (takeFormat_refused (by rw [formatRefusal_idle hx hr hu hf]; simp [hq, hc]) _)
    case passes =>
      exact gives_format h (takeFormat_passes (by rw [formatRefusal_idle hx hr hu hf]; simp [hq, hc]) _)
  · exact gives_formatComplete (completeFormat_formatting hf hx)
  · exact gives_formatComplete (completeFormat_none hf)

end Sys2Proof.Machine

namespace Sys2Proof.Machine

/-! PROOFS. The grant of the write candidate: the choice of a queue, the band opened for it, its order or its decline (O57). -/

/-! ### The issue of a write order (R77, R79) -/

/-- A change of a Put's count of pieces is one of the Request Table alone. -/
theorem movePieces_only (s : State) (origin : Option Key) (n m : Nat) : ∃ t, s.movePieces origin n m = { s with table := t } := by
  cases origin
  · exact ⟨_, rfl⟩
  · exact ⟨_, rfl⟩

theorem orderIssued_eq (t : HoldTimer) : t.orderIssued = if t = .expired then .stopped else t := by
  cases t <;> rfl

/-- An order goes behind the window's, and is the one the deadline runs for where it is the only one (R89, R99). -/
theorem issue_write (s : State) (w : WriteOrder) : s.issue (.write w) = { s with
    window := s.window ++ [.write w], deadline := if s.window = [] then some s.orderLimit else s.deadline } := by
  cases h : s.window with
  | nil =>
    simp only [State.issue, h, List.isEmpty_nil, if_true]
    rfl
  | cons o rest => simp [State.issue, h]

theorem issueWrite_eq (z : State) (q : Fin 16) (b : Nat) (r : Band) (emergency : Bool) :
    z.issueWrite q b r (z.build q b) emergency = z.issued emergency q b r := by
  obtain ⟨t, ht⟩ := movePieces_only z ((z.build q b).split.bind (·.origin)) 1 2
  simp only [State.issueWrite, State.issued, issue_write, ht, orderIssued_eq]
  rfl

/-! ### A queue worked through (R75) -/

theorem serveBand_issues {z : State} {q : Fin 16} {b : Nat} {r : Band} (hr : z.bands[b]? = some r)
    (hb : (z.build q b).pieces ≠ []) (emergency : Bool) : z.serveBand q b emergency = (z.issued emergency q b r, true) := by
  simp [State.serveBand, hr, hb, issueWrite_eq]

theorem serveBand_stalls {z : State} {q : Fin 16} {b : Nat} {r : Band} (hr : z.bands[b]? = some r)
    (hb : (z.build q b).pieces = []) (emergency : Bool) : z.serveBand q b emergency = (z.poolStalled q, false) := by
  simp [State.serveBand, hr, hb, State.poolStalled]

theorem serveQueue_bound {s : State} {q : Fin 16} {b : Nat} (h : s.boundBand q = some b) (emergency : Bool) :
    s.serveQueue q emergency = s.serveBand q b emergency := by
  simp [State.serveQueue, h]

theorem serveQueue_opens {s : State} {q : Fin 16} {b : Nat} (h : s.boundBand q = none) (hg : s.grantable q = some b)
    (emergency : Bool) : s.serveQueue q emergency =
      if (s.opening q b).ready q then (s.opening q b).serveBand q b emergency else (s.opening q b, false) := by
  simp only [State.serveQueue, h, hg]
  rfl

/-- A queue that can be served has its order issued. -/
theorem serveQueue_serves {s z : State} {q : Fin 16} {b : Nat} {r : Band} (h : Serves s q z b r) (emergency : Bool) :
    s.serveQueue q emergency = (z.issued emergency q b r, true) := by
  obtain ⟨⟨hb, rfl⟩ | ⟨hn, hg, rfl, hready⟩, hr, hp⟩ := h
  · rw [serveQueue_bound hb, serveBand_issues hr hp]
  · rw [serveQueue_opens hn hg, if_pos hready, serveBand_issues hr hp]

/-- The band a queue is bound to is in the Band Table. -/
theorem boundBand_exists {s : State} {q : Fin 16} {b : Nat} (h : s.boundBand q = some b) : ∃ r, s.bands[b]? = some r := by
  unfold State.boundBand at h
  split at h
  · simp at h
  · obtain ⟨hlt, _⟩ := List.findIdx?_eq_some_iff_getElem.mp h
    exact ⟨_, List.getElem?_eq_getElem hlt⟩

theorem eligibleBand_some {s : State} {b : Nat} (h : s.eligibleBand = some b) :
    ∃ r, s.bands[b]? = some r ∧ r.state = .free ∧ (s.profile r.profile).state = .active ∧
      ∀ i u, i < b → s.bands[i]? = some u → u.state = .free → (s.profile u.profile).state ≠ .active := by
  obtain ⟨hlt, hr, first⟩ := List.findIdx?_eq_some_iff_getElem.mp h
  simp only [Bool.and_eq_true, beq_iff_eq] at hr first
  refine ⟨_, List.getElem?_eq_getElem hlt, hr.1, hr.2, fun i u hi hu hfree hactive => first i hi ?_⟩
  obtain ⟨_, rfl⟩ := List.getElem?_eq_some_iff.mp hu
  exact ⟨hfree, hactive⟩

theorem eligibleBand_none {s : State} :
    s.eligibleBand = none ↔ ∀ r ∈ s.bands, r.state = .free → (s.profile r.profile).state ≠ .active := by
  simp [State.eligibleBand, List.findIdx?_eq_none_iff]

/-- R10: a host queue is granted a band only above the reserve. -/
theorem grantable_some {s : State} {q : Fin 16} {b : Nat} (h : s.grantable q = some b) :
    (q.val < 15 → s.marks.reserve < s.freeBands) ∧ s.eligibleBand = some b := by
  unfold State.grantable at h
  split at h
  · simp at h
  · next hn =>
    refine ⟨fun hq => ?_, h⟩
    simpa [hq] using hn

theorem grantable_none {s : State} {q : Fin 16} : s.grantable q = none ↔
    (q.val < 15 ∧ s.freeBands ≤ s.marks.reserve) ∨ s.eligibleBand = none := by
  simp only [State.grantable, Bool.and_eq_true, decide_eq_true_eq]
  split
  · next h => simp [h]
  · next h => simp only [h, false_or]

theorem opening_exists {s : State} {q : Fin 16} {b : Nat} (h : s.grantable q = some b) :
    ∃ r, (s.opening q b).bands[b]? = some r := by
  obtain ⟨r, hr, _⟩ := eligibleBand_some (grantable_some h).2
  exact ⟨Band.open_ q r, by rw [opening_eq, State.modBand, List.getElem?_modify, hr]; simp⟩

/-- A queue that declines leaves what Declines says, and no order. -/
theorem serveQueue_declines {s y : State} {q : Fin 16} (h : Declines s q y) (emergency : Bool) :
    s.serveQueue q emergency = (y, false) := by
  obtain ⟨b, hb, hp, rfl⟩ | ⟨b, hn, hg, ⟨hready, rfl⟩ | ⟨hready, hp, rfl⟩⟩ := h
  · obtain ⟨r, hr⟩ := boundBand_exists hb
    rw [serveQueue_bound hb, serveBand_stalls hr hp]
  · rw [serveQueue_opens hn hg, if_neg (by simp [hready])]
  · obtain ⟨r, hr⟩ := opening_exists hg
    rw [serveQueue_opens hn hg, if_pos hready, serveBand_stalls hr hp]

/-- A queue that declines leaves what the classes behind placement look at as it was. -/
theorem declines_kept {s y : State} {q : Fin 16} (h : Declines s q y) :
    y.stage = s.stage ∧ y.fetchList = s.fetchList ∧ y.engine = s.engine := by
  obtain ⟨b, _, _, rfl⟩ | ⟨b, _, _, ⟨_, rfl⟩ | ⟨_, _, rfl⟩⟩ := h <;> exact ⟨rfl, rfl, rfl⟩

/-! ### The choices of one grant (R74, R75) -/

theorem placementLoop_succ {s : State} {tried : List (Fin 16)} {last q : Fin 16} (h : s.chooseQueue tried last = some q)
    (emergency : Bool) (n : Nat) : placementLoop emergency (n + 1) tried last s =
      if (s.serveQueue q emergency).2 then s.serveQueue q emergency
      else placementLoop emergency n (q :: tried) q (s.serveQueue q emergency).1 := by
  simp [placementLoop, h]

theorem placementLoop_none {s : State} {tried : List (Fin 16)} {last : Fin 16} (h : s.chooseQueue tried last = none)
    (emergency : Bool) (n : Nat) : placementLoop emergency (n + 1) tried last s = (s, false) := by
  simp [placementLoop, h]

theorem placementLoop_serves {s z : State} {tried : List (Fin 16)} {last q : Fin 16} {b : Nat} {r : Band}
    (h : s.chooseQueue tried last = some q) (hs : Serves s q z b r) (emergency : Bool) (n : Nat) :
    placementLoop emergency (n + 1) tried last s = (z.issued emergency q b r, true) := by
  rw [placementLoop_succ h, serveQueue_serves hs]
  rfl

theorem placementLoop_declines {s y : State} {tried : List (Fin 16)} {last q : Fin 16} (h : s.chooseQueue tried last = some q)
    (hd : Declines s q y) (emergency : Bool) (n : Nat) :
    placementLoop emergency (n + 1) tried last s = placementLoop emergency n (q :: tried) q y := by
  rw [placementLoop_succ h, serveQueue_declines hd]
  rfl

/-- The second choice of a grant is the one nextAfter names. -/
theorem chooseQueue_next (y : State) (q : Fin 16) : y.chooseQueue [q] q = y.nextAfter q := by
  have tried : ∀ x : Fin 16, (!([q] : List (Fin 16)).contains x) = (x != q) := fun x => by
    rw [List.contains_cons, List.contains_nil, Bool.or_false, bne]
  have h15 : ((15 : Fin 16) != q) = (q != 15) := bne_comm
  simp only [State.chooseQueue, State.nextAfter, State.candidateQ15, tried, h15]

/-- The first choice of a grant: Q15 where it is offered in an emergency, else the first queue offered after the last served. -/
theorem chooseQueue_first {s : State} {q : Fin 16}
    (h : (s.candidateQ15 = true ∧ q = 15) ∨
      (s.candidateQ15 = false ∧ (roundFrom s.lastServed).find? s.offered = some q)) :
    s.chooseQueue [] s.lastServed = some q := by
  obtain ⟨h15, rfl⟩ | ⟨h15, hq⟩ := h
  · simp [State.chooseQueue, h15]
  · simpa [State.chooseQueue, h15] using hq

/-! ### The media arbiter (R97, R98) -/

theorem grantMedia_transfer {s : State} (hp : s.path = .ready) (hw : s.window.length < 4) (hm : ∀ m, Order.motion m ∉ s.window)
    (hs : s.spindle.motion = none) (hg : s.geometry = []) (ht : s.spindle.state = .spinning) :
    s.grantMedia = s.grantTransfer.1 := by
  have hmotion : s.window.any Order.isMotion = false := by
    rw [List.any_eq_false]
    intro o ho
    cases o with
    | motion m => exact absurd ho (hm m)
    | _ => simp [Order.isMotion]
  have hfull : ¬ Config.windowSize ≤ s.window.length := by simpa using hw
  simp [State.grantMedia, hp, hfull, hmotion, hs, hg, ht]

theorem grantFetch_none {s : State} (hst : s.stage = .done) (hf : s.fetchList = []) (emergency candidate : Bool) :
    s.grantFetch emergency candidate = (s, false) := by
  simp [State.grantFetch, hst, hf]

theorem grantRelocRead_none {s : State} (h : s.relocPresented = false) : s.grantRelocRead = (s, false) := by
  simp [State.grantRelocRead, h]

theorem candidate_of_offered {s : State} {q : Fin 16} (ht : s.spindle.state = .spinning) (h : s.offered q = true) :
    s.candidate = true := by
  simp only [State.candidate, ht, beq_self_eq_true, Bool.true_and, List.any_eq_true]
  exact ⟨q, mem_allQueues q, h⟩

/-- The write candidate is next: with no fetch read waiting or at a count of 8, or in an emergency in its rank, q is its queue. -/
structure WriteNext (s : State) (q : Fin 16) : Prop where
  spinning : s.spindle.state = .spinning
  stage : s.stage = .done
  calm : s.emergency = false → (s.fetchList = [] ∨ s.fetchRun = 8) ∧ (roundFrom s.lastServed).find? s.offered = some q
  pressed : s.emergency = true → s.relocPresented = false ∧ ((s.offered 15 = true ∧ q = 15) ∨
    (s.offered 15 = false ∧ s.fetchList = [] ∧ (roundFrom s.lastServed).find? s.offered = some q))

theorem WriteNext.offered {s : State} {q : Fin 16} (h : WriteNext s q) : s.offered q = true := by
  cases he : s.emergency with
  | false => exact List.find?_some (h.calm he).2
  | true =>
    obtain ⟨h15, rfl⟩ | ⟨_, _, hq⟩ := (h.pressed he).2
    · exact h15
    · exact List.find?_some hq

theorem WriteNext.choice {s : State} {q : Fin 16} (h : WriteNext s q) : s.chooseQueue [] s.lastServed = some q := by
  apply chooseQueue_first
  cases he : s.emergency with
  | false => exact .inr ⟨by simp [State.candidateQ15, he], (h.calm he).2⟩
  | true =>
    obtain ⟨h15, hq⟩ | ⟨h15, _, hq⟩ := (h.pressed he).2
    · exact .inl ⟨by simp [State.candidateQ15, he, h15], hq⟩
    · exact .inr ⟨by simp [State.candidateQ15, h15], hq⟩

/-- The grant is the write candidate's where it issues an order. -/
theorem WriteNext.grant_issued {s X : State} {q : Fin 16} (h : WriteNext s q) (hX : s.placementGrant = (X, true)) :
    s.grantTransfer.1 = X := by
  have hc := candidate_of_offered h.spinning h.offered
  cases he : s.emergency with
  | false =>
    by_cases hrun : s.fetchRun = 8
    · simp [State.grantTransfer, he, hc, hrun, orTry, State.grantWrite, hX]
    · have hf := (h.calm he).1.resolve_right hrun
      simp [State.grantTransfer, he, hc, hrun, orTry, State.grantWrite, hX, grantFetch_none h.stage hf]
  | true =>
    obtain ⟨hreloc, ⟨h15, _⟩ | ⟨h15, hf, _⟩⟩ := h.pressed he
    · simp [State.grantTransfer, State.candidateQ15, he, hc, h15, orTry, State.grantWrite, hX, grantRelocRead_none hreloc]
    · simp [State.grantTransfer, State.candidateQ15, he, hc, h15, orTry, State.grantWrite, hX, grantRelocRead_none hreloc,
        grantFetch_none h.stage hf]

/-- With no read to grant, a declined grant leaves what placement left. -/
theorem WriteNext.grant_declined {s y : State} {q : Fin 16} (h : WriteNext s q) (hy : s.placementGrant = (y, false))
    (hf : s.fetchList = []) (hyst : y.stage = .done) (hyf : y.fetchList = []) (hyr : y.relocPresented = false) :
    s.grantTransfer.1 = y := by
  have hc := candidate_of_offered h.spinning h.offered
  cases he : s.emergency with
  | false =>
    by_cases hrun : s.fetchRun = 8 <;>
      simp [State.grantTransfer, he, hc, hrun, orTry, State.grantWrite, hy, grantFetch_none h.stage hf,
        grantFetch_none hyst hyf, grantRelocRead_none hyr]
  | true =>
    have hreloc := (h.pressed he).1
    cases h15 : s.offered 15 <;>
      simp [State.grantTransfer, State.candidateQ15, he, hc, h15, orTry, State.grantWrite, hy, grantRelocRead_none hreloc,
        grantFetch_none h.stage hf, grantFetch_none hyst hyf]

theorem exec_mediaGrant (s : State) : exec .mediaGrant s = finish s s.grantMedia := rfl

theorem gives_mediaGrant {s X : State} (h : s.grantMedia = X) : Gives .mediaGrant s X := gives_of_finish (h ▸ exec_mediaGrant s)

/-! ### Stalls (R70 to R72) -/

/-- With the media and the spindle ready, a queue is stalled for SPACE exactly where it has no band and would be refused one. -/
theorem stallOf_space_iff {s : State} {q : Fin 16} (hp : s.path = .ready) (ht : s.spindle.state = .spinning) :
    s.stallOf q = .space ↔ s.boundBand q = none ∧ s.grantable q = none := by
  unfold State.stallOf
  rw [if_neg (by simp [hp]), if_neg (by simp [ht])]
  split
  · next b hb => split <;> [skip; split] <;> simp [hb]
  · next hb => split <;> [skip; split] <;> simp_all

theorem stallOf_poolStalled {s : State} {q : Fin 16} (h : s.stallOf q = .none) : (s.poolStalled q).stallOf q = .pool := by
  have hstall : ((s.poolStalled q).queue q).poolStall = true := by simp [State.poolStalled]
  have hband : (s.poolStalled q).boundBand q = s.boundBand q := rfl
  have hgrant : (s.poolStalled q).grantable q = s.grantable q := rfl
  have hpath : (s.poolStalled q).path = s.path := rfl
  have hspindle : (s.poolStalled q).spindle = s.spindle := rfl
  have hplace : (s.poolStalled q).placeReleases = s.placeReleases := rfl
  have hbands : (s.poolStalled q).bands = s.bands := rfl
  have hshape : ∀ b, (s.poolStalled q).shapeOf b = s.shapeOf b := fun _ => rfl
  unfold State.stallOf at h ⊢
  rw [hpath, hspindle, hplace, hband, hgrant, hbands, hstall]
  simp only [hshape]
  split at h
  · simp at h
  next hready =>
  split at h
  · simp at h
  next hspin =>
  rw [if_neg hready, if_neg hspin]
  cases hb : s.boundBand q with
  | some b =>
    simp only [hb] at h ⊢
    split at h
    · simp at h
    · next hend => rw [if_neg hend, if_pos trivial]
  | none =>
    simp only [hb] at h ⊢
    split at h
    · simp at h
    · next hfree => rw [if_neg hfree, if_pos trivial]

theorem clearStalls_cleared {s old : State} (h : s.inUse < old.inUse ∨ old.headroom < s.headroom) (i : Fin 16) :
    ((s.clearStalls old).queue i).poolStall = false := by
  simp [State.clearStalls, h, State.clearPoolStalls]

theorem clearStalls_same {s old : State} (hu : old.inUse ≤ s.inUse) (hh : s.headroom ≤ old.headroom) : s.clearStalls old = s := by
  simp [State.clearStalls, hu, hh]

/-! ### SPACE_LOW (R71) -/

theorem raiseIn_mem (k : Notice) (d : Nat) (l : List PendingNotice) : ∃ n ∈ raiseIn k d l, n.kind = k := by
  induction l with
  | nil => simp [raiseIn]
  | cons n rest ih =>
    rw [raiseIn]
    split
    · next h => exact ⟨_, List.mem_cons_self, h⟩
    · split
      · exact ⟨_, List.mem_cons_self, rfl⟩
      · obtain ⟨m, hm, hk⟩ := ih
        exact ⟨m, List.mem_cons_of_mem _ hm, hk⟩

/-- A raise takes no kind out of a pending set. -/
theorem raiseIn_keeps {k x : Notice} (d : Nat) {l : List PendingNotice} (h : ∃ n ∈ l, n.kind = x) :
    ∃ n ∈ raiseIn k d l, n.kind = x := by
  induction l with
  | nil => simp at h
  | cons n rest ih =>
    rw [raiseIn]
    simp only [List.mem_cons, exists_eq_or_imp] at h
    split
    · rcases h with h | ⟨m, hm, hk⟩
      · exact ⟨_, List.mem_cons_self, h⟩
      · exact ⟨m, List.mem_cons_of_mem _ hm, hk⟩
    · split
      · rcases h with h | ⟨m, hm, hk⟩
        · exact ⟨n, by simp, h⟩
        · exact ⟨m, by simp [hm], hk⟩
      · rcases h with h | h
        · exact ⟨_, List.mem_cons_self, h⟩
        · obtain ⟨m, hm, hk⟩ := ih h
          exact ⟨m, List.mem_cons_of_mem _ hm, hk⟩

theorem raiseBoth_port (s : State) (k : Notice) (d : Nat) (l : Link) :
    ((s.raiseBoth k d).port l) = { s.port l with pending := raiseIn k d (s.port l).pending } := by
  cases l <;> rfl

theorem pendingOnBoth_raiseBoth (s : State) (k : Notice) (d : Nat) : PendingOnBoth (s.raiseBoth k d) k := by
  intro l
  rw [raiseBoth_port]
  exact raiseIn_mem k d _

theorem PendingOnBoth.raiseBoth {s : State} {x : Notice} (h : PendingOnBoth s x) (k : Notice) (d : Nat) :
    PendingOnBoth (s.raiseBoth k d) x := by
  intro l
  rw [raiseBoth_port]
  exact raiseIn_keeps d (h l)

theorem pendingOnBoth_raises {α : Type} (f : State → α → Nat) (k : Notice) (l : List α) (s : State)
    (h : PendingOnBoth s k ∨ l ≠ []) : PendingOnBoth (l.foldl (fun s a => s.raiseBoth k (f s a)) s) k := by
  induction l generalizing s with
  | nil => simpa using h
  | cons a l ih => exact ih _ (.inl (pendingOnBoth_raiseBoth s k _))

theorem spaceStalled_iff (s : State) (q : Fin 16) : s.spaceStalled q = true ↔ s.ready q = true ∧ s.stallOf q = .space := by
  simp [State.spaceStalled]

theorem raiseSpace_raises {s old : State} {q : Fin 16} (hr : s.ready q = true) (hs : s.stallOf q = .space)
    (ho : old.ready q = false ∨ old.stallOf q ≠ .space) : PendingOnBoth (s.raiseSpace old) .spaceLow := by
  have hold : ¬ old.spaceStalled q = true := by
    rw [spaceStalled_iff]
    rintro ⟨h1, h2⟩
    simp [h1, h2] at ho
  refine pendingOnBoth_raises _ _ _ _ (.inr (List.ne_nil_of_mem (a := q) (List.mem_filter.mpr ⟨mem_allQueues q, ?_⟩)))
  simp [(spaceStalled_iff s q).mpr ⟨hr, hs⟩, hold]

theorem raiseSpace_same {s old : State}
    (h : ∀ i, s.ready i = true → s.stallOf i = .space → old.ready i = true ∧ old.stallOf i = .space) : s.raiseSpace old = s := by
  have hnone : (allQueues.filter fun q => s.spaceStalled q && !old.spaceStalled q) = [] := by
    rw [List.filter_eq_nil_iff]
    intro q _ hq
    simp only [Bool.and_eq_true, Bool.not_eq_true', ← Bool.not_eq_true, spaceStalled_iff] at hq
    exact hq.2 (h q hq.1.1 hq.1.2)
  simp [State.raiseSpace, hnone]

/-! ### A build that takes no piece (R72, R76) -/

theorem buildWalk_none_iff {canSplit : Bool} {room slots offset : Nat} {r : Fragment} {rest : List Fragment}
    (hk : r.kind ≠ .lostrel) (hf : r.filling = 0) (hroom : 0 < room) (hslots : 0 < slots) :
    (buildWalk canSplit room slots offset (r :: rest)).pieces = [] ↔ room < r.length ∧ canSplit = false := by
  rw [buildWalk, if_neg (by omega), if_neg hk, if_neg (by simp [hf])]
  split
  · next h => simp; omega
  · next h => cases canSplit <;> simp; omega

theorem build_none_iff {s : State} {q : Fin 16} {b : Nat} {r : Fragment} {rest : List Fragment}
    (hrs : (s.queue q).records = r :: rest) (hk : r.kind ≠ .lostrel) (hf : r.filling = 0) (hroom : 0 < s.trackData b) :
    (s.build q b).pieces = [] ↔ s.trackData b < r.length ∧ (s.poolFree = 0 ∨ s.headroom < 2) := by
  rw [State.build, hrs, buildWalk_none_iff hk hf hroom (by decide)]
  simp only [State.canSplit, Bool.and_eq_false_iff, decide_eq_false_iff_not]
  omega

/-- Settles O57: the grant by the classes ahead of placement and the first two choices, the rest by the definitions they name. -/
theorem writeIsGranted : Obligations.WriteIsGranted := by
  refine ⟨fun s q hp hw hm hsm hg ht hst hcalm hpressed => ?grant, fun s q =>
    ⟨fun b h => ?granted, ?refused, fun hp ht => stallOf_space_iff hp ht, fun old => ⟨raiseSpace_raises, raiseSpace_same⟩,
      fun b r rest hrs hk hf hroom => build_none_iff hrs hk hf hroom, stallOf_poolStalled, fun old =>
      ⟨clearStalls_cleared, clearStalls_same⟩⟩⟩
  case grant =>
    have next : WriteNext s q := ⟨ht, hst, hcalm, hpressed⟩
    have transfer := grantMedia_transfer hp hw hm hsm hg ht
    refine ⟨fun z b r hserves => ?_, fun y hd => ⟨fun hnone hf hreloc => ?_, fun q2 z b r hsome _ hserves => ?_⟩⟩
    · exact gives_mediaGrant (transfer.trans (next.grant_issued (placementLoop_serves next.choice hserves _ _)))
    · obtain ⟨hstage, hlist, hengine⟩ := declines_kept hd
      have hy : s.placementGrant = (y, false) :=
        (placementLoop_declines next.choice hd _ _).trans (placementLoop_none ((chooseQueue_next y q).trans hnone) _ _)
      refine gives_mediaGrant (transfer.trans (next.grant_declined hy hf (hstage.trans hst) (hlist.trans hf) ?_))
      simpa only [State.relocPresented, hengine] using hreloc
    · have hz : s.placementGrant = (z.issued s.emergency q2 b r, true) :=
        (placementLoop_declines next.choice hd _ _).trans (placementLoop_serves ((chooseQueue_next y q).trans hsome) hserves _ _)
      exact gives_mediaGrant (transfer.trans (next.grant_issued hz))
  case granted => exact ⟨(grantable_some h).1, eligibleBand_some (grantable_some h).2⟩
  case refused => rw [grantable_none, eligibleBand_none]

end Sys2Proof.Machine

namespace Sys2Proof.Machine

/-! PROOFS. An entry of the Request Table through the settling of a step: what leaves it as it is, and the answer of a Put whose
answer is due (R52, R53, R173; used for O50 and O51). -/

/-! ### Entries of the Request Table (R158) -/

theorem entry_key {s : State} {k : Key} {e : ReqEntry} (h : s.entry k = some e) : e.key = k := by
  simpa [ReqEntry.has] using List.find?_some h

theorem entry_mem {s : State} {k : Key} {e : ReqEntry} (h : s.entry k = some e) : e ∈ s.table := List.mem_of_find?_eq_some h

/-- A change of one entry that keeps its key leaves the others as they were. -/
theorem entry_modEntry {f : ReqEntry → ReqEntry} (hf : ∀ e, (f e).key = e.key) (s : State) (k x : Key) :
    (s.modEntry k f).entry x = (s.entry x).map fun e => if x = k then f e else e := by
  have hkey : ∀ e : ReqEntry, (if e.has k then f e else e).has x = e.has x := by
    intro e
    split <;> simp [ReqEntry.has, hf]
  rw [State.modEntry, State.entry, State.entry, List.find?_map]
  have hcomp : (fun e : ReqEntry => e.has x) ∘ (fun e => if e.has k then f e else e) = fun e => e.has x := funext hkey
  rw [hcomp]
  refine Option.map_congr fun e he => ?_
  have hx : e.key = x := by simpa [ReqEntry.has] using List.find?_some he
  simp [ReqEntry.has, hx]

theorem keys_modEntry {f : ReqEntry → ReqEntry} (hf : ∀ e, (f e).key = e.key) (s : State) (k : Key) :
    (s.modEntry k f).table.map (·.key) = s.table.map (·.key) := by
  simp only [State.modEntry, List.map_map]
  refine List.map_congr_left fun e _ => ?_
  simp only [Function.comp_apply]
  split <;> simp [hf]

theorem entry_dropEntry {s : State} {k x : Key} (h : k ≠ x) : (s.dropEntry k).entry x = s.entry x := by
  rw [State.dropEntry, State.entry, State.entry, List.find?_filter]
  congr 1
  funext e
  by_cases he : e.key = x
  · simp [ReqEntry.has, he, h.symm]
  · simp [ReqEntry.has, he]

/-- Distinct keys name distinct entries (R160). -/
theorem entry_unique {s : State} {k : Key} {e x : ReqEntry} (hn : (s.table.map (·.key)).Nodup) (he : s.entry k = some e)
    (hx : x ∈ s.table) (hk : x.key = k) : x = e :=
  List.inj_on_of_nodup_map hn hx (entry_mem he) (hk.trans (entry_key he).symm)

/-! ### What spares an entry -/

/-- Neither the engine nor an ACTIVE fetch slot is to answer a request. -/
def Unclaimed (k : Key) (s : State) : Prop := s.engine.clean ≠ some k ∧ ∀ i, (s.slot i).state = .active → (s.slot i).key ≠ k

/-- t leaves the entry of a request as s has it, adds no entry, and makes no new claim on a request. -/
structure Spares (k : Key) (s t : State) : Prop where
  entry : t.entry k = s.entry k
  keys : (t.table.map (·.key)).Sublist (s.table.map (·.key))
  clean : t.engine.clean = s.engine.clean ∨ t.engine.clean = none
  slots : ∀ i, (t.slot i).state = .active → (s.slot i).state = .active ∧ (t.slot i).key = (s.slot i).key

/-- A change of none of the table, the engine's Clean and the slots. -/
theorem Spares.of_same {s t : State} (k : Key) (ht : t.table = s.table := by rfl)
    (he : t.engine.clean = s.engine.clean := by rfl) (hs : t.slots = s.slots := by rfl) : Spares k s t where
  entry := by simp [State.entry, ht]
  keys := by simp [ht]
  clean := .inl he
  slots := fun i h => by simp_all [State.slot]

theorem Spares.refl (k : Key) (s : State) : Spares k s s := .of_same k

theorem Spares.trans {k : Key} {s t u : State} (h : Spares k s t) (g : Spares k t u) : Spares k s u where
  entry := g.entry.trans h.entry
  keys := g.keys.trans h.keys
  clean := by
    rcases g.clean with hc | hc
    · exact hc ▸ h.clean
    · exact .inr hc
  slots := fun i hi => by
    obtain ⟨ht, hk⟩ := g.slots i hi
    obtain ⟨hs, hk'⟩ := h.slots i ht
    exact ⟨hs, hk.trans hk'⟩

theorem Spares.unclaimed {k : Key} {s t : State} (h : Spares k s t) (hu : Unclaimed k s) : Unclaimed k t := by
  refine ⟨?_, fun i hi => ?_⟩
  · rcases h.clean with hc | hc <;> rw [hc]
    · exact hu.1
    · simp
  · obtain ⟨hs, hk⟩ := h.slots i hi
    exact hk ▸ hu.2 i hs

theorem Spares.nodup {k : Key} {s t : State} (h : Spares k s t) (hn : (s.table.map (·.key)).Nodup) :
    (t.table.map (·.key)).Nodup := h.keys.nodup hn

/-- Two changes one after the other, the second looked at where it is made. -/
theorem Spares.andThen {k : Key} {s t u : State} (h : Spares k s t) (hu : Unclaimed k s) (g : Unclaimed k t → Spares k t u) :
    Spares k s u := h.trans (g (h.unclaimed hu))

theorem Spares.foldl {α : Type} {k : Key} {f : State → α → State} {l : List α}
    (h : ∀ s, ∀ a ∈ l, Unclaimed k s → Spares k s (f s a)) {s : State} (hu : Unclaimed k s) : Spares k s (l.foldl f s) := by
  induction l generalizing s with
  | nil => exact .refl k s
  | cons a l ih =>
    exact (h s a List.mem_cons_self hu).andThen hu fun hu => ih (fun s b hb => h s b (List.mem_cons_of_mem a hb)) hu

/-! ### The operations of a step's settling -/

section
variable {k : Key}

theorem spares_modEntry {x : Key} (h : x ≠ k) {f : ReqEntry → ReqEntry} (hf : ∀ e, (f e).key = e.key) (s : State) :
    Spares k s (s.modEntry x f) where
  entry := by
    rw [entry_modEntry hf]
    simp [h.symm]
  keys := by rw [keys_modEntry hf]
  clean := .inl rfl
  slots := fun i hi => ⟨hi, rfl⟩

theorem spares_answerEntry {x : Key} (h : x ≠ k) (s : State) (st : Status) (r : Result) : Spares k s (s.answerEntry x st r) := by
  unfold State.answerEntry
  split
  · exact .refl k s
  · split
    · exact .refl k s
    · split
      · exact { entry := entry_dropEntry h, keys := List.filter_sublist.map _, clean := .inl rfl, slots := fun i hi => ⟨hi, rfl⟩ }
      · have marked : Spares k s (s.modEntry x fun e => { e with answered := true }) := spares_modEntry h (by exact fun _ => rfl) s
        exact marked.trans (.of_same k (by simp) (by simp) (by simp))

theorem spares_endRun {s : State} (hu : Unclaimed k s) (st : Status) : Spares k s (s.endRun st) := by
  have idle : Spares k s { s with engine := { Engine.reset with deferred := s.engine.deferred } } :=
    { entry := rfl, keys := List.Sublist.refl _, clean := .inr rfl, slots := fun i hi => ⟨hi, rfl⟩ }
  cases hc : s.engine.clean with
  | none => exact endRun_of_none hc st ▸ idle
  | some x =>
    have hx : x ≠ k := by
      rintro rfl
      exact hu.1 hc
    exact endRun_of_some hc st ▸ idle.trans (spares_answerEntry hx _ _ _)

theorem spares_continueRun {s : State} (hu : Unclaimed k s) : Spares k s s.continueRun := by
  unfold State.continueRun
  split
  · exact .of_same k
  · exact spares_endRun hu _

theorem spares_victimReleased {s : State} (hu : Unclaimed k s) : Spares k s s.victimReleased := by
  have undeferred : Spares k s { s with engine := { s.engine with deferred := none } } := .of_same k
  unfold State.victimReleased
  refine undeferred.andThen hu fun hu => ?_
  dsimp only
  split
  · exact spares_endRun hu _
  · exact spares_continueRun hu

theorem spares_releaseBand {s : State} (hu : Unclaimed k s) (b : Nat) : Spares k s (s.releaseBand b) := by
  have released : Spares k s ((s.modBand b Band.released).raiseBoth .relocationDone b) :=
    .of_same k (by simp) (by simp) (by simp)
  unfold State.releaseBand
  refine released.andThen hu fun hu => ?_
  dsimp only
  split
  · exact spares_victimReleased hu
  · exact .refl k _

theorem spares_releaseEmptied {s : State} (hu : Unclaimed k s) : Spares k s s.releaseEmptied :=
  Spares.foldl (fun _ _ _ hu => spares_releaseBand hu _) hu

theorem spares_clearReads {s : State} (hu : Unclaimed k s) : Spares k s s.clearReads :=
  (.of_same k : Spares k s (s.mapBands fun b => { b with pendingReads := 0 })).andThen hu spares_releaseEmptied

theorem spares_enterService {s : State} (hu : Unclaimed k s) : Spares k s s.enterService := by
  refine (spares_clearReads hu).trans ?_
  unfold State.enterService
  dsimp only
  split
  · exact .of_same k (by simp) (by simp) (by simp)
  · exact .of_same k

theorem spares_nextFooter {s : State} (hu : Unclaimed k s) : Spares k s s.nextFooter := by
  unfold State.nextFooter
  split
  · exact spares_enterService hu
  · exact .of_same k

theorem spares_advanceStartUp {s : State} (hu : Unclaimed k s) : Spares k s s.advanceStartUp := by
  unfold State.advanceStartUp State.beginReconciliation
  split
  · split
    · exact (spares_clearReads hu).andThen hu spares_nextFooter
    · exact spares_enterService hu
  · exact .refl k s

theorem spares_resolveLostrels {s : State} (hu : Unclaimed k s) : Spares k s s.resolveLostrels := by
  refine Spares.foldl (fun s r _ _ => ?_) hu
  exact .of_same k (by simp [State.resolveLostrel]) (by simp [State.resolveLostrel]) (by simp [State.resolveLostrel])

theorem spares_searchTrack (s : State) : Spares k s s.searchTrack := by
  unfold State.searchTrack
  split
  · exact .refl k s
  · split <;> exact .of_same k

theorem spares_testGates (s : State) : Spares k s s.testGates := by
  unfold State.testGates
  split
  · split <;> exact .of_same k
  · exact .refl k s

theorem spares_advanceEngine (s : State) : Spares k s s.advanceEngine := by
  unfold State.advanceEngine
  split
  · split
    · split
      · have dropped : Spares k s (s.setHand none) := .of_same k
        exact (dropped.trans (spares_searchTrack _)).trans (spares_testGates _)
      · exact spares_testGates s
    · exact (spares_searchTrack s).trans (spares_testGates _)
  · exact .refl k s

theorem spares_modSlot (s : State) (i : Fin 16) {f : FetchSlot → FetchSlot}
    (hf : ∀ x, (f x).state = .active → x.state = .active ∧ (f x).key = x.key) : Spares k s (s.modSlot i f) where
  entry := rfl
  keys := List.Sublist.refl _
  clean := .inl rfl
  slots := fun j hj => by
    rw [State.modSlot_slot] at hj ⊢
    split at hj <;> simp_all

theorem spares_deliverSlot {s : State} (hu : Unclaimed k s) (i : Fin 16) : Spares k s (s.deliverSlot i) := by
  unfold State.deliverSlot
  dsimp only
  split
  · next ha =>
    split
    · exact .refl k s
    · have sent : ∀ e : ReqEntry, ∀ fs, Spares k s (s.modPort e.reply fun p => { p with txq := p.txq ++ fs }) := fun e fs =>
        .of_same k (by simp) (by simp) (by simp)
      have hkey : (s.slot i).key ≠ k := hu.2 i (by simpa [FetchSlot.isActive] using ha)
      split
      · refine (sent _ _).trans ((spares_answerEntry hkey _ _ _).trans (spares_modSlot _ i fun x hx => ?_))
        simp [FetchSlot.empty] at hx
      · exact (sent _ _).trans (spares_modSlot _ i fun x hx => ⟨hx, rfl⟩)
  · exact .refl k s

theorem spares_deliverPattern {e : ReqEntry} (h : e.info.isPattern = true → e.key ≠ k) (s : State) :
    Spares k s (s.deliverPattern e) := by
  unfold State.deliverPattern
  split
  · next lsa count next hi =>
    have hkey : e.key ≠ k := h (by simp [hi, EntryInfo.isPattern])
    split
    · exact .refl k s
    · have counted : Spares k s (s.modEntry e.key fun e => { e with info := .patternGet lsa count (next + 1) }) :=
        spares_modEntry hkey (by exact fun _ => rfl) s
      have sent : Spares k s ((s.modEntry e.key fun e => { e with info := .patternGet lsa count (next + 1) }).pushFrame e.reply
          (e.patternFrame lsa next)) := counted.trans (.of_same k (by simp) (by simp) (by simp))
      dsimp only
      split
      · exact sent.trans (spares_answerEntry hkey _ _ _)
      · exact sent
  · exact .refl k s

/-- The Gets' deliveries answer no request that is none of theirs. -/
theorem spares_deliver {s : State} {e : ReqEntry} (hu : Unclaimed k s) (hn : (s.table.map (·.key)).Nodup)
    (he : s.entry k = some e) (hi : e.info.isPattern = false) : Spares k s s.deliver := by
  have slots : Spares k s (allQueues.foldl State.deliverSlot s) := Spares.foldl (fun _ i _ hu => spares_deliverSlot hu i) hu
  refine slots.andThen hu fun hu => Spares.foldl (fun t x hx _ => spares_deliverPattern (fun hp hk => ?_) t) hu
  have := entry_unique (slots.nodup hn) (slots.entry.trans he) hx hk
  simp [this, hi] at hp

theorem spares_freeEnded (s : State) : Spares k s s.freeEnded where
  entry := by simp [State.entry, State.freeEnded]
  keys := by simp [State.freeEnded]
  clean := .inl (by simp [State.freeEnded])
  slots := fun i hi => by
    rw [State.freeEnded, State.mapSlots_slot] at hi ⊢
    split at hi <;> simp_all [FetchSlot.empty]

theorem spares_settleRecords {s : State} {e : ReqEntry} (hu : Unclaimed k s) (hn : (s.table.map (·.key)).Nodup)
    (he : s.entry k = some e) (hi : e.info.isPattern = false) : Spares k s s.settleRecords := by
  have engine : Spares k s s.advanceStartUp.resolveLostrels.releaseEmptied.advanceEngine :=
    (((spares_advanceStartUp hu).andThen hu spares_resolveLostrels).andThen hu spares_releaseEmptied).trans
      (spares_advanceEngine _)
  exact (engine.andThen hu fun hu => spares_deliver hu (engine.nodup hn) (engine.entry.trans he) hi).trans (spares_freeEnded _)

end

/-! ### The answers of Puts (R52, R53, R173) -/

theorem entry_acknowledge (s : State) (x k : Key) : (s.acknowledge x).entry k = s.entry k := by
  simp [State.entry, State.acknowledge]

/-- The answer of another Put leaves an entry as it is. -/
theorem entry_answerPutEntry {k : Key} {x : ReqEntry} (h : x.key ≠ k) (s : State) : (s.answerPutEntry x).entry k = s.entry k := by
  unfold State.answerPutEntry
  split
  · split
    · unfold State.answerPut
      dsimp only
      rw [(spares_answerEntry h _ _ _).entry]
      split
      · exact entry_acknowledge s _ k
      · rfl
    · rfl
  · rfl

theorem entry_answerPutEntries {k : Key} {l : List ReqEntry} (h : ∀ x ∈ l, x.key ≠ k) (s : State) :
    (l.foldl State.answerPutEntry s).entry k = s.entry k := by
  induction l generalizing s with
  | nil => rfl
  | cons x l ih =>
    rw [List.foldl_cons, ih (fun y hy => h y (List.mem_cons_of_mem x hy)), entry_answerPutEntry (h x List.mem_cons_self)]

/-- The response of a Put, from its entry. -/
def ReqEntry.putAnswer (e : ReqEntry) (p : PutInfo) : OutFrame :=
  { tag := e.key.tag, origin := e.key.origin, redirected := e.redirected, holds := .entry
    body := .response 1 p.outcome.status p.result }

/-- A Put whose answer is due joins the transmit queue of its reply link. -/
theorem answerPutEntry_answers {s : State} {e : ReqEntry} {p : PutInfo} (he : s.entry e.key = some e) (hi : e.info = .put p)
    (ha : e.answered = false) (hd : e.discarded = false) (hdue : p.due = true) :
    e.putAnswer p ∈ ((s.answerPutEntry e).port e.reply).txq := by
  have hopen : s.answerPutEntry e = s.answerPut e.key p := by simp [State.answerPutEntry, hi, hdue, ha]
  rw [hopen, State.answerPut]
  have hack : (if !p.durable && !p.settling then s.acknowledge e.key else s).entry e.key = some e := by
    split
    · exact (entry_acknowledge s _ _).trans he
    · exact he
  rw [answerEntry_open hack ha hd, State.pushFrame, State.modPort_self]
  simp [ReqEntry.putAnswer, hi, EntryInfo.kind]

/-- Frames that have joined a transmit queue stay in it while a step is settled. -/
theorem Kept.mem_txq {s t : State} (h : Kept s t) {l : Link} {f : OutFrame} (hf : f ∈ (s.port l).txq) : f ∈ (t.port l).txq :=
  (h.port l).txq.subset hf

theorem answerPuts_answers {s : State} {e : ReqEntry} {p : PutInfo} (hn : (s.table.map (·.key)).Nodup)
    (he : s.entry e.key = some e) (hi : e.info = .put p) (ha : e.answered = false) (hd : e.discarded = false)
    (hdue : p.due = true) : e.putAnswer p ∈ (s.answerPuts.port e.reply).txq := by
  obtain ⟨before, after, hsplit⟩ := List.append_of_mem (entry_mem he)
  have others : ∀ x ∈ before, x.key ≠ e.key := by
    intro x hx hk
    rw [hsplit, List.map_append, List.map_cons] at hn
    exact (List.nodup_append.mp hn).2.2 _ (List.mem_map_of_mem hx) _ List.mem_cons_self hk
  rw [State.answerPuts, hsplit, List.foldl_append, List.foldl_cons]
  refine (Kept.foldl Kept.answerPutEntry after _).mem_txq (answerPutEntry_answers ?_ hi ha hd hdue)
  exact (entry_answerPutEntries others s).trans he

/-- A Put whose answer is due when a step's own effect is made is answered in that step, where nothing else is to answer it. -/
theorem settle_answers {s : State} {e : ReqEntry} {p : PutInfo} (hn : (s.table.map (·.key)).Nodup)
    (hu : Unclaimed e.key s) (he : s.entry e.key = some e) (hi : e.info = .put p) (ha : e.answered = false)
    (hd : e.discarded = false) (hdue : p.due = true) (old : State) :
    e.putAnswer p ∈ ((s.settle old).port e.reply).txq := by
  have records := spares_settleRecords hu hn he (by simp [hi, EntryInfo.isPattern])
  have answered := answerPuts_answers (records.nodup hn) (records.entry.trans he) hi ha hd hdue
  have requests : Kept s.settleRecords.answerPuts (s.settleRecords.settleRequests old) :=
    (Kept.clearMarks _).trans <| (Kept.storeFills _ old).trans (Kept.finishReset _)
  have work : Kept s.settleRecords.answerPuts (s.settle old) :=
    requests.trans <| (Kept.settleWork _ old _).trans <| (Kept.storeStalls _).trans (Kept.beginSending _)
  exact work.mem_txq answered

end Sys2Proof.Machine

namespace Sys2Proof.Machine

/-! PROOFS. The pieces of a write order that has left the window: the inserts of their stretches one after another, what resolving
them leaves as it was, and what it reports to their Puts and on the links (used for O50 and O51). -/

/-! ### Inserts one after another (R32, R80) -/

theorem mapAfter_cons (m : List Entry) (r : Piece × Inserted) (rs : List (Piece × Inserted)) :
    mapAfter m (r :: rs) = mapAfter r.2.entries rs := by
  rw [mapAfter, mapAfter, List.getLast?_cons]
  cases rs.getLast? <;> rfl

theorem mapAfter_append (m : List Entry) (rs rs' : List (Piece × Inserted)) :
    mapAfter m (rs ++ rs') = mapAfter (mapAfter m rs) rs' := by
  induction rs generalizing m with
  | nil => rfl
  | cons r rs ih => rw [List.cons_append, mapAfter_cons, mapAfter_cons, ih]

section
variable {place : Piece → Stretch → Option Location} {acts : Piece → Bool} {others : Nat}

theorem insertsOf_cons_acts {x : Piece × Stretch} (h : acts x.1 = true) (rest : List (Piece × Stretch)) (m : List Entry) :
    insertsOf place acts others (x :: rest) m =
      (x.1, x.1.insert m (place x.1 x.2) x.2 (budgetWith (others + rest.length + 1) m)) :: insertsOf place acts others rest
        (x.1.insert m (place x.1 x.2) x.2 (budgetWith (others + rest.length + 1) m)).entries := by
  simp [insertsOf, h]

theorem insertsOf_cons_idle {x : Piece × Stretch} (h : acts x.1 = false) (rest : List (Piece × Stretch)) (m : List Entry) :
    insertsOf place acts others (x :: rest) m =
      (x.1, { entries := m, entered := [], dropped := [] }) :: insertsOf place acts others rest m := by
  simp [insertsOf, h]

/-- The inserts of two lists of stretches: the first have the second's records beside theirs. -/
theorem insertsOf_append (xs ys : List (Piece × Stretch)) (m : List Entry) : insertsOf place acts others (xs ++ ys) m =
    insertsOf place acts (others + ys.length) xs m ++
      insertsOf place acts others ys (mapAfter m (insertsOf place acts (others + ys.length) xs m)) := by
  induction xs generalizing m with
  | nil => rfl
  | cons x xs ih =>
    have hlength : others + (xs ++ ys).length + 1 = others + ys.length + xs.length + 1 := by
      rw [List.length_append]
      omega
    cases h : acts x.1 with
    | true =>
      rw [List.cons_append, insertsOf_cons_acts h, insertsOf_cons_acts h, hlength, ih, mapAfter_cons]
      rfl
    | false =>
      rw [List.cons_append, insertsOf_cons_idle h, insertsOf_cons_idle h, ih, mapAfter_cons]
      rfl

/-- There is one insert for each stretch, of its piece. -/
theorem insertsOf_pieces (xs : List (Piece × Stretch)) (m : List Entry) :
    (insertsOf place acts others xs m).map (·.1) = xs.map (·.1) := by
  induction xs generalizing m with
  | nil => rfl
  | cons x xs ih => simp [insertsOf, ih]

theorem insertsOf_ne_nil {xs : List (Piece × Stretch)} (h : xs ≠ []) (m : List Entry) :
    insertsOf place acts others xs m ≠ [] := by
  obtain ⟨x, xs, rfl⟩ := List.exists_cons_of_ne_nil h
  simp [insertsOf]

/-- Pieces that do not act leave the map, and put in and drop nothing. -/
theorem insertsOf_idle {xs : List (Piece × Stretch)} (h : ∀ x ∈ xs, acts x.1 = false) (m : List Entry) :
    mapAfter m (insertsOf place acts others xs m) = m ∧
      ∀ r ∈ insertsOf place acts others xs m, r.2.entered = [] ∧ r.2.dropped = [] := by
  induction xs with
  | nil => exact ⟨rfl, by simp [insertsOf]⟩
  | cons x xs ih =>
    obtain ⟨hmap, hnone⟩ := ih fun y hy => h y (List.mem_cons_of_mem x hy)
    rw [insertsOf_cons_idle (h x List.mem_cons_self), mapAfter_cons]
    exact ⟨hmap, by simpa using hnone⟩

end

/-! ### The records of pieces (R53, R65) -/

/-- A HOST piece that names a Put. -/
def Piece.names (k : Key) (p : Piece) : Bool := !p.reloc && p.origin == some k

theorem stretchesOf_append (ps qs : List Piece) : stretchesOf (ps ++ qs) = stretchesOf ps ++ stretchesOf qs :=
  List.flatMap_append

theorem stretchesOf_cons (p : Piece) (ps : List Piece) :
    stretchesOf (p :: ps) = p.stretches.map (fun st => (p, st)) ++ stretchesOf ps := List.flatMap_cons

theorem stretchesOf_singleton (p : Piece) : stretchesOf [p] = p.stretches.map fun st => (p, st) := by
  simp [stretchesOf]

theorem stretchesOf_singleton_ne_nil {p : Piece} (h : p.stretches ≠ []) : stretchesOf [p] ≠ [] := by
  simpa [stretchesOf_singleton] using h

/-- Each piece holds a record for each of its stretches. -/
theorem stretchesOf_length (ps : List Piece) : (stretchesOf ps).length = (ps.map (·.stretches.length)).sum := by
  simp [stretchesOf, List.length_flatMap]

/-- Pieces without a stretch hold no record. -/
theorem stretchesOf_filter (a : Piece → Bool) (ps : List Piece) :
    stretchesOf (ps.filter fun p => a p && !p.stretches.isEmpty) = stretchesOf (ps.filter a) := by
  induction ps with
  | nil => rfl
  | cons p ps ih =>
    cases ha : a p with
    | false => simp [ha, ih]
    | true =>
      cases hs : p.stretches with
      | nil => simp [ha, hs, ih, stretchesOf_cons]
      | cons st sts => simp [ha, hs, ih, stretchesOf_cons]

theorem recordsNaming_eq (k : Key) (ps : List Piece) : recordsNaming k ps = (stretchesOf ps).countP fun x => x.1.names k := by
  induction ps with
  | nil => rfl
  | cons p ps ih =>
    have hcons : recordsNaming k (p :: ps) = (if p.names k then p.stretches.length else 0) + recordsNaming k ps := by
      by_cases h : p.names k <;> simp_all [recordsNaming, Piece.names]
    rw [hcons, ih, stretchesOf_cons, List.countP_append, List.countP_map]
    cases h : p.names k <;> simp [Function.comp_def, h]

theorem recordsNaming_append (k : Key) (ps qs : List Piece) :
    recordsNaming k (ps ++ qs) = recordsNaming k ps + recordsNaming k qs := by
  simp only [recordsNaming_eq, stretchesOf_append, List.countP_append]

theorem recordsNaming_singleton (k : Key) (p : Piece) :
    recordsNaming k [p] = if p.names k then p.stretches.length else 0 := by
  cases h : p.names k <;> simp_all [recordsNaming, Piece.names]

/-! ### What resolving pieces leaves as it was -/

/-- A band record but for its valid count. -/
def Band.bare (b : Band) : Band := { b with valid := 0 }

theorem Band.eq_of_bare {a b : Band} (h : a.bare = b.bare) : a = { b with valid := a.valid } := by
  cases a
  cases b
  simp_all [Band.bare]

/-- t is s with pieces resolved: the map changes with the valid counts, the counts and outcomes of Puts, and notices are raised. -/
structure PiecesKept (s t : State) : Prop where
  only : ∃ m b tb pa pb, t = { s with map := m, bands := b, table := tb, portA := pa, portB := pb }
  bands : t.bands.map Band.bare = s.bands.map Band.bare
  keys : t.table.map (·.key) = s.table.map (·.key)
  entries : ∀ k e, s.entry k = some e → ∃ i, t.entry k = some { e with info := i }
  durable : ∀ o, t.durableOrigin o = s.durableOrigin o
  notices : ∀ n, PendingOnBoth s n → PendingOnBoth t n

theorem PiecesKept.refl (s : State) : PiecesKept s s where
  only := ⟨_, _, _, _, _, rfl⟩
  bands := rfl
  keys := rfl
  entries := fun _ e h => ⟨e.info, h⟩
  durable := fun _ => rfl
  notices := fun _ h => h

theorem PiecesKept.trans {s t u : State} (h : PiecesKept s t) (g : PiecesKept t u) : PiecesKept s u where
  only := by
    obtain ⟨_, _, _, _, _, rfl⟩ := h.only
    obtain ⟨_, _, _, _, _, rfl⟩ := g.only
    exact ⟨_, _, _, _, _, rfl⟩
  bands := g.bands.trans h.bands
  keys := g.keys.trans h.keys
  entries := fun k e he => by
    obtain ⟨_, hi⟩ := h.entries k e he
    obtain ⟨j, hj⟩ := g.entries k _ hi
    exact ⟨j, hj⟩
  durable := fun o => (g.durable o).trans (h.durable o)
  notices := fun n hn => g.notices n (h.notices n hn)

section
variable {s t : State} (h : PiecesKept s t)
include h

theorem PiecesKept.inUse : t.inUse = s.inUse := by
  obtain ⟨_, _, _, _, _, rfl⟩ := h.only
  rfl

theorem PiecesKept.window : t.window = s.window := by
  obtain ⟨_, _, _, _, _, rfl⟩ := h.only
  rfl

theorem PiecesKept.queues : t.queues = s.queues := by
  obtain ⟨_, _, _, _, _, rfl⟩ := h.only
  rfl

theorem PiecesKept.engine : t.engine = s.engine := by
  obtain ⟨_, _, _, _, _, rfl⟩ := h.only
  rfl

theorem PiecesKept.slots : t.slots = s.slots := by
  obtain ⟨_, _, _, _, _, rfl⟩ := h.only
  rfl

theorem PiecesKept.profiles : t.profiles = s.profiles := by
  obtain ⟨_, _, _, _, _, rfl⟩ := h.only
  rfl

theorem PiecesKept.band {i : Nat} {b : Band} (hb : s.bands[i]? = some b) : ∃ n, t.bands[i]? = some { b with valid := n } := by
  have hi : (t.bands[i]?).map Band.bare = (s.bands[i]?).map Band.bare := by
    rw [← List.getElem?_map, ← List.getElem?_map, h.bands]
  rw [hb, Option.map_some, Option.map_eq_some_iff] at hi
  obtain ⟨a, ha, hbare⟩ := hi
  exact ⟨a.valid, ha.trans (congrArg some (Band.eq_of_bare hbare))⟩

theorem PiecesKept.bands_length : t.bands.length = s.bands.length := by
  simpa using congrArg List.length h.bands

theorem PiecesKept.band_of {i : Nat} {b : Band} (hb : t.bands[i]? = some b) :
    ∃ b0 n, s.bands[i]? = some b0 ∧ b = { b0 with valid := n } := by
  have hlt : i < s.bands.length := h.bands_length ▸ (List.getElem?_eq_some_iff.mp hb).1
  obtain ⟨n, hn⟩ := h.band (List.getElem?_eq_getElem hlt)
  exact ⟨_, n, List.getElem?_eq_getElem hlt, Option.some.inj (hb.symm.trans hn)⟩

theorem PiecesKept.shapeOf (i : Nat) : t.shapeOf i = s.shapeOf i := by
  have hprofile : ∀ n, t.profile n = s.profile n := fun n => by simp only [State.profile, h.profiles]
  cases hb : s.bands[i]? with
  | some b =>
    obtain ⟨n, hn⟩ := h.band hb
    simp only [State.shapeOf, hb, hn, Option.bind_some, hprofile]
  | none =>
    have hn : t.bands[i]? = none := by
      rw [List.getElem?_eq_none_iff] at hb ⊢
      exact h.bands_length ▸ hb
    simp [State.shapeOf, hb, hn]

end

/-! ### The operations on a piece's records -/

/-- A notice changes nothing but the pending sets. -/
theorem piecesKept_raiseBoth (s : State) (k : Notice) (d : Nat) : PiecesKept s (s.raiseBoth k d) where
  only := ⟨_, _, _, _, _, rfl⟩
  bands := rfl
  keys := rfl
  entries := fun _ e h => ⟨e.info, h⟩
  durable := fun _ => rfl
  notices := fun _ h => h.raiseBoth k d

theorem piecesKept_noteHeadroom (s : State) (a b : Nat) : PiecesKept s (s.noteHeadroom a b) := by
  unfold State.noteHeadroom
  split
  · exact piecesKept_raiseBoth s _ _
  · exact .refl s

theorem piecesKept_setMap (s : State) (m : List Entry) : PiecesKept s (s.setMap m) where
  only := ⟨_, _, _, _, _, rfl⟩
  bands := by
    apply List.ext_getElem?
    intro i
    simp only [State.setMap_bands, List.getElem?_map, List.getElem?_mapIdx, Option.map_map]
    rfl
  keys := rfl
  entries := fun _ e h => ⟨e.info, h⟩
  durable := fun _ => rfl
  notices := fun _ h => h

theorem piecesKept_insertReleased (s : State) (held : Nat) (r : Inserted) : PiecesKept s (s.insertReleased held r) :=
  (piecesKept_setMap s r.entries).trans (piecesKept_noteHeadroom _ _ _)

@[simp] theorem insertReleased_map (s : State) (held : Nat) (r : Inserted) : (s.insertReleased held r).map = r.entries := by
  simp [State.insertReleased]

@[simp] theorem insertReleased_table (s : State) (held : Nat) (r : Inserted) : (s.insertReleased held r).table = s.table := by
  simp [State.insertReleased]

theorem putInfo_congr {s t : State} (h : t.table = s.table) (k : Key) : t.putInfo k = s.putInfo k := by
  simp only [State.putInfo, State.entry, h]

theorem entry_modPut (s : State) (k x : Key) (f : PutInfo → PutInfo) : (s.modPut k f).entry x =
    (s.entry x).map fun e => if x = k then { e with info := e.info.modPut f } else e :=
  entry_modEntry (f := fun e => { e with info := e.info.modPut f }) (fun _ => rfl) s k x

/-- A change of one Put's record. -/
theorem putInfo_modPut (s : State) (k x : Key) (f : PutInfo → PutInfo) :
    (s.modPut k f).putInfo x = if x = k then (s.putInfo x).map f else s.putInfo x := by
  rw [State.putInfo, entry_modPut, State.putInfo]
  cases he : s.entry x with
  | none => simp
  | some e =>
    by_cases hx : x = k
    · cases hi : e.info <;> cases ha : e.answered <;> simp [hx, hi, ha, EntryInfo.modPut]
    · simp [hx]

theorem piecesKept_modPut (s : State) (k : Key) {f : PutInfo → PutInfo} (hf : ∀ p, (f p).durable = p.durable) :
    PiecesKept s (s.modPut k f) where
  only := ⟨_, _, _, _, _, rfl⟩
  bands := rfl
  keys := keys_modEntry (by exact fun _ => rfl) s k
  entries := fun x e h => by
    rw [entry_modPut, h, Option.map_some]
    by_cases hx : x = k
    · exact ⟨e.info.modPut f, by rw [if_pos hx]⟩
    · exact ⟨e.info, by rw [if_neg hx]⟩
  durable := fun o => by
    cases o with
    | none => rfl
    | some x =>
      simp only [State.durableOrigin, Option.bind_some, putInfo_modPut]
      split
      · cases s.putInfo x <;> simp [hf]
      · rfl
  notices := fun _ h => h

theorem piecesKept_movePieces (s : State) (o : Option Key) (n m : Nat) : PiecesKept s (s.movePieces o n m) := by
  cases o with
  | none => exact .refl s
  | some k => exact piecesKept_modPut s k fun _ => rfl

theorem piecesKept_recordOutcome (s : State) (o : Option Key) (x : Outcome) : PiecesKept s (s.recordOutcome o x) := by
  cases o with
  | none => exact .refl s
  | some k => exact piecesKept_modPut s k fun _ => rfl

theorem piecesKept_raiseLost (s : State) (lost : List (Nat × Nat)) : PiecesKept s (s.raiseLost lost) := by
  unfold State.raiseLost
  split
  · exact .refl s
  · exact piecesKept_raiseBoth s _ _

theorem putInfo_movePieces (s : State) (o : Option Key) (n m : Nat) (k : Key) : (s.movePieces o n m).putInfo k =
    if o = some k then (s.putInfo k).map fun p => { p with pieces := p.pieces + m - n } else s.putInfo k := by
  cases o with
  | none => rfl
  | some x => simp only [State.movePieces, putInfo_modPut, Option.some.injEq, eq_comm]

theorem putInfo_recordOutcome (s : State) (o : Option Key) (x : Outcome) (k : Key) : (s.recordOutcome o x).putInfo k =
    if o = some k then (s.putInfo k).map fun p => { p with outcome := p.outcome.record x } else s.putInfo k := by
  cases o with
  | none => rfl
  | some y => simp only [State.recordOutcome, putInfo_modPut, Option.some.injEq, eq_comm]

@[simp] theorem movePieces_map (s : State) (o : Option Key) (n m : Nat) : (s.movePieces o n m).map = s.map := by
  cases o <;> rfl

@[simp] theorem recordOutcome_map (s : State) (o : Option Key) (x : Outcome) : (s.recordOutcome o x).map = s.map := by
  cases o <;> rfl

@[simp] theorem raiseLost_map (s : State) (lost : List (Nat × Nat)) : (s.raiseLost lost).map = s.map := by
  unfold State.raiseLost
  split <;> simp

@[simp] theorem raiseLost_table (s : State) (lost : List (Nat × Nat)) : (s.raiseLost lost).table = s.table := by
  unfold State.raiseLost
  split <;> simp

/-- Ranges lost have a lowest LSA. -/
theorem lowestOf_some {lost : List (Nat × Nat)} (h : lost ≠ []) : ∃ x, lowestOf lost = some x := by
  obtain rfl | ⟨l, r, rfl⟩ := List.eq_nil_or_concat lost
  · exact absurd rfl h
  · rw [lowestOf, List.concat_eq_append, List.foldl_append, List.foldl_cons, List.foldl_nil]
    split <;> exact ⟨_, rfl⟩

theorem raiseLost_raises {lost : List (Nat × Nat)} (h : lost ≠ []) (s : State) : PendingOnBoth (s.raiseLost lost) .dataLost := by
  obtain ⟨x, hx⟩ := lowestOf_some h
  simp only [State.raiseLost, hx]
  exact pendingOnBoth_raiseBoth s _ _

/-! ### A HOST piece resolved (R53, R81) -/

/-- A Put's record once n of its records are resolved, with sectors lost or not. -/
def PutInfo.resolve (n : Nat) (lost : Bool) (p : PutInfo) : PutInfo :=
  { p with pieces := p.pieces - n, outcome := if p.durable && lost then .mediaError else p.outcome }

theorem PutInfo.resolve_zero (p : PutInfo) : p.resolve 0 false = p := by
  simp [PutInfo.resolve]

theorem PutInfo.resolve_resolve (n m : Nat) (x y : Bool) (p : PutInfo) :
    (p.resolve n x).resolve m y = p.resolve (n + m) (x || y) := by
  cases hd : p.durable <;> cases x <;> cases y <;> simp [PutInfo.resolve, hd, Nat.sub_sub]

theorem record_mediaError (o : Outcome) : o.record .mediaError = .mediaError := by
  cases o <;> rfl

theorem durableOrigin_some {s : State} {k : Key} {put : PutInfo} (h : s.putInfo k = some put) :
    s.durableOrigin (some k) = put.durable := by
  simp [State.durableOrigin, h]

section
variable (s : State) (p : Piece) (asLost : Bool) (lost : List (Nat × Nat))

theorem resolveHost_reloc (h : p.reloc = true) : s.resolveHost p asLost lost = s := by
  simp [State.resolveHost, h]

theorem resolveHost_host (h : p.reloc = false) : s.resolveHost p asLost lost =
    if s.durableOrigin p.origin then
      (if asLost || !lost.isEmpty then (s.movePieces p.origin p.stretches.length 0).recordOutcome p.origin .mediaError
      else s.movePieces p.origin p.stretches.length 0)
    else (s.movePieces p.origin p.stretches.length 0).raiseLost lost := by
  simp [State.resolveHost, h]

theorem piecesKept_resolveHost : PiecesKept s (s.resolveHost p asLost lost) := by
  cases h : p.reloc with
  | true => rw [resolveHost_reloc s p asLost lost h]; exact .refl s
  | false =>
    rw [resolveHost_host s p asLost lost h]
    refine (piecesKept_movePieces s p.origin p.stretches.length 0).trans ?_
    split
    · split
      · exact piecesKept_recordOutcome _ _ _
      · exact .refl _
    · exact piecesKept_raiseLost _ _

theorem resolveHost_map : (s.resolveHost p asLost lost).map = s.map := by
  cases h : p.reloc with
  | true => rw [resolveHost_reloc s p asLost lost h]
  | false =>
    rw [resolveHost_host s p asLost lost h]
    split
    · split <;> simp
    · simp

/-- The Put a HOST piece names has its records fewer, and one that is durable has its loss recorded. -/
theorem resolveHost_putInfo {k : Key} {put : PutInfo} (hk : s.putInfo k = some put) :
    (s.resolveHost p asLost lost).putInfo k =
      some (put.resolve (recordsNaming k [p]) (p.names k && (asLost || !lost.isEmpty))) := by
  rw [recordsNaming_singleton]
  cases h : p.reloc with
  | true => simp [resolveHost_reloc s p asLost lost h, hk, Piece.names, h, PutInfo.resolve]
  | false =>
    rw [resolveHost_host s p asLost lost h]
    by_cases ho : p.origin = some k
    · have hnames : p.names k = true := by simp [Piece.names, h, ho]
      rw [ho, durableOrigin_some hk, hnames]
      cases hd : put.durable with
      | true =>
        cases hlost : asLost || !lost.isEmpty <;>
          simp [putInfo_recordOutcome, putInfo_movePieces, hk, PutInfo.resolve, hd, record_mediaError]
      | false => simp [putInfo_congr (raiseLost_table _ _), putInfo_movePieces, hk, PutInfo.resolve, hd]
    · have hnames : p.names k = false := by simp [Piece.names, ho]
      have hmoved : (s.movePieces p.origin p.stretches.length 0).putInfo k = some put := by
        rw [putInfo_movePieces, if_neg ho, hk]
      have hresolve : put.resolve 0 false = put := put.resolve_zero
      rw [hnames, Bool.false_and, if_neg Bool.false_ne_true, hresolve]
      split
      · split
        · rw [putInfo_recordOutcome, if_neg ho, hmoved]
        · exact hmoved
      · rw [putInfo_congr (raiseLost_table _ _), hmoved]

/-- Sectors lost of a HOST piece of no durable Put raise DATA_LOST. -/
theorem resolveHost_dataLost (h : p.reloc = false) (hd : s.durableOrigin p.origin = false) (hl : lost ≠ []) :
    PendingOnBoth (s.resolveHost p asLost lost) .dataLost := by
  rw [resolveHost_host s p asLost lost h, hd]
  exact raiseLost_raises hl _

end

end Sys2Proof.Machine

namespace Sys2Proof.Machine

/-! PROOFS. Lists of pieces resolved one after another: those that enter the map, those lost, those discarded, each tied to the
model's own folds (used for O50 and O51). -/

/-! ### The stretches of one piece -/

/-- One stretch is inserted at its place and its record released; lostOf says which ranges count as lost. -/
def applyStretch (place : Piece → Stretch → Option Location) (lostOf : Inserted → List (Nat × Nat)) (p : Piece)
    (acc : State × Nat × List (Nat × Nat)) (st : Stretch) : State × Nat × List (Nat × Nat) :=
  let r := p.insert acc.1.map (place p st) st (acc.1.budget acc.2.1)
  (acc.1.insertReleased acc.2.1 r, acc.2.1 - 1, acc.2.2 ++ lostOf r)

/-- One piece: its stretches, and the report to its Put. -/
def resolvePiece (place : Piece → Stretch → Option Location) (lostOf : Inserted → List (Nat × Nat)) (asLost : Bool)
    (acc : State × Nat) (p : Piece) : State × Nat :=
  let r := p.stretches.foldl (applyStretch place lostOf p) (acc.1, acc.2, [])
  (r.1.resolveHost p asLost r.2.2, r.2.1)

/-- The place of a stretch in the track of a band that begins at the data index base (R80). -/
def placeIn (band base : Nat) (p : Piece) (st : Stretch) : Option Location := some ⟨band, base + p.offset + st.start⟩

/-- A LOST conversion has no place. -/
def noPlace (_ : Piece) (_ : Stretch) : Option Location := none

/-- All the ranges a LOST conversion found, entered or dropped (R83). -/
def lostAll (r : Inserted) : List (Nat × Nat) := r.entered ++ r.dropped

theorem enterPiece_eq (band base : Nat) : enterPiece band base = resolvePiece (placeIn band base) (·.dropped) false := rfl

theorem loseStretch_eq (p : Piece) : loseStretch p = applyStretch noPlace lostAll p := by
  funext acc st
  simp [loseStretch, applyStretch, noPlace, lostAll]

theorem losePiece_eq : losePiece = resolvePiece noPlace lostAll true := by
  funext acc p
  rw [losePiece, loseStretch_eq]
  rfl

/-- R36's budget, with the records of the order that are not released yet beside those in use. -/
theorem budget_eq (s : State) (held : Nat) : s.budget held = budgetWith (s.inUse + held) s.map := rfl

section
variable {place : Piece → Stretch → Option Location} {lostOf : Inserted → List (Nat × Nat)} {acts : Piece → Bool}

/-- The stretches of a piece that acts are inserted as insertsOf says, with the records still held and those in use beside theirs. -/
theorem applyStretches {p : Piece} (ha : acts p = true) (sts : List Stretch) (s : State) (held : Nat)
    (lost : List (Nat × Nat)) : ∃ t,
      sts.foldl (applyStretch place lostOf p) (s, held + sts.length, lost) = (t, held, lost ++
        (insertsOf place acts (s.inUse + held) (sts.map fun st => (p, st)) s.map).flatMap fun r => lostOf r.2) ∧
      PiecesKept s t ∧ t.table = s.table ∧
      t.map = mapAfter s.map (insertsOf place acts (s.inUse + held) (sts.map fun st => (p, st)) s.map) := by
  induction sts generalizing s lost with
  | nil => exact ⟨s, by simp [insertsOf], .refl s, rfl, rfl⟩
  | cons st sts ih =>
    have hbudget : s.budget (held + (st :: sts).length) =
        budgetWith (s.inUse + held + (sts.map fun st => (p, st)).length + 1) s.map := by
      simp only [budget_eq, List.length_cons, List.length_map, Nat.add_assoc]
    have hheld : held + (st :: sts).length - 1 = held + sts.length := by
      rw [List.length_cons]
      omega
    rw [List.foldl_cons, List.map_cons, insertsOf_cons_acts ha, mapAfter_cons, applyStretch, hbudget, hheld]
    generalize p.insert s.map (place p st) st (budgetWith (s.inUse + held + (sts.map fun st => (p, st)).length + 1) s.map) = r
    have first := piecesKept_insertReleased s (held + (st :: sts).length) r
    obtain ⟨t, hfold, hkept, htable, hmap⟩ := ih (s.insertReleased (held + (st :: sts).length) r) (lost ++ lostOf r)
    rw [first.inUse, insertReleased_map] at hfold hmap
    refine ⟨t, ?_, first.trans hkept, htable.trans (insertReleased_table _ _ _), hmap⟩
    rw [hfold, List.flatMap_cons, List.append_assoc]

/-- Pieces resolved one after another turn s into t: the map by the inserts of those that act, with others records in use beside
theirs; and DATA_LOST stands where a HOST piece of no durable Put lost a sector. -/
structure Resolution (place : Piece → Stretch → Option Location) (lostOf : Inserted → List (Nat × Nat)) (acts : Piece → Bool)
    (others : Nat) (ps : List Piece) (s t : State) : Prop where
  kept : PiecesKept s t
  map : t.map = mapAfter s.map (insertsOf place acts others (stretchesOf ps) s.map)
  dataLost : ∀ r ∈ insertsOf place acts others (stretchesOf ps) s.map, r.1.reloc = false → lostOf r.2 ≠ [] →
    s.durableOrigin r.1.origin = false → PendingOnBoth t .dataLost

theorem Resolution.nil (others : Nat) (s : State) : Resolution place lostOf acts others [] s s where
  kept := .refl s
  map := rfl
  dataLost := by simp [stretchesOf, insertsOf]

theorem Resolution.append {others : Nat} {ps qs : List Piece} {s t u : State}
    (h : Resolution place lostOf acts (others + (stretchesOf qs).length) ps s t)
    (g : Resolution place lostOf acts others qs t u) : Resolution place lostOf acts others (ps ++ qs) s u where
  kept := h.kept.trans g.kept
  map := by rw [stretchesOf_append, insertsOf_append, mapAfter_append, ← h.map, g.map]
  dataLost := fun r hr hreloc hlost hd => by
    rw [stretchesOf_append, insertsOf_append, ← h.map] at hr
    rcases List.mem_append.mp hr with hr | hr
    · exact g.kept.notices _ (h.dataLost r hr hreloc hlost hd)
    · exact g.dataLost r hr hreloc hlost ((h.kept.durable _).trans hd)

/-- The Put k names is hit by inserts: a HOST piece of it lost sectors, or is lost whatever its insert found. -/
def hits (asLost : Bool) (lostOf : Inserted → List (Nat × Nat)) (k : Key) (rs : List (Piece × Inserted)) : Bool :=
  rs.any fun r => r.1.names k && (asLost || !(lostOf r.2).isEmpty)

theorem hits_append (asLost : Bool) (k : Key) (rs rs' : List (Piece × Inserted)) :
    hits asLost lostOf k (rs ++ rs') = (hits asLost lostOf k rs || hits asLost lostOf k rs') := List.any_append

/-- The inserts of one piece hit the Put it names by the ranges they lost together. -/
theorem hits_of_piece {asLost : Bool} {k : Key} {p : Piece} {rs : List (Piece × Inserted)} (hp : ∀ r ∈ rs, r.1 = p)
    (hne : asLost = true → rs ≠ []) : hits asLost lostOf k rs =
      (p.names k && (asLost || !(rs.flatMap fun r => lostOf r.2).isEmpty)) := by
  have hnames : hits asLost lostOf k rs = rs.any fun r => p.names k && (asLost || !(lostOf r.2).isEmpty) := by
    rw [Bool.eq_iff_iff, hits, List.any_eq_true, List.any_eq_true]
    exact exists_congr fun r => and_congr_right fun hr => by rw [hp r hr]
  rw [hnames]
  cases hk : p.names k with
  | false => simp
  | true =>
    cases asLost with
    | true =>
      obtain ⟨r, rs, rfl⟩ := List.exists_cons_of_ne_nil (hne rfl)
      simp
    | false =>
      rw [Bool.eq_iff_iff]
      simp

theorem insertsOf_piece {p : Piece} {others : Nat} {m : List Entry} {r : Piece × Inserted}
    (hr : r ∈ insertsOf place acts others (stretchesOf [p]) m) : r.1 = p := by
  have hmem : r.1 ∈ (insertsOf place acts others (stretchesOf [p]) m).map (·.1) := List.mem_map_of_mem hr
  rw [insertsOf_pieces, stretchesOf_singleton] at hmem
  have hboth : p.stretches ≠ [] ∧ r.1 = p := by simpa using hmem
  exact hboth.2

/-- One piece that acts, and what it makes of the Put it names. -/
theorem resolvePiece_spec {p : Piece} {asLost : Bool} (ha : acts p = true) (hne : asLost = true → p.stretches ≠ [])
    (s : State) (held : Nat) : ∃ t,
      resolvePiece place lostOf asLost (s, held + p.stretches.length) p = (t, held) ∧
      Resolution place lostOf acts (s.inUse + held) [p] s t ∧
      ∀ k put, s.putInfo k = some put → t.putInfo k = some (put.resolve (recordsNaming k [p])
        (hits asLost lostOf k (insertsOf place acts (s.inUse + held) (stretchesOf [p]) s.map))) := by
  obtain ⟨u, hfold, hkept, htable, hmap⟩ := applyStretches (place := place) (lostOf := lostOf) ha p.stretches s held []
  rw [List.nil_append, ← stretchesOf_singleton] at hfold
  rw [← stretchesOf_singleton] at hmap
  have hpiece : ∀ r ∈ insertsOf place acts (s.inUse + held) (stretchesOf [p]) s.map, r.1 = p := fun r hr => insertsOf_piece hr
  have hsome : asLost = true → insertsOf place acts (s.inUse + held) (stretchesOf [p]) s.map ≠ [] := fun hl =>
    insertsOf_ne_nil (stretchesOf_singleton_ne_nil (hne hl)) s.map
  rw [resolvePiece, hfold]
  refine ⟨_, rfl, ⟨hkept.trans (piecesKept_resolveHost u p asLost _), ?_, ?_⟩, fun k put hk => ?_⟩
  · rw [resolveHost_map, hmap]
  · intro r hr hreloc hlost hd
    obtain rfl := hpiece r hr
    refine resolveHost_dataLost u _ asLost _ hreloc ((hkept.durable _).trans hd) fun hnil => hlost ?_
    exact List.flatMap_eq_nil_iff.mp hnil r hr
  · rw [hits_of_piece hpiece hsome]
    exact resolveHost_putInfo u p asLost _ ((putInfo_congr htable k).trans hk)

/-- Pieces that all act, and what they make of the Puts they name. -/
theorem resolvePieces_spec {asLost : Bool} (ps : List Piece) (hne : asLost = true → ∀ p ∈ ps, p.stretches ≠ []) (s : State)
    (held : Nat) : ∃ t,
      ps.foldl (resolvePiece place lostOf asLost) (s, held + (stretchesOf ps).length) = (t, held) ∧
      Resolution place lostOf (fun _ => true) (s.inUse + held) ps s t ∧
      ∀ k put, s.putInfo k = some put → t.putInfo k = some (put.resolve (recordsNaming k ps)
        (hits asLost lostOf k (insertsOf place (fun _ => true) (s.inUse + held) (stretchesOf ps) s.map))) := by
  induction ps generalizing s with
  | nil => exact ⟨s, rfl, .nil _ s, fun k put hk => hk.trans (congrArg some put.resolve_zero.symm)⟩
  | cons p ps ih =>
    have hlen : held + (stretchesOf (p :: ps)).length = held + (stretchesOf ps).length + p.stretches.length := by
      rw [stretchesOf_cons, List.length_append, List.length_map]
      omega
    obtain ⟨t, hfirst, hres, hput⟩ := resolvePiece_spec (place := place) (lostOf := lostOf) (acts := fun _ => true)
      (p := p) rfl (fun hl => hne hl p List.mem_cons_self) s (held + (stretchesOf ps).length)
    obtain ⟨u, hrest, hres', hput'⟩ := ih (fun hl x hx => hne hl x (List.mem_cons_of_mem p hx)) t
    rw [hres.kept.inUse] at hres' hput'
    rw [← Nat.add_assoc] at hres hput
    refine ⟨u, by rw [hlen, List.foldl_cons, hfirst, hrest], hres.append hres', fun k put hk => ?_⟩
    have happend : insertsOf place (fun _ => true) (s.inUse + held) (stretchesOf (p :: ps)) s.map = _ :=
      (congrArg (fun xs => insertsOf place (fun _ => true) (s.inUse + held) xs s.map) (stretchesOf_append [p] ps)).trans
        (insertsOf_append _ _ _)
    rw [hput' k _ (hput k put hk), PutInfo.resolve_resolve, ← recordsNaming_append, happend, hits_append, ← hres.map]
    rfl

end

/-! ### The pieces of an orphaned order that failed (R174) -/

/-- Of an orphaned order only acknowledged HOST pieces become LOST. -/
def Piece.acknowledgedHost (p : Piece) : Bool := !p.reloc && p.acknowledged

/-- A Put's record once n of its records are discarded. -/
def PutInfo.abort (n : Nat) (p : PutInfo) : PutInfo :=
  { p with pieces := p.pieces - n, outcome := if 0 < n then p.outcome.record .aborted else p.outcome }

theorem record_aborted (o : Outcome) : (o.record .aborted).record .aborted = o.record .aborted := by
  cases o <;> rfl

theorem PutInfo.abort_abort (n m : Nat) (p : PutInfo) : (p.abort n).abort m = p.abort (n + m) := by
  by_cases hn : 0 < n <;> by_cases hm : 0 < m <;> simp [PutInfo.abort, hn, hm, Nat.sub_sub, record_aborted]

theorem PutInfo.abort_zero (p : PutInfo) : p.abort 0 = p := by
  simp [PutInfo.abort]

/-- A piece that does not act leaves the map. -/
theorem Resolution.idle {place : Piece → Stretch → Option Location} {acts : Piece → Bool} {others : Nat} {p : Piece}
    {s t : State} (ha : acts p = false ∨ p.stretches = []) (hk : PiecesKept s t) (hm : t.map = s.map) :
    Resolution place lostAll acts others [p] s t := by
  have hidle : ∀ x ∈ stretchesOf [p], acts x.1 = false := by
    rw [stretchesOf_singleton]
    rcases ha with ha | ha <;> simp [ha]
  obtain ⟨hmap, hnone⟩ := insertsOf_idle (place := place) (others := others) hidle s.map
  refine ⟨hk, by rw [hmap, hm], fun r hr _ hlost => ?_⟩
  obtain ⟨hin, hdrop⟩ := hnone r hr
  simp [lostAll, hin, hdrop] at hlost

/-- One piece of an orphaned order that failed; the premise on acknowledged pieces is R52's. -/
theorem orphanPiece_spec (p : Piece) (s : State) (held : Nat) : ∃ t,
    orphanPiece (s, held + p.stretches.length) p = (t, held) ∧
    Resolution noPlace lostAll Piece.acknowledgedHost (s.inUse + held) [p] s t ∧
    ((p.acknowledged = true → p.origin = none) → ∀ k put, s.putInfo k = some put →
      t.putInfo k = some (put.abort (recordsNaming k [p]))) := by
  have unnamed : (∀ k, recordsNaming k [p] = 0) → ∀ k put, s.putInfo k = some put →
      s.putInfo k = some (put.abort (recordsNaming k [p])) := fun h k put hk => by
    rw [h k, put.abort_zero, hk]
  by_cases hempty : p.stretches = []
  · refine ⟨s, by simp [orphanPiece, hempty], .idle (.inr hempty) (.refl s) rfl, fun _ => unnamed fun k => ?_⟩
    simp [recordsNaming_singleton, hempty]
  cases hreloc : p.reloc with
  | true =>
    have hidle : p.acknowledgedHost = false := by simp [Piece.acknowledgedHost, hreloc]
    refine ⟨s, by simp [orphanPiece, hempty, hreloc], .idle (.inl hidle) (.refl s) rfl, fun _ => unnamed fun k => ?_⟩
    simp [recordsNaming_singleton, Piece.names, hreloc]
  | false =>
    cases hack : p.acknowledged with
    | true =>
      have hacts : p.acknowledgedHost = true := by simp [Piece.acknowledgedHost, hreloc, hack]
      obtain ⟨t, hlose, hres, hput⟩ := resolvePiece_spec (place := noPlace) (lostOf := lostAll) (asLost := true) hacts
        (fun _ => hempty) s held
      refine ⟨t, by simpa [orphanPiece, hempty, hreloc, hack, losePiece_eq] using hlose, hres, fun horigin k put hk => ?_⟩
      have hnames : p.names k = false := by simp [Piece.names, horigin rfl]
      rw [hput k put hk, hits_of_piece (fun r hr => insertsOf_piece hr)
        (fun _ => insertsOf_ne_nil (stretchesOf_singleton_ne_nil hempty) s.map), recordsNaming_singleton, hnames]
      exact congrArg some (put.resolve_zero.trans put.abort_zero.symm)
    | false =>
      have hidle : p.acknowledgedHost = false := by simp [Piece.acknowledgedHost, hack]
      refine ⟨(s.recordOutcome p.origin .aborted).movePieces p.origin p.stretches.length 0,
        by simp [orphanPiece, hempty, hreloc, hack], .idle (.inl hidle)
          ((piecesKept_recordOutcome s _ _).trans (piecesKept_movePieces _ _ _ _)) (by simp), fun _ k put hk => ?_⟩
      have hpos : 0 < p.stretches.length := List.length_pos_of_ne_nil hempty
      rw [putInfo_movePieces, putInfo_recordOutcome, recordsNaming_singleton]
      by_cases ho : p.origin = some k
      · simp [ho, hk, Piece.names, hreloc, PutInfo.abort, hpos]
      · simp [ho, hk, Piece.names, PutInfo.abort]

/-- The pieces of an orphaned order that failed, one after another. -/
theorem orphanPieces_spec (ps : List Piece) (s : State) (held : Nat) : ∃ t,
    ps.foldl orphanPiece (s, held + (stretchesOf ps).length) = (t, held) ∧
    Resolution noPlace lostAll Piece.acknowledgedHost (s.inUse + held) ps s t ∧
    ((∀ p ∈ ps, p.acknowledged = true → p.origin = none) → ∀ k put, s.putInfo k = some put →
      t.putInfo k = some (put.abort (recordsNaming k ps))) := by
  induction ps generalizing s with
  | nil => exact ⟨s, rfl, .nil _ s, fun _ k put hk => hk.trans (congrArg some put.abort_zero.symm)⟩
  | cons p ps ih =>
    have hlen : held + (stretchesOf (p :: ps)).length = held + (stretchesOf ps).length + p.stretches.length := by
      rw [stretchesOf_cons, List.length_append, List.length_map]
      omega
    obtain ⟨t, hfirst, hres, hput⟩ := orphanPiece_spec p s (held + (stretchesOf ps).length)
    obtain ⟨u, hrest, hres', hput'⟩ := ih t
    rw [hres.kept.inUse] at hres'
    rw [← Nat.add_assoc] at hres
    refine ⟨u, by rw [hlen, List.foldl_cons, hfirst, hrest], hres.append hres', fun horigin k put hk => ?_⟩
    have hmine := hput (horigin p List.mem_cons_self) k put hk
    rw [hput' (fun x hx => horigin x (List.mem_cons_of_mem p hx)) k _ hmine, PutInfo.abort_abort, ← recordsNaming_append]
    rfl

/-! ### The pieces of an order not orphaned that failed (R82, R83) -/

/-- A piece with attempts left, with the failure counted. -/
def Piece.failed (p : Piece) : Piece := { p with attempts := p.attempts + 1 }

theorem losePiece_failed (acc : State × Nat) (p : Piece) : losePiece acc p.failed = losePiece acc p := rfl

theorem failPiece_returns {p : Piece} (h : p.attempts < 2) (acc : State × Nat × List Fragment) :
    failPiece acc p = (acc.1, acc.2.1, acc.2.2 ++ p.failed.fragments) := by
  have hlt : p.attempts + 1 < 3 := by omega
  simp [failPiece, hlt, Piece.failed]

theorem failPiece_void {p : Piece} (h : ¬ p.attempts < 2) (he : p.stretches = []) (acc : State × Nat × List Fragment) :
    failPiece acc p = acc := by
  have hlt : ¬ p.attempts + 1 < 3 := by omega
  simp [failPiece, hlt, he]

theorem failPiece_loses {p : Piece} (h : ¬ p.attempts < 2) (he : p.stretches ≠ []) (acc : State × Nat × List Fragment) :
    failPiece acc p = ((losePiece (acc.1, acc.2.1) p).1, (losePiece (acc.1, acc.2.1) p).2, acc.2.2) := by
  have hlt : ¬ p.attempts + 1 < 3 := by omega
  simp only [failPiece, hlt, if_false, List.isEmpty_iff, he, ← losePiece_failed _ p]
  rfl

/-- A piece at its third failure that a Trim has not voided whole. -/
def Piece.gone (p : Piece) : Bool := !decide (p.attempts < 2) && !p.stretches.isEmpty

/-- The pieces at their third failure are lost in order, and the records of the others are gathered in order. -/
theorem failPieces_eq (ps : List Piece) (s : State) (held : Nat) (fs : List Fragment) :
    ps.foldl failPiece (s, held, fs) =
      (((ps.filter Piece.gone).foldl losePiece (s, held)).1, ((ps.filter Piece.gone).foldl losePiece (s, held)).2,
        fs ++ (ps.filter fun p => p.attempts < 2).flatMap fun p => p.failed.fragments) := by
  induction ps generalizing s held fs with
  | nil => simp
  | cons p ps ih =>
    by_cases h : p.attempts < 2
    · have hgone : p.gone = false := by simp [Piece.gone, h]
      rw [List.foldl_cons, failPiece_returns h, ih, List.filter_cons_of_neg (by simp [hgone]),
        List.filter_cons_of_pos (by simpa using h), List.flatMap_cons, List.append_assoc]
    · by_cases he : p.stretches = []
      · have hgone : p.gone = false := by simp [Piece.gone, he]
        rw [List.foldl_cons, failPiece_void h he, ih, List.filter_cons_of_neg (by simp [hgone]),
          List.filter_cons_of_neg (by simpa using h)]
      · have hgone : p.gone = true := by simp [Piece.gone, h, he]
        rw [List.foldl_cons, failPiece_loses h he, ih, List.filter_cons_of_pos hgone,
          List.filter_cons_of_neg (by simpa using h)]
        rfl

theorem stretchesOf_gone (ps : List Piece) :
    stretchesOf (ps.filter Piece.gone) = stretchesOf (ps.filter fun p => !(p.attempts < 2)) := stretchesOf_filter _ ps

theorem recordsNaming_gone (k : Key) (ps : List Piece) :
    recordsNaming k (ps.filter Piece.gone) = recordsNaming k (ps.filter fun p => !(p.attempts < 2)) := by
  rw [recordsNaming_eq, recordsNaming_eq, stretchesOf_gone]

/-- The records of an order: those that return, and those of the pieces at their third failure. -/
theorem records_split (ps : List Piece) : (stretchesOf ps).length =
    ((ps.filter fun p => p.attempts < 2).map (·.stretches.length)).sum + (stretchesOf (ps.filter Piece.gone)).length := by
  rw [stretchesOf_gone]
  induction ps with
  | nil => rfl
  | cons p ps ih =>
    rw [stretchesOf_cons, List.length_append, List.length_map, ih]
    by_cases h : p.attempts < 2
    · rw [List.filter_cons_of_pos (by simpa using h), List.filter_cons_of_neg (by simpa using h), List.map_cons, List.sum_cons]
      omega
    · rw [List.filter_cons_of_neg (by simpa using h), List.filter_cons_of_pos (by simpa using h), stretchesOf_cons,
        List.length_append, List.length_map]
      omega

/-- A Put is hit by LOST conversions exactly where they hold a record that names it. -/
theorem hits_lost {place : Piece → Stretch → Option Location} {acts : Piece → Bool} {others : Nat} (k : Key) (ps : List Piece)
    (m : List Entry) : hits true lostAll k (insertsOf place acts others (stretchesOf ps) m) = decide (0 < recordsNaming k ps) := by
  have hany : hits true lostAll k (insertsOf place acts others (stretchesOf ps) m) =
      ((insertsOf place acts others (stretchesOf ps) m).map (·.1)).any (·.names k) := by
    simp [hits, List.any_map, Function.comp_def]
  rw [hany, insertsOf_pieces, recordsNaming_eq, List.any_map, Bool.eq_iff_iff, decide_eq_true_iff, List.countP_pos_iff,
    List.any_eq_true]
  rfl

end Sys2Proof.Machine

namespace Sys2Proof.Machine

/-! PROOFS. A write order that completes DONE, or fails: its track, its pieces, its Puts and their answers (O50, O51). -/

/-! ### The band of a completed order (R11, R12) -/

theorem Band.complete_done (tracks : Nat) (b : Band) :
    (b.complete tracks false).completed = b.completed + 1 ∧ (b.complete tracks false).issued = b.issued ∧
    (b.complete tracks false).skipped = b.skipped ∧
    (b.state = .opened → b.completed + 1 = b.issued → b.issued = tracks →
      (b.complete tracks false).state = .full ∧ (b.complete tracks false).queue = none) := by
  unfold Band.complete
  by_cases h : b.state = .opened ∧ b.completed + 1 = b.issued ∧ b.issued = tracks
  · simp [h]
  · simp only [Bool.false_and, Bool.false_eq_true, if_false, and_false, h]
    exact ⟨trivial, trivial, trivial, fun ho hc hi => absurd ⟨ho, hc, hi⟩ h⟩

/-- The fourth skipped track closes an OPEN band; else the last track makes it FULL. -/
theorem Band.complete_failed (tracks : Nat) (b : Band) :
    let v := b.complete tracks true
    v.completed = b.completed + 1 ∧ v.issued = b.issued ∧ v.skipped = min 4 (b.skipped + 1) ∧
    v.retire = (b.retire || decide (3 ≤ b.skipped)) ∧
    (b.state ≠ .opened → v.state = b.state ∧ v.queue = b.queue) ∧
    (b.state = .opened → 3 ≤ b.skipped → v.state = .closed ∧ v.queue = none) ∧
    (b.state = .opened → b.skipped < 3 → b.completed + 1 = b.issued ∧ b.issued = tracks → v.state = .full ∧ v.queue = none) ∧
    (b.state = .opened → b.skipped < 3 → ¬ (b.completed + 1 = b.issued ∧ b.issued = tracks) →
      v.state = .opened ∧ v.queue = b.queue) := by
  have hreaches : 4 ≤ b.skipped + 1 ↔ 3 ≤ b.skipped := by omega
  simp only [Band.complete, Bool.true_and, if_true, hreaches, decide_eq_true_eq]
  by_cases ho : b.state = .opened
  · by_cases hs : 3 ≤ b.skipped
    · simp [ho, hs]
    · by_cases hl : b.completed + 1 = b.issued ∧ b.issued = tracks
      · simp [ho, hs, hl]
      · simp [ho, hs, hl]
  · simp [ho]

theorem completeBand_bands (s : State) (b : Nat) (failed : Bool) :
    (s.completeBand b failed).bands = s.bands.modify b (Band.complete (s.shapeOf b).tracks failed) := rfl

@[simp] theorem completeBand_queue (s : State) (b : Nat) (failed : Bool) (q : Fin 16) :
    (s.completeBand b failed).queue q = s.queue q := rfl

/-- A failed order's track is skipped, whatever its pieces' resolution left of the valid counts. -/
theorem trackSkipped_of_kept {s t y : State} {band : Nat} (h : PiecesKept s t)
    (hy : y.bands = t.bands.modify band (Band.complete (s.shapeOf band).tracks true)) : TrackSkipped s band y := by
  refine ⟨by rw [hy, List.length_modify, h.bands_length], fun b hb => ?_⟩
  obtain ⟨n, hn⟩ := h.band hb
  refine ⟨_, by rw [hy, List.getElem?_modify_eq, hn]; rfl, Band.complete_failed (s.shapeOf band).tracks { b with valid := n }⟩

/-! ### The answer of a Put whose last piece is resolved (R53, R81, R174) -/

/-- A durable Put filled, and a Put settled by a reset, is due with no piece outstanding. -/
theorem due_of_resolved {put x : PutInfo} (h : put.settling = true ∨ (put.durable = true ∧ put.next = put.count))
    (hs : x.settling = put.settling) (hd : x.durable = put.durable) (hn : x.next = put.next) (hc : x.count = put.count)
    (hp : x.pieces = 0) : x.due = true := by
  rw [PutInfo.due, PutInfo.filled, hs, hd, hn, hc, hp]
  rcases h with h | ⟨h, hfull⟩
  · simp [h]
  · simp [h, hfull]

theorem info_of_putInfo {s : State} {k : Key} {e : ReqEntry} {p : PutInfo} (he : s.entry k = some e)
    (hp : s.putInfo k = some p) : e.info = .put p := by
  rw [State.putInfo, he, Option.bind_some] at hp
  split at hp
  · next q hq =>
    split at hp
    · simp at hp
    · rw [hq, Option.some.inj hp]
  · simp at hp

theorem putInfo_of_entry {s : State} {k : Key} {e : ReqEntry} {p : PutInfo} (he : s.entry k = some e) (hi : e.info = .put p)
    (ha : e.answered = false) : s.putInfo k = some p := by
  simp [State.putInfo, he, hi, ha]

/-- An effect that leaves the table's keys and entries but for what they hold, the engine and the slots, and makes a Put due, has
the Put answered in its step. -/
theorem settle_answers_resolved {s X : State} {e : ReqEntry} {put : PutInfo} (hfits : s.tableFits)
    (hclean : s.engine.clean ≠ some e.key) (hslots : ∀ i, (s.slot i).state = .active → (s.slot i).key ≠ e.key)
    (ha : e.answered = false) (hd : e.discarded = false)
    (hput : X.putInfo e.key = some put) (hkeys : X.table.map (·.key) = s.table.map (·.key))
    (hX : ∃ i, X.entry e.key = some { e with info := i }) (hengine : X.engine = s.engine) (hslot : X.slots = s.slots)
    (hdue : put.due = true) (old : State) : e.putAnswer put ∈ ((X.settle old).port e.reply).txq := by
  obtain ⟨i, hi⟩ := hX
  have unclaimed : Unclaimed e.key X := by
    refine ⟨hengine ▸ hclean, fun j hj => ?_⟩
    rw [State.slot, hslot] at hj ⊢
    exact hslots j hj
  exact settle_answers (e := { e with info := i }) (hkeys ▸ hfits.distinct) unclaimed hi (info_of_putInfo hi hput) ha hd hdue old

/-! ### A write order out of the window -/

theorem exec_writeTrackCompletion (c : Completion) (s : State) :
    exec (.writeTrackCompletion c) s = finish s (s.takeCompletion 1 c) := rfl

theorem write_accepts {c : Completion} {w : WriteOrder} (hu : c.unreadable = []) (hs : c.status ≤ 3) :
    (Order.write w).accepts c = true := by
  simp [Order.accepts, hu, hs]

section
variable {s : State} {w : WriteOrder} {rest : List Order} {c : Completion}

/-- A write order that completes is handed over, DONE or not. -/
theorem exec_writeCompletes (hp : s.path = .ready) (hw : s.window = .write w :: rest) (hs : c.status ≤ 3)
    (hu : c.unreadable = []) (hc : c.check = checkValue (completionBytes 1 c)) : exec (.writeTrackCompletion c) s =
      finish s (if c.status = 0 then (s.oldestLeft rest).writeDone w else (s.oldestLeft rest).writeFailed w) := by
  rw [exec_writeTrackCompletion, takeCompletion_oldest hp hw hc rfl (write_accepts hu hs)]
  rfl

theorem exec_writeDone (hp : s.path = .ready) (hw : s.window = .write w :: rest) (hs : c.status = 0)
    (hu : c.unreadable = []) (hc : c.check = checkValue (completionBytes 1 c)) :
    exec (.writeTrackCompletion c) s = finish s ((s.oldestLeft rest).writeDone w) := by
  rw [exec_writeCompletes hp hw (by omega) hu hc, if_pos hs]

theorem exec_writeFailed (hp : s.path = .ready) (hw : s.window = .write w :: rest) (h1 : 1 ≤ c.status) (h3 : c.status ≤ 3)
    (hu : c.unreadable = []) (hc : c.check = checkValue (completionBytes 1 c)) :
    exec (.writeTrackCompletion c) s = finish s ((s.oldestLeft rest).writeFailed w) := by
  rw [exec_writeCompletes hp hw h3 hu hc, if_neg (by omega)]

end

/-! ### DONE (R80) -/

theorem records_eq (w : WriteOrder) : w.records = (stretchesOf w.pieces).length := (stretchesOf_length w.pieces).symm

/-- The inserts of an order that completes DONE. -/
def State.doneInserts (s : State) (w : WriteOrder) : List (Piece × Inserted) :=
  insertsOf (placeIn w.band (w.track * s.trackData w.band)) (fun _ => true) s.inUse (stretchesOf w.pieces) s.map

/-- What an order that completes DONE leaves: its pieces resolved, and then its band's track completed. -/
theorem writeDone_spec (s : State) (w : WriteOrder) : ∃ t, s.writeDone w = t.completeBand w.band false ∧
    Resolution (placeIn w.band (w.track * s.trackData w.band)) (·.dropped) (fun _ => true) s.inUse w.pieces s t ∧
    ∀ k put, s.putInfo k = some put → t.putInfo k = some (put.resolve (recordsNaming k w.pieces)
      (hits false (·.dropped) k (s.doneInserts w))) := by
  obtain ⟨t, hfold, hres, hput⟩ := resolvePieces_spec (place := placeIn w.band (w.track * s.trackData w.band))
    (lostOf := (·.dropped)) (asLost := false) w.pieces (by simp) s 0
  rw [Nat.add_zero] at hres hput
  refine ⟨t, ?_, hres, hput⟩
  rw [State.writeDone, enterPiece_eq, records_eq, ← Nat.zero_add (stretchesOf w.pieces).length, hfold]

/-- Settles O50, from the resolution of the order's pieces. -/
theorem writeCompletesDone : Obligations.WriteCompletesDone := by
  intro s w rest c hp hw hs hu hc
  obtain ⟨t, hX, hres, hput⟩ := writeDone_spec (s.oldestLeft rest) w
  have hexec := exec_writeDone hp hw hs hu hc
  have kept := hres.kept
  refine ⟨⟨_, gives_of_finish hexec, ?effect⟩, fun e put he hi ha hd hdue hpieces hfits hclean hslots =>
    ⟨_, hexec, ?answer⟩⟩
  case effect =>
    rw [hX]
    obtain ⟨_, _, _, _, _, hfields⟩ := kept.only
    refine ⟨?_, ?_, ?_, ?_, ?_, ?_, ?_, ?_, fun b hb => ?band, hres.map, hput, fun r hr => hres.dataLost r hr⟩
    case band =>
      rw [completeBand_bands, kept.shapeOf, List.getElem?_modify_eq, Option.map_eq_map, Option.map_eq_some_iff] at hb
      obtain ⟨b1, hb1, rfl⟩ := hb
      obtain ⟨b0, n, hb0, rfl⟩ := kept.band_of hb1
      exact ⟨b0, hb0, Band.complete_done _ _⟩
    all_goals rw [hfields]; rfl
  case answer =>
    rw [hX]
    have hk := hput e.key put (putInfo_of_entry he hi ha)
    exact settle_answers_resolved (X := t.completeBand w.band false) hfits hclean hslots ha hd hk kept.keys
      (kept.entries e.key e he) kept.engine kept.slots
      (due_of_resolved hdue rfl rfl rfl rfl (Nat.sub_eq_zero_of_le hpieces)) s

/-! ### Otherwise (R82, R83, R174) -/

/-- The records of the pieces that return. -/
def returnedRecords (w : WriteOrder) : Nat := ((w.pieces.filter fun p => p.attempts < 2).map (·.stretches.length)).sum

theorem failureInserts_returned {s : State} {w : WriteOrder} (h : w.orphaned = false) : s.failureInserts w =
    insertsOf noPlace (fun _ => true) (s.inUse + returnedRecords w) (stretchesOf (w.pieces.filter Piece.gone)) s.map := by
  rw [State.failureInserts, h, if_neg Bool.false_ne_true, stretchesOf_gone]
  rfl

theorem failureInserts_orphaned {s : State} {w : WriteOrder} (h : w.orphaned = true) :
    s.failureInserts w = insertsOf noPlace Piece.acknowledgedHost s.inUse (stretchesOf w.pieces) s.map := by
  rw [State.failureInserts, h, if_pos rfl]
  rfl

/-- What the failure of an order not orphaned leaves: the pieces at their third failure lost, the records of the others ahead of
its queue's, and its band's track skipped. -/
theorem writeFailed_returned {s : State} {w : WriteOrder} (h : w.orphaned = false) : ∃ t, s.writeFailed w =
      (t.modQueue w.queue fun q => { q with
        records := ((w.pieces.filter fun p => p.attempts < 2).flatMap fun p => p.failed.fragments) ++ q.records }).completeBand
          w.band true ∧
    Resolution noPlace lostAll (fun _ => true) (s.inUse + returnedRecords w) (w.pieces.filter Piece.gone) s t ∧
    (∀ k put, s.putInfo k = some put → t.putInfo k = some (put.resolve (recordsNaming k (w.pieces.filter Piece.gone))
      (hits true lostAll k (s.failureInserts w)))) ∧
    (w.pieces.filter Piece.gone = [] → t = s) := by
  have hgone : ∀ p ∈ w.pieces.filter Piece.gone, p.stretches ≠ [] := by
    intro p hp hs
    simp [Piece.gone, hs] at hp
  obtain ⟨t, hfold, hres, hput⟩ := resolvePieces_spec (place := noPlace) (lostOf := lostAll) (asLost := true)
    (w.pieces.filter Piece.gone) (fun _ => hgone) s (returnedRecords w)
  refine ⟨t, ?shape, hres, fun k put hk => failureInserts_returned h ▸ hput k put hk, fun hnone => ?same⟩
  case shape =>
    have hrecords : w.records = returnedRecords w + (stretchesOf (w.pieces.filter Piece.gone)).length :=
      (records_eq w).trans (records_split w.pieces)
    simp only [State.writeFailed, h, failPieces_eq, losePiece_eq, hrecords, hfold]
    rfl
  case same =>
    rw [hnone] at hfold
    exact (congrArg Prod.fst hfold).symm

/-- What the failure of an orphaned order leaves: nothing returns. -/
theorem writeFailed_orphaned {s : State} {w : WriteOrder} (h : w.orphaned = true) : ∃ t,
    s.writeFailed w = t.completeBand w.band true ∧
    Resolution noPlace lostAll Piece.acknowledgedHost s.inUse w.pieces s t ∧
    ((∀ p ∈ w.pieces, p.acknowledged = true → p.origin = none) → ∀ k put, s.putInfo k = some put →
      t.putInfo k = some (put.abort (recordsNaming k w.pieces))) := by
  obtain ⟨t, hfold, hres, hput⟩ := orphanPieces_spec w.pieces s 0
  rw [Nat.add_zero] at hres
  refine ⟨t, ?_, hres, hput⟩
  rw [State.writeFailed, h, if_pos rfl, records_eq, ← Nat.zero_add (stretchesOf w.pieces).length, hfold]

/-- An order not orphaned that fails leaves what FailedWrite says. -/
theorem failedWrite_returned {s : State} {w : WriteOrder} (h : w.orphaned = false) : FailedWrite s w (s.writeFailed w) := by
  obtain ⟨t, hX, hres, hput, hsame⟩ := writeFailed_returned (s := s) h
  have kept := hres.kept
  have inserts := failureInserts_returned (s := s) h
  have ownQueue : ∀ q, t.queue q = s.queue q := State.queue_congr kept.queues
  rw [hX]
  exact {
    track := trackSkipped_of_kept kept (by rw [completeBand_bands, State.modQueue_bands, ← kept.shapeOf]; rfl)
    window := kept.window
    returned := fun _ => by
      rw [completeBand_queue, State.modQueue_queue, if_pos rfl, ownQueue]
      rfl
    otherQueues := fun q hq => by
      rw [completeBand_queue, State.modQueue_queue, if_neg hq.symm, ownQueue]
    noneReturned := fun ho => absurd (ho.symm.trans h) Bool.noConfusion
    allReturned := fun _ hall => by
      have hnone : w.pieces.filter Piece.gone = [] := by
        rw [List.filter_eq_nil_iff]
        exact fun p hp hgone => by simp [Piece.gone, hall p hp] at hgone
      exact hsame hnone ▸ ⟨rfl, rfl⟩
    map := by rw [inserts]; exact hres.map
    lostPuts := fun _ k put hk => by
      have hres' := hput k put hk
      rw [inserts, hits_lost, recordsNaming_gone] at hres'
      exact hres'
    orphanPuts := fun ho => absurd (ho.symm.trans h) Bool.noConfusion
    dataLost := fun r hr => by
      rw [inserts] at hr
      exact hres.dataLost r hr }

theorem failedWrite_orphaned {s : State} {w : WriteOrder} (h : w.orphaned = true) : FailedWrite s w (s.writeFailed w) := by
  obtain ⟨t, hX, hres, hput⟩ := writeFailed_orphaned (s := s) h
  have kept := hres.kept
  have inserts := failureInserts_orphaned (s := s) h
  rw [hX]
  exact {
    track := trackSkipped_of_kept kept (by rw [completeBand_bands, kept.shapeOf])
    window := kept.window
    returned := fun ho => absurd (h.symm.trans ho) Bool.noConfusion
    otherQueues := fun q _ => State.queue_congr kept.queues q
    noneReturned := fun _ => kept.queues
    allReturned := fun ho => absurd (h.symm.trans ho) Bool.noConfusion
    map := by rw [inserts]; exact hres.map
    lostPuts := fun ho => absurd (h.symm.trans ho) Bool.noConfusion
    orphanPuts := fun _ hack k put hk => hput hack k put hk
    dataLost := fun r hr => by
      rw [inserts] at hr
      exact hres.dataLost r hr }

/-- R12, R82, R83, R174: the failure of a write order, out of the window already. -/
theorem failedWrite (s : State) (w : WriteOrder) : FailedWrite s w (s.writeFailed w) := by
  cases h : w.orphaned with
  | true => exact failedWrite_orphaned h
  | false => exact failedWrite_returned h

/-- Settles O51, from the resolution of the order's pieces. -/
theorem writeFails : Obligations.WriteFails := by
  intro s w rest c hp hw h1 h3 hu hc
  have hexec := exec_writeFailed hp hw h1 h3 hu hc
  refine ⟨⟨_, gives_of_finish hexec, failedWrite (s.oldestLeft rest) w⟩, fun ho e put he hi ha hd hdue hpieces hfits hclean
    hslots => ⟨_, hexec, ?_⟩⟩
  obtain ⟨t, hX, hres, _⟩ := writeFailed_returned (s := s.oldestLeft rest) ho
  have kept := hres.kept
  have hk := (failedWrite (s.oldestLeft rest) w).lostPuts ho e.key put (putInfo_of_entry he hi ha)
  rw [hX] at hk ⊢
  exact settle_answers_resolved hfits hclean hslots ha hd hk kept.keys (kept.entries e.key e he) kept.engine kept.slots
    (due_of_resolved hdue rfl rfl rfl rfl (Nat.sub_eq_zero_of_le hpieces)) s

end Sys2Proof.Machine

namespace Sys2Proof.Machine

/-! PROOFS. The Extent Map: its form as a relation between entries, what it holds for a sector, and both under a cut and under the
merging of neighbours (O12). -/

/-! ### The form of the map (R21) -/

/-- An entry ends at or before the start of another. -/
abbrev Entry.before (e f : Entry) : Prop := e.start + e.length ≤ f.start

theorem mapSorted_cons {e : Entry} {m : List Entry} :
    mapSorted (e :: m) = true ↔ 1 ≤ e.length ∧ (∀ f ∈ m, e.before f) ∧ mapSorted m = true := by
  induction m generalizing e with
  | nil => simp [mapSorted]
  | cons f m ih =>
    simp only [mapSorted, Bool.and_eq_true, decide_eq_true_eq, List.forall_mem_cons, and_assoc]
    refine and_congr_right fun _ => and_congr_right fun hef => ⟨fun h => ⟨fun g hg => ?_, h⟩, And.right⟩
    have hfg := (ih.mp h).2.1 g hg
    simp only [Entry.before, Entry.stop] at hef hfg ⊢
    omega

/-- The map is in form where no entry is empty and each ends before the next ones begin. -/
theorem mapSorted_iff {m : List Entry} :
    mapSorted m = true ↔ (∀ e ∈ m, 1 ≤ e.length) ∧ m.Pairwise Entry.before := by
  induction m with
  | nil => simp [mapSorted]
  | cons e m ih =>
    rw [mapSorted_cons, ih, List.forall_mem_cons, List.pairwise_cons]
    tauto

theorem mapSorted_append {m m' : List Entry} : mapSorted (m ++ m') = true ↔
    mapSorted m = true ∧ mapSorted m' = true ∧ ∀ e ∈ m, ∀ f ∈ m', e.before f := by
  simp only [mapSorted_iff, List.forall_mem_append, List.pairwise_append]
  tauto

/-- Distinct entries of a map in form lie one before the other. -/
theorem mapSorted_apart {m : List Entry} (h : mapSorted m = true) {e f : Entry} (he : e ∈ m) (hf : f ∈ m) (hne : e ≠ f) :
    e.before f ∨ f.before e := by
  have : Std.Symm fun e f : Entry => e.before f ∨ f.before e := ⟨fun _ _ => Or.symm⟩
  have hsym : m.Pairwise fun e f => e.before f ∨ f.before e := (mapSorted_iff.mp h).2.imp Or.inl
  exact hsym.forall he hf hne

/-! ### What an entry and a map hold for a sector (R20, R23) -/

/-- An LSA an entry covers. -/
def Entry.has (e : Entry) (x : Nat) : Prop := e.start ≤ x ∧ x < e.start + e.length

/-- Two entries of a map in form that cover one LSA are the same. -/
theorem mapSorted_unique {m : List Entry} (h : mapSorted m = true) {e f : Entry} (he : e ∈ m) (hf : f ∈ m) {x : Nat}
    (hex : e.has x) (hfx : f.has x) : e = f := by
  by_contra hne
  have hapart := mapSorted_apart h he hf hne
  simp only [Entry.has, Entry.before] at hex hfx hapart
  omega

/-- What an entry holds for a sector: none where it does not cover it. -/
def Entry.holds (e : Entry) (x : Nat) : Option (Nat × Option Location) :=
  if e.start ≤ x ∧ x < e.start + e.length then some (e.sequence, e.placeOf x) else none

theorem Entry.holds_of_has {e : Entry} {x : Nat} (h : e.has x) : e.holds x = some (e.sequence, e.placeOf x) := if_pos h

theorem Entry.holds_of_not_has {e : Entry} {x : Nat} (h : ¬ e.has x) : e.holds x = none := if_neg h

@[simp] theorem content_nil (x : Nat) : content [] x = none := rfl

theorem content_cons (e : Entry) (m : List Entry) (x : Nat) : content (e :: m) x = (e.holds x).or (content m x) := by
  by_cases h : e.has x
  · rw [Entry.holds_of_has h]
    obtain ⟨hstart, hstop⟩ := h
    simp [content, lookup, hstart, hstop]
  · rw [Entry.holds_of_not_has h, Option.none_or]
    have hmiss : (decide (e.start ≤ x) && decide (x < e.stop)) = false := by
      simpa [Entry.has] using h
    simp [content, lookup, hmiss]

theorem content_append (m m' : List Entry) (x : Nat) : content (m ++ m') x = (content m x).or (content m' x) := by
  induction m with
  | nil => rfl
  | cons e m ih => rw [List.cons_append, content_cons, content_cons, ih, Option.or_assoc]

theorem content_eq_none_iff {m : List Entry} {x : Nat} : content m x = none ↔ ∀ e ∈ m, ¬ e.has x := by
  induction m with
  | nil => simp
  | cons e m ih =>
    rw [content_cons, Option.or_eq_none_iff, ih, List.forall_mem_cons]
    simp [Entry.holds, Entry.has]

/-- A map in form holds for a sector what its entry that covers the sector holds. -/
theorem content_of_mem {m : List Entry} (h : mapSorted m = true) {e : Entry} (he : e ∈ m) {x : Nat} (hx : e.has x) :
    content m x = some (e.sequence, e.placeOf x) := by
  induction m with
  | nil => cases he
  | cons f m ih =>
    rw [content_cons]
    by_cases hf : f.has x
    · rw [mapSorted_unique h he List.mem_cons_self hx hf, Entry.holds_of_has hf, Option.some_or]
    · have hmem : e ∈ m := (List.mem_cons.mp he).resolve_left fun heq => hf (heq ▸ hx)
      rw [Entry.holds_of_not_has hf, Option.none_or, ih (mapSorted_cons.mp h).2.2 hmem]

/-! ### Cuts (R26, R33) -/

/-- The parts an entry leaves outside a range. -/
theorem Entry.mem_outside {a b : Nat} {e x : Entry} : x ∈ e.outside a b ↔
    (e.start < a ∧ x = { e with length := min e.stop a - e.start }) ∨ (b < e.stop ∧ x = e.advance (b - e.start)) := by
  simp [Entry.outside]

/-- A part left lies in the entry and outside the range, and is not empty. -/
theorem Entry.outside_bounds {a b : Nat} {e x : Entry} (he : 1 ≤ e.length) (hx : x ∈ e.outside a b) :
    1 ≤ x.length ∧ e.start ≤ x.start ∧ x.start + x.length ≤ e.start + e.length ∧ (x.start + x.length ≤ a ∨ b ≤ x.start) := by
  rcases Entry.mem_outside.mp hx with ⟨ha, rfl⟩ | ⟨hb, rfl⟩
  · simp only [Entry.stop]
    omega
  · simp only [Entry.advance, Entry.stop] at hb ⊢
    omega

theorem cutRange_eq {a b : Nat} (h : a < b) (m : List Entry) : cutRange a b m = m.flatMap (Entry.outside a b) := if_pos h

/-- R26: a cut leaves a map in form. -/
theorem mapSorted_cutRange {m : List Entry} (h : mapSorted m = true) {a b : Nat} (hab : a < b) :
    mapSorted (cutRange a b m) = true := by
  obtain ⟨hpos, hbefore⟩ := mapSorted_iff.mp h
  rw [cutRange_eq hab, mapSorted_iff, List.pairwise_flatMap]
  refine ⟨fun x hx => ?_, fun e he => ?_, hbefore.imp_of_mem fun {e f} he hf hef x hx y hy => ?_⟩
  · obtain ⟨e, he, hx⟩ := List.mem_flatMap.mp hx
    exact (Entry.outside_bounds (hpos e he) hx).1
  · unfold Entry.outside
    split
    · split
      · simp only [List.cons_append, List.nil_append, List.pairwise_pair, Entry.advance, Entry.before, Entry.stop]
        omega
      · simp
    · split <;> simp
  · have hxe := Entry.outside_bounds (hpos e he) hx
    have hyf := Entry.outside_bounds (hpos f hf) hy
    simp only [Entry.before] at hef ⊢
    omega

/-- The part of an entry before an LSA holds what the entry held there. -/
theorem Entry.holds_truncate (e : Entry) (a x : Nat) :
    Entry.holds { e with length := min e.stop a - e.start } x = if x < a then e.holds x else none := by
  simp only [Entry.holds, Entry.stop, ← ite_and]
  exact if_congr (by omega) rfl rfl

/-- An entry that begins later holds what it held from there on. -/
theorem Entry.holds_advance (e : Entry) (k x : Nat) :
    (e.advance k).holds x = if e.start + k ≤ x then e.holds x else none := by
  by_cases hx : e.start + k ≤ x
  · have hplace : (e.advance k).placeOf x = e.placeOf x := by
      simp only [Entry.placeOf, Entry.advance, Option.map_map]
      congr 1
      funext d
      simp only [Function.comp_apply, Location.mk.injEq, true_and]
      omega
    rw [if_pos hx, Entry.holds, Entry.holds, hplace]
    simp only [Entry.advance]
    exact if_congr (by omega) rfl rfl
  · rw [if_neg hx]
    exact Entry.holds_of_not_has fun h => hx h.1

/-- The parts left hold what the entry held outside the range. -/
theorem Entry.content_outside {a b : Nat} (hab : a < b) (e : Entry) (x : Nat) :
    content (e.outside a b) x = if a ≤ x ∧ x < b then none else e.holds x := by
  have hbefore : content (if e.start < a then [{ e with length := min e.stop a - e.start }] else []) x =
      if x < a then e.holds x else none := by
    split
    · rw [content_cons, content_nil, Option.or_none, Entry.holds_truncate]
    · refine (ite_eq_right_iff.mpr fun hx => Entry.holds_of_not_has fun h => ?_).symm
      have := h.1
      omega
  have hafter : content (if b < e.stop then [e.advance (b - e.start)] else []) x = if b ≤ x then e.holds x else none := by
    split
    · rw [content_cons, content_nil, Option.or_none, Entry.holds_advance]
      by_cases he : e.start ≤ x
      · exact if_congr (by omega) rfl rfl
      · rw [Entry.holds_of_not_has fun h => he h.1, ite_self, ite_self]
    · next hb =>
      refine (ite_eq_right_iff.mpr fun hx => Entry.holds_of_not_has fun h => hb ?_).symm
      exact lt_of_le_of_lt hx h.2
  rw [Entry.outside, content_append, hbefore, hafter]
  by_cases hxa : x < a
  · rw [if_pos hxa, if_neg (by omega), if_neg (by omega), Option.or_none]
  · rw [if_neg hxa, Option.none_or]
    by_cases hxb : b ≤ x
    · rw [if_pos hxb, if_neg (by omega)]
    · rw [if_neg hxb, if_pos (by omega)]

/-- R33: a Trim's range is unwritten after it, and every other sector holds what it held. -/
theorem content_cutRange {a b : Nat} (hab : a < b) (m : List Entry) (x : Nat) :
    content (cutRange a b m) x = if a ≤ x ∧ x < b then none else content m x := by
  rw [cutRange_eq hab]
  induction m with
  | nil => simp
  | cons e m ih =>
    rw [List.flatMap_cons, content_append, Entry.content_outside hab, ih, content_cons]
    split <;> rfl

/-- The part of an entry before a range is left by a cut. -/
theorem mem_cutRange_of_mem_outside {a b : Nat} (hab : a < b) {m : List Entry} {e x : Entry} (he : e ∈ m)
    (hx : x ∈ e.outside a b) : x ∈ cutRange a b m := by
  rw [cutRange_eq hab]
  exact List.mem_flatMap.mpr ⟨e, he, hx⟩

/-- An entry that does not reach into a range is left as it is. -/
theorem Entry.self_mem_outside {a b : Nat} {e : Entry} (he : 1 ≤ e.length) (h : Outside a b e.start e.stop) :
    e ∈ e.outside a b := by
  simp only [Outside, Entry.stop] at h
  rw [Entry.mem_outside]
  rcases h with h | h
  · refine .inl ⟨by omega, ?_⟩
    rw [show min e.stop a - e.start = e.length by simp only [Entry.stop]; omega]
  · refine .inr ⟨by simp only [Entry.stop]; omega, ?_⟩
    obtain ⟨start, length, sequence, location⟩ := e
    have hk : b - start = 0 := by simpa [Nat.sub_eq_zero_iff_le] using h
    simp [Entry.advance, hk]

/-- Settles O12, by the parts each entry leaves outside the range. -/
theorem trimOfTheMap : Obligations.TrimOfTheMap := by
  intro m a b hm hab
  refine ⟨mapSorted_cutRange hm hab, content_cutRange hab m, fun e he =>
    ⟨fun hout => ?_, fun hstart hstop => ?_, fun _ hstop => ?_⟩⟩
  · exact mem_cutRange_of_mem_outside hab he (Entry.self_mem_outside ((mapSorted_iff.mp hm).1 e he) hout)
  · refine mem_cutRange_of_mem_outside hab he (Entry.mem_outside.mpr (.inl ⟨hstart, ?_⟩))
    rw [min_eq_right hstop.le]
  · exact mem_cutRange_of_mem_outside hab he (Entry.mem_outside.mpr (.inr ⟨hstop, rfl⟩))

end Sys2Proof.Machine

namespace Sys2Proof.Machine

/-! PROOFS. A new entry put into the Extent Map (R27): neighbours merged one pair at a time, and what that leaves of the map's form,
of what it holds for each sector, and of its entries' starts. -/

/-! ### Neighbours merged -/

/-- m' is m with neighbours merged, each pair at one of the LSAs named. -/
inductive Merges (at_ : List Nat) : List Entry → List Entry → Prop where
  | refl (m : List Entry) : Merges at_ m m
  | join {l r m' : List Entry} {x y : Entry} (hxy : x.joins y = true) (hat : y.start ∈ at_)
      (h : Merges at_ (l ++ x.join y :: r) m') : Merges at_ (l ++ x :: y :: r) m'

theorem Entry.joins_iff {x y : Entry} : x.joins y = true ↔ ∃ d f, x.location = some d ∧ y.location = some f ∧
    x.sequence = y.sequence ∧ x.stop = y.start ∧ d.band = f.band ∧ d.index + x.length = f.index := by
  unfold Entry.joins
  split
  · next d f hx hy => simp [hx, hy, and_assoc]
  · next hnone =>
    simp only [Bool.false_eq_true, false_iff]
    rintro ⟨d, f, hx, hy, _⟩
    exact hnone d f hx hy

/-- Entries that merge meet. -/
theorem Entry.joins_start {x y : Entry} (h : x.joins y = true) : y.start = x.start + x.length := by
  obtain ⟨_, _, _, _, _, hmeet, _⟩ := Entry.joins_iff.mp h
  exact hmeet.symm

/-- The merged entry holds what the two held. -/
theorem Entry.holds_join {x y : Entry} (h : x.joins y = true) (z : Nat) : (x.join y).holds z = (x.holds z).or (y.holds z) := by
  obtain ⟨d, f, hd, hf, hseq, hmeet, hband, hindex⟩ := Entry.joins_iff.mp h
  simp only [Entry.stop] at hmeet
  by_cases hx : x.has z
  · have hjoin : (x.join y).has z := ⟨hx.1, by have := hx.2; simp only [Entry.join]; omega⟩
    rw [Entry.holds_of_has hx, Entry.holds_of_has hjoin, Option.some_or]
    rfl
  · by_cases hy : y.has z
    · have hjoin : (x.join y).has z := by
        obtain ⟨hstart, hstop⟩ := hy
        exact ⟨by simp only [Entry.join]; omega, by simp only [Entry.join]; omega⟩
      have hplace : d.index + (z - x.start) = f.index + (z - y.start) := by
        have := hy.1
        omega
      rw [Entry.holds_of_not_has hx, Entry.holds_of_has hy, Entry.holds_of_has hjoin, Option.none_or]
      simp [Entry.join, Entry.placeOf, hd, hf, hseq, hband, hplace]
    · rw [Entry.holds_of_not_has hx, Entry.holds_of_not_has hy, Option.or_none]
      refine Entry.holds_of_not_has fun hjoin => ?_
      simp only [Entry.has, Entry.join] at hx hy hjoin
      omega

namespace Merges
variable {at_ : List Nat} {m m' : List Entry}

theorem sorted (h : Merges at_ m m') (hm : mapSorted m = true) : mapSorted m' = true := by
  induction h with
  | refl m => exact hm
  | @join l r _ x y hxy _ _ ih =>
    apply ih
    have hmeet := Entry.joins_start hxy
    simp only [mapSorted_append, mapSorted_cons, List.forall_mem_cons, Entry.before] at hm
    obtain ⟨hl, ⟨hx, _, hy, hyr, hr⟩, hlr⟩ := hm
    have hlong : (x.join y).start + (x.join y).length = y.start + y.length := by
      simp only [Entry.join]
      omega
    rw [mapSorted_append, mapSorted_cons]
    refine ⟨hl, ⟨?_, fun f hf => ?_, hr⟩, ?_⟩
    · simp only [Entry.join]
      omega
    · exact hlong.trans_le (hyr f hf)
    · intro e he f hf
      obtain ⟨hex, _, her⟩ := hlr e he
      rcases List.mem_cons.mp hf with rfl | hf
      · exact hex
      · exact her f hf

theorem content_eq (h : Merges at_ m m') (z : Nat) : content m' z = content m z := by
  induction h with
  | refl m => rfl
  | join hxy _ _ ih =>
    rw [ih, content_append, content_append, content_cons, content_cons, content_cons, Entry.holds_join hxy, Option.or_assoc]

theorem starts (h : Merges at_ m m') : ∀ e ∈ m', e.start ∈ m.map (·.start) := by
  induction h with
  | refl m => exact fun e he => List.mem_map_of_mem he
  | join _ _ _ ih =>
    intro e he
    have := ih e he
    simp only [List.map_append, List.map_cons, List.mem_append, List.mem_cons, Entry.join] at this ⊢
    tauto

/-- An LSA inside a merged entry is inside one of those it was merged from, or one at which they were merged. -/
theorem inside (h : Merges at_ m m') {z : Nat} (hz : z ∉ at_) :
    ∀ e ∈ m', e.start < z → z < e.start + e.length → ∃ f ∈ m, f.start < z ∧ z < f.start + f.length := by
  induction h with
  | refl m => exact fun e he hstart hstop => ⟨e, he, hstart, hstop⟩
  | @join l r _ x y hxy hat _ ih =>
    intro e he hstart hstop
    obtain ⟨f, hf, hfstart, hfstop⟩ := ih e he hstart hstop
    rcases List.mem_append.mp hf with hl | hf
    · exact ⟨f, by simp [hl], hfstart, hfstop⟩
    · rcases List.mem_cons.mp hf with rfl | hr
      · have hmeet := Entry.joins_start hxy
        have hne : z ≠ y.start := fun heq => hz (heq ▸ hat)
        simp only [Entry.join] at hfstart hfstop
        rcases Nat.lt_or_ge z y.start with hlt | hge
        · exact ⟨x, by simp, hfstart, by omega⟩
        · exact ⟨y, by simp, by omega, by omega⟩
      · exact ⟨f, by simp [hr], hfstart, hfstop⟩

end Merges

/-! ### A new entry in its place -/

/-- An entry in front of the rest of a map, merged with the first of it where R27 says so. -/
def Entry.joinNext (x : Entry) : List Entry → List Entry
  | [] => [x]
  | f :: rest => if x.joins f then x.join f :: rest else x :: f :: rest

/-- An entry begins before another. -/
abbrev startsBefore (n e : Entry) : Bool := decide (e.start < n.start)

theorem merges_joinNext {at_ : List Nat} (l r : List Entry) {x : Entry} (hx : x.start + x.length ∈ at_) :
    Merges at_ (l ++ x :: r) (l ++ x.joinNext r) := by
  cases r with
  | nil => exact .refl _
  | cons f rest =>
    rw [Entry.joinNext]
    split
    · next hjoin => exact .join hjoin (Entry.joins_start hjoin ▸ hx) (.refl _)
    · exact .refl _

section
variable {m l : List Entry} {n p : Entry}

theorem addEntry_first (h : m.takeWhile (startsBefore n) = []) :
    addEntry m n = n.joinNext (m.dropWhile (startsBefore n)) := by
  unfold addEntry
  simp only [h]
  cases m.dropWhile (startsBefore n) <;> rfl

theorem addEntry_joined (h : m.takeWhile (startsBefore n) = l ++ [p]) (hjoin : p.joins n = true) :
    addEntry m n = l ++ (p.join n).joinNext (m.dropWhile (startsBefore n)) := by
  unfold addEntry
  simp only [h, List.getLast?_append, List.getLast?_singleton, Option.some_or, hjoin, if_true, List.dropLast_concat]
  cases m.dropWhile (startsBefore n) with
  | nil => rfl
  | cons f rest => exact (apply_ite (l ++ ·) _ _ _).symm

theorem addEntry_apart (h : m.takeWhile (startsBefore n) = l ++ [p]) (hapart : ¬ p.joins n = true) :
    addEntry m n = l ++ [p] ++ n.joinNext (m.dropWhile (startsBefore n)) := by
  unfold addEntry
  simp only [h, List.getLast?_append, List.getLast?_singleton, Option.some_or, hapart]
  cases m.dropWhile (startsBefore n) with
  | nil => rfl
  | cons f rest => exact (apply_ite (l ++ [p] ++ ·) _ _ _).symm

end

/-- R27: a new entry put in its place merges with the entry before it and the entry after it at most. -/
theorem merges_addEntry (m : List Entry) (n : Entry) : Merges [n.start, n.start + n.length]
    (m.takeWhile (startsBefore n) ++ n :: m.dropWhile (startsBefore n)) (addEntry m n) := by
  rcases List.eq_nil_or_concat (m.takeWhile (startsBefore n)) with hl | ⟨l, p, hl⟩
  · rw [addEntry_first hl, hl]
    exact merges_joinNext [] _ (by simp)
  · rw [List.concat_eq_append] at hl
    by_cases hjoin : p.joins n = true
    · rw [addEntry_joined hl hjoin, hl, List.append_assoc, List.singleton_append]
      have hend : (p.join n).start + (p.join n).length = n.start + n.length := by
        have := Entry.joins_start hjoin
        simp only [Entry.join]
        omega
      exact .join hjoin (by simp) (merges_joinNext l _ (by simp [hend]))
    · rw [addEntry_apart hl hjoin, hl]
      exact merges_joinNext _ _ (by simp)

/-- An entry lies apart from every entry of a map. -/
def Entry.apart (n : Entry) (m : List Entry) : Prop := ∀ e ∈ m, e.before n ∨ n.before e

section
variable {m : List Entry} {n : Entry}

theorem before_of_mem_takeWhile (hn : 1 ≤ n.length) (hout : n.apart m) {e : Entry}
    (he : e ∈ m.takeWhile (startsBefore n)) : e.before n := by
  have hstart : e.start < n.start := by simpa using List.mem_takeWhile_imp he
  rcases hout e ((List.takeWhile_prefix _).subset he) with h | h
  · exact h
  · simp only [Entry.before] at h
    omega

theorem start_le_of_mem_dropWhile (hm : mapSorted m = true) {e : Entry} (he : e ∈ m.dropWhile (startsBefore n)) :
    n.start ≤ e.start := by
  have hsorted := (mapSorted_iff.mp hm).2.sublist (List.dropWhile_sublist (startsBefore n))
  have hhead := List.head_dropWhile_not (p := startsBefore n) (l := m)
  cases hd : m.dropWhile (startsBefore n) with
  | nil => simp [hd] at he
  | cons f rest =>
    simp only [hd, List.head_cons, decide_eq_false_iff_not, List.pairwise_cons, ne_eq, List.cons_ne_nil, not_false_eq_true,
      forall_const] at hhead hsorted
    rcases List.mem_cons.mp (hd ▸ he) with rfl | hrest
    · omega
    · have := hsorted.1 e hrest
      simp only [Entry.before] at this
      omega

theorem before_of_mem_dropWhile (hm : mapSorted m = true) (hout : n.apart m) {e : Entry}
    (he : e ∈ m.dropWhile (startsBefore n)) : n.before e := by
  have hmem : e ∈ m := (List.dropWhile_suffix _).subset he
  have hpos : 1 ≤ e.length := (mapSorted_iff.mp hm).1 e hmem
  have hstart := start_le_of_mem_dropWhile hm he
  rcases hout e hmem with h | h
  · simp only [Entry.before] at h
    omega
  · exact h

/-- R27: a new entry apart from those of a map in form leaves the map in form. -/
theorem mapSorted_addEntry (hm : mapSorted m = true) (hn : 1 ≤ n.length) (hout : n.apart m) :
    mapSorted (addEntry m n) = true := by
  apply (merges_addEntry m n).sorted
  have hsplit : mapSorted (m.takeWhile (startsBefore n) ++ m.dropWhile (startsBefore n)) = true := by
    rwa [List.takeWhile_append_dropWhile]
  obtain ⟨hbefore, hafter, hapart⟩ := mapSorted_append.mp hsplit
  have htail := mapSorted_cons.mpr ⟨hn, fun f => before_of_mem_dropWhile hm hout, hafter⟩
  refine mapSorted_append.mpr ⟨hbefore, htail, fun e he f hf => ?_⟩
  rcases List.mem_cons.mp hf with rfl | hf
  · exact before_of_mem_takeWhile hn hout he
  · exact hapart e he f hf

/-- A new entry apart from those of a map holds its own sectors, and the map the others. -/
theorem content_addEntry (hout : n.apart m) (x : Nat) : content (addEntry m n) x = (n.holds x).or (content m x) := by
  rw [(merges_addEntry m n).content_eq, content_append, content_cons]
  conv_rhs => rw [← List.takeWhile_append_dropWhile (p := startsBefore n) (l := m), content_append]
  by_cases hx : n.has x
  · have hnone : content (m.takeWhile (startsBefore n)) x = none := by
      refine content_eq_none_iff.mpr fun e he hex => ?_
      have hapart := hout e ((List.takeWhile_prefix _).subset he)
      simp only [Entry.has, Entry.before] at hx hex hapart
      omega
    rw [hnone, Option.none_or, Option.none_or]
  · rw [Entry.holds_of_not_has hx, Option.none_or, Option.none_or]

end

end Sys2Proof.Machine

namespace Sys2Proof.Machine

/-! PROOFS. Inserts into the Extent Map (R25 to R29, R36, R37): the stretches a run replaces, those dropped, and what the others
leave for each sector (used for O13, O14 and O15). -/

/-! ### Ranges in ascending order -/

/-- A range of a list covers an LSA. -/
def Covers (ss : List (Nat × Nat)) (x : Nat) : Prop := ∃ st ∈ ss, st.1 ≤ x ∧ x < st.2

theorem covers_nil (x : Nat) : ¬ Covers [] x := by
  simp [Covers]

theorem covers_cons {st : Nat × Nat} {ss : List (Nat × Nat)} {x : Nat} :
    Covers (st :: ss) x ↔ (st.1 ≤ x ∧ x < st.2) ∨ Covers ss x := by
  simp [Covers]

theorem covers_append {ss ts : List (Nat × Nat)} {x : Nat} : Covers (ss ++ ts) x ↔ Covers ss x ∨ Covers ts x := by
  simp [Covers, or_and_right, exists_or]

/-- A range made where a condition holds and it is not empty. -/
theorem covers_ite {c : Bool} {u v x : Nat} :
    Covers (if c && decide (u < v) then [(u, v)] else []) x ↔ c = true ∧ u ≤ x ∧ x < v := by
  split
  · next h => simp_all [Covers]
  · next h =>
    simp only [Bool.and_eq_true, decide_eq_true_eq] at h
    simp only [covers_nil, false_iff]
    exact fun ⟨hc, hu, hv⟩ => h ⟨hc, by omega⟩

/-- Ranges from a up to b in ascending order, none empty. -/
def Ascending : Nat → Nat → List (Nat × Nat) → Prop
  | _, _, [] => True
  | a, b, st :: rest => a ≤ st.1 ∧ st.1 < st.2 ∧ st.2 ≤ b ∧ Ascending st.2 b rest

theorem Ascending.mono {a c b : Nat} {ss : List (Nat × Nat)} (h : Ascending c b ss) (hac : a ≤ c) : Ascending a b ss := by
  cases ss with
  | nil => trivial
  | cons st rest => exact ⟨hac.trans h.1, h.2⟩

theorem Ascending.append {a c b : Nat} {ss ts : List (Nat × Nat)} (hss : Ascending a c ss) (hts : Ascending c b ts)
    (hac : a ≤ c) (hcb : c ≤ b) : Ascending a b (ss ++ ts) := by
  induction ss generalizing a with
  | nil => exact hts.mono hac
  | cons st rest ih =>
    obtain ⟨hfirst, hne, hlast, hrest⟩ := hss
    exact ⟨hfirst, hne, hlast.trans hcb, ih hrest hlast⟩

theorem ascending_ite {c : Bool} {a u v b : Nat} (hau : a ≤ u) (hvb : v ≤ b) :
    Ascending a b (if c && decide (u < v) then [(u, v)] else []) := by
  split
  · next h => exact ⟨hau, by simp_all, hvb, trivial⟩
  · trivial

/-- Each of the ranges lies in the whole, and each ends before the next ones begin. -/
theorem Ascending.bounds {a b : Nat} {ss : List (Nat × Nat)} (h : Ascending a b ss) :
    (∀ st ∈ ss, a ≤ st.1 ∧ st.1 < st.2 ∧ st.2 ≤ b) ∧ ss.Pairwise fun st ts => st.2 ≤ ts.1 := by
  induction ss generalizing a with
  | nil => simp
  | cons st rest ih =>
    obtain ⟨hfirst, hne, hlast, hrest⟩ := h
    obtain ⟨hin, hpairs⟩ := ih hrest
    refine ⟨List.forall_mem_cons.mpr ⟨⟨hfirst, hne, hlast⟩, fun ts hts => ?_⟩,
      List.pairwise_cons.mpr ⟨fun ts hts => (hin ts hts).1, hpairs⟩⟩
    obtain ⟨hts1, hts2, hts3⟩ := hin ts hts
    exact ⟨by omega, hts2, hts3⟩

/-! ### The replaced sectors (R25, R29) -/

/-- A sector's copy is replaced: that of an entry the run hits, or an unwritten one where those count. -/
def Replaced (fill : Bool) (hit : Entry → Bool) (m : List Entry) (x : Nat) : Prop :=
  (∃ e ∈ m, e.has x ∧ hit e = true) ∨ (fill = true ∧ ∀ e ∈ m, ¬ e.has x)

section
variable {fill : Bool} {hit : Entry → Bool}

theorem ascending_replacedRanges (m : List Entry) {a b : Nat} (hab : a ≤ b) : Ascending a b (replacedRanges fill hit m a b) := by
  induction m generalizing a with
  | nil => exact ascending_ite le_rfl le_rfl
  | cons e m ih =>
    rw [replacedRanges]
    have hgap : Ascending a (max a (min b e.start)) (if fill && decide (a < min b e.start) then [(a, min b e.start)] else []) :=
      ascending_ite le_rfl (le_max_right _ _)
    have hentry : Ascending (max a (min b e.start)) (max a (min b e.stop))
        (if hit e && decide (max a e.start < min b e.stop) then [(max a e.start, min b e.stop)] else []) :=
      ascending_ite (by omega) (le_max_right _ _)
    have hstop : e.start ≤ e.stop := Nat.le_add_right _ _
    exact ((hgap.append hentry (by omega) (by omega)).append (ih (by omega)) (by omega) (by omega))

/-- What is replaced of the first entry's sectors and of those before it. -/
theorem replaced_cons {e : Entry} {m : List Entry} (hm : mapSorted (e :: m) = true) (x : Nat) :
    Replaced fill hit (e :: m) x ↔ (x < e.start ∧ fill = true) ∨ (e.has x ∧ hit e = true) ∨
      (e.start + e.length ≤ x ∧ Replaced fill hit m x) := by
  obtain ⟨_, hbefore, _⟩ := mapSorted_cons.mp hm
  have hlater : x < e.start + e.length → ∀ f ∈ m, ¬ f.has x := by
    intro hx f hf hfx
    have := hbefore f hf
    simp only [Entry.before, Entry.has] at this hfx
    omega
  rw [Replaced, List.exists_mem_cons_iff, List.forall_mem_cons]
  constructor
  · rintro ((hhit | ⟨f, hf, hfx, hhit⟩) | ⟨hfill, hout, hnone⟩)
    · exact .inr (.inl hhit)
    · exact .inr (.inr ⟨not_lt.mp fun hx => hlater hx f hf hfx, .inl ⟨f, hf, hfx, hhit⟩⟩)
    · rcases Nat.lt_or_ge x e.start with hx | hx
      · exact .inl ⟨hx, hfill⟩
      · exact .inr (.inr ⟨not_lt.mp fun hlt => hout ⟨hx, hlt⟩, .inr ⟨hfill, hnone⟩⟩)
  · rintro (⟨hx, hfill⟩ | hhit | ⟨hx, hrest⟩)
    · exact .inr ⟨hfill, fun h => absurd h.1 (not_le.mpr hx), hlater (by omega)⟩
    · exact .inl (.inl hhit)
    · rcases hrest with hhit | ⟨hfill, hnone⟩
      · exact .inl (.inr hhit)
      · exact .inr ⟨hfill, fun h => absurd h.2 (not_lt.mpr hx), hnone⟩

/-- R25, R29: the ranges of a to b that a run replaces are made of the sectors whose copy it replaces. -/
theorem covers_replacedRanges {m : List Entry} (hm : mapSorted m = true) {a b x : Nat} :
    Covers (replacedRanges fill hit m a b) x ↔ a ≤ x ∧ x < b ∧ Replaced fill hit m x := by
  induction m generalizing a with
  | nil =>
    rw [replacedRanges, covers_ite]
    simp only [Replaced, List.not_mem_nil, false_and, exists_false, false_or, false_imp_iff, implies_true, and_true]
    tauto
  | cons e m ih =>
    rw [replacedRanges, covers_append, covers_append, covers_ite, covers_ite, ih (mapSorted_cons.mp hm).2.2, replaced_cons hm,
      Entry.has, Entry.stop]
    constructor
    · rintro ((⟨hfill, hax, hx⟩ | ⟨hhit, hax, hx⟩) | ⟨hax, hx, hrest⟩)
      · exact ⟨hax, by omega, .inl ⟨by omega, hfill⟩⟩
      · exact ⟨by omega, by omega, .inr (.inl ⟨by omega, hhit⟩)⟩
      · exact ⟨by omega, hx, .inr (.inr ⟨by omega, hrest⟩)⟩
    · rintro ⟨hax, hxb, ⟨hx, hfill⟩ | ⟨hx, hhit⟩ | ⟨hx, hrest⟩⟩
      · exact .inl (.inl ⟨hfill, hax, by omega⟩)
      · exact .inl (.inr ⟨hhit, by omega⟩)
      · exact .inr ⟨by omega, hxb, hrest⟩

/-- R29: where unwritten sectors do not count, each range is the part of one entry that lies in a to b. -/
theorem replacedRanges_part {m : List Entry} (hm : mapSorted m = true) {a b : Nat} {st : Nat × Nat}
    (h : st ∈ replacedRanges false hit m a b) : ∃ e ∈ m, st = (max a e.start, min b e.stop) := by
  induction m generalizing a with
  | nil => simp [replacedRanges] at h
  | cons e m ih =>
    obtain ⟨_, hbefore, hrest⟩ := mapSorted_cons.mp hm
    simp only [replacedRanges, Bool.false_and, Bool.false_eq_true, if_false, List.nil_append, List.mem_append] at h
    rcases h with h | h
    · split at h
      · exact ⟨e, List.mem_cons_self, List.mem_singleton.mp h⟩
      · cases h
    · obtain ⟨f, hf, rfl⟩ := ih hrest h
      refine ⟨f, List.mem_cons_of_mem _ hf, Prod.ext ?_ rfl⟩
      have := hbefore f hf
      simp only [Entry.before, Entry.stop] at this ⊢
      omega

end

/-! ### Stretches (R27) -/

/-- A range in front of those joined is one of them, or is joined with the first. -/
theorem joinRanges_cons (r : Nat × Nat) (rs : List (Nat × Nat)) : joinRanges (r :: rs) = r :: joinRanges rs ∨
    ∃ n rest, joinRanges rs = n :: rest ∧ r.2 = n.1 ∧ joinRanges (r :: rs) = (r.1, n.2) :: rest := by
  have hcons : joinRanges (r :: rs) = match joinRanges rs with
      | [] => [r]
      | n :: rest => if r.2 = n.1 then (r.1, n.2) :: rest else r :: n :: rest := rfl
  cases hrs : joinRanges rs with
  | nil => exact .inl (by rw [hcons, hrs])
  | cons n rest =>
    by_cases hmeet : r.2 = n.1
    · exact .inr ⟨n, rest, rfl, hmeet, by rw [hcons, hrs]; exact if_pos hmeet⟩
    · exact .inl (by rw [hcons, hrs]; exact if_neg hmeet)

theorem ascending_joinRanges {a b : Nat} {rs : List (Nat × Nat)} (h : Ascending a b rs) : Ascending a b (joinRanges rs) := by
  induction rs generalizing a with
  | nil => trivial
  | cons r rs ih =>
    obtain ⟨hfirst, hne, hlast, hrest⟩ := h
    have hjoined := ih hrest
    rcases joinRanges_cons r rs with heq | ⟨n, rest, hrs, hmeet, heq⟩ <;> rw [heq]
    · exact ⟨hfirst, hne, hlast, hjoined⟩
    · rw [hrs] at hjoined
      obtain ⟨_, hn, hnb, htail⟩ := hjoined
      exact ⟨hfirst, by show r.1 < n.2; omega, hnb, htail⟩

theorem covers_joinRanges {a b x : Nat} {rs : List (Nat × Nat)} (h : Ascending a b rs) :
    Covers (joinRanges rs) x ↔ Covers rs x := by
  induction rs generalizing a with
  | nil => exact Iff.rfl
  | cons r rs ih =>
    obtain ⟨_, hne, _, hrest⟩ := h
    have hjoined := ascending_joinRanges hrest
    rw [covers_cons, ← ih hrest]
    rcases joinRanges_cons r rs with heq | ⟨n, rest, hrs, hmeet, heq⟩ <;> rw [heq]
    · exact covers_cons
    · rw [hrs] at hjoined ⊢
      obtain ⟨_, hn, _, _⟩ := hjoined
      rw [covers_cons, covers_cons, ← or_assoc]
      refine or_congr ?_ Iff.rfl
      show r.1 ≤ x ∧ x < n.2 ↔ _
      omega

/-- Stretches begin and end where ranges do. -/
theorem joinRanges_ends {rs : List (Nat × Nat)} {st : Nat × Nat} (h : st ∈ joinRanges rs) :
    (∃ r ∈ rs, st.1 = r.1) ∧ ∃ r ∈ rs, st.2 = r.2 := by
  induction rs generalizing st with
  | nil => cases h
  | cons r rs ih =>
    have later : ∀ st ∈ joinRanges rs, (∃ q ∈ r :: rs, st.1 = q.1) ∧ ∃ q ∈ r :: rs, st.2 = q.2 := by
      intro st hst
      obtain ⟨⟨p, hp, hp1⟩, ⟨q, hq, hq2⟩⟩ := ih hst
      exact ⟨⟨p, List.mem_cons_of_mem _ hp, hp1⟩, ⟨q, List.mem_cons_of_mem _ hq, hq2⟩⟩
    rcases joinRanges_cons r rs with heq | ⟨n, rest, hrs, hmeet, heq⟩ <;> rw [heq] at h
    · rcases List.mem_cons.mp h with rfl | hst
      · exact ⟨⟨st, List.mem_cons_self, rfl⟩, ⟨st, List.mem_cons_self, rfl⟩⟩
      · exact later st hst
    · rcases List.mem_cons.mp h with rfl | hst
      · exact ⟨⟨r, List.mem_cons_self, rfl⟩, (later n (hrs ▸ List.mem_cons_self)).2⟩
      · exact later st (hrs ▸ List.mem_cons_of_mem _ hst)

/-! ### Fill stretches dropped (R37) -/

section
variable (fill : Nat × Nat → Bool)

theorem dropFills_perm (k : Nat) (ss : List (Nat × Nat)) : ((dropFills fill k ss).1 ++ (dropFills fill k ss).2).Perm ss := by
  induction ss generalizing k with
  | nil => simp [dropFills]
  | cons st rest ih =>
    cases k with
    | zero => simp [dropFills]
    | succ k =>
      rw [dropFills]
      split
      · exact List.perm_middle.trans ((ih k).cons st)
      · exact (ih (k + 1)).cons st

theorem dropFills_sublist (k : Nat) (ss : List (Nat × Nat)) : (dropFills fill k ss).1.Sublist ss := by
  induction ss generalizing k with
  | nil => simp [dropFills]
  | cons st rest ih =>
    cases k with
    | zero => simp [dropFills]
    | succ k =>
      rw [dropFills]
      split
      · exact (ih k).cons st
      · exact (ih (k + 1)).cons_cons st

theorem dropFills_fill (k : Nat) (ss : List (Nat × Nat)) : ∀ st ∈ (dropFills fill k ss).2, fill st = true := by
  induction ss generalizing k with
  | nil => simp [dropFills]
  | cons st rest ih =>
    cases k with
    | zero => simp [dropFills]
    | succ k =>
      rw [dropFills]
      split
      · next h => exact List.forall_mem_cons.mpr ⟨h, ih k⟩
      · exact ih (k + 1)

end

/-! ### Stretches entered (R26, R27) -/

section
variable {run : Run} {m : List Entry}

theorem Run.holds_entry {st : Nat × Nat} {x : Nat} (hlsa : run.lsa ≤ st.1) :
    (run.entry st).holds x = if st.1 ≤ x ∧ x < st.2 then some (run.sequence, run.placeOf x) else none := by
  by_cases hx : st.1 ≤ x ∧ x < st.2
  · have hhas : (run.entry st).has x := ⟨hx.1, by simp only [Run.entry]; omega⟩
    have hplace : (run.entry st).placeOf x = run.placeOf x := by
      simp only [Entry.placeOf, Run.entry, Run.placeOf, Option.map_map]
      congr 1
      funext d
      simp only [Function.comp_apply, Location.mk.injEq, true_and]
      omega
    rw [Entry.holds_of_has hhas, hplace, if_pos hx]
    rfl
  · rw [if_neg hx]
    refine Entry.holds_of_not_has fun h => hx ?_
    simp only [Entry.has, Run.entry] at h
    omega

/-- A cut makes room for a stretch's entry. -/
theorem Run.entry_apart (hm : mapSorted m = true) {st : Nat × Nat} (hne : st.1 < st.2) :
    (run.entry st).apart (cutRange st.1 st.2 m) := by
  intro e he
  rw [cutRange_eq hne] at he
  obtain ⟨f, hf, he⟩ := List.mem_flatMap.mp he
  have hbounds := Entry.outside_bounds ((mapSorted_iff.mp hm).1 f hf) he
  simp only [Entry.before, Run.entry]
  omega

/-- One stretch entered. -/
theorem mapSorted_enterStretch (hm : mapSorted m = true) {st : Nat × Nat} (hne : st.1 < st.2) :
    mapSorted (addEntry (cutRange st.1 st.2 m) (run.entry st)) = true :=
  mapSorted_addEntry (mapSorted_cutRange hm hne) (by simp only [Run.entry]; omega) (Run.entry_apart hm hne)

theorem content_enterStretch (hm : mapSorted m = true) {st : Nat × Nat} (hne : st.1 < st.2) (hlsa : run.lsa ≤ st.1) (x : Nat) :
    content (addEntry (cutRange st.1 st.2 m) (run.entry st)) x =
      if st.1 ≤ x ∧ x < st.2 then some (run.sequence, run.placeOf x) else content m x := by
  rw [content_addEntry (Run.entry_apart hm hne), content_cutRange hne, Run.holds_entry hlsa]
  split <;> rfl

theorem mapSorted_enterStretches {ss : List (Nat × Nat)} (hm : mapSorted m = true) (hne : ∀ st ∈ ss, st.1 < st.2) :
    mapSorted (enterStretches run m ss) = true := by
  induction ss generalizing m with
  | nil => exact hm
  | cons st ss ih =>
    obtain ⟨hst, hss⟩ := List.forall_mem_cons.mp hne
    exact ih (mapSorted_enterStretch hm hst) hss

/-- A map with stretches of a run entered holds the run's copy of their sectors, and what it held elsewhere. -/
theorem content_enterStretches {ss : List (Nat × Nat)} (hm : mapSorted m = true) (hne : ∀ st ∈ ss, st.1 < st.2)
    (hlsa : ∀ st ∈ ss, run.lsa ≤ st.1) (x : Nat) :
    (Covers ss x → content (enterStretches run m ss) x = some (run.sequence, run.placeOf x)) ∧
      (¬ Covers ss x → content (enterStretches run m ss) x = content m x) := by
  induction ss generalizing m with
  | nil => exact ⟨fun h => absurd h (covers_nil x), fun _ => rfl⟩
  | cons st ss ih =>
    obtain ⟨hst, hss⟩ := List.forall_mem_cons.mp hne
    obtain ⟨hstart, hstarts⟩ := List.forall_mem_cons.mp hlsa
    obtain ⟨hcovered, hother⟩ := ih (mapSorted_enterStretch (run := run) hm hst) hss hstarts
    have hone := content_enterStretch hm hst hstart x
    rw [covers_cons]
    refine ⟨fun h => ?_, fun h => ?_⟩
    · by_cases hlater : Covers ss x
      · exact hcovered hlater
      · exact (hother hlater).trans (hone.trans (if_pos (h.resolve_right hlater)))
    · rw [not_or] at h
      exact (hother h.2).trans (hone.trans (if_neg h.1))

end

/-! ### Inserts -/

/-- The stretches of a run's replacing set (R27). -/
def runStretches (m : List Entry) (run : Run) (fill : Bool) (hit : Entry → Bool) : List (Nat × Nat) :=
  joinRanges (replacedRanges fill hit m run.lsa (run.lsa + run.length))

section
variable {m : List Entry} (run : Run) (fill : Bool) (hit : Entry → Bool) (budget : Nat)

theorem ascending_runStretches (m : List Entry) : Ascending run.lsa (run.lsa + run.length) (runStretches m run fill hit) :=
  ascending_joinRanges (ascending_replacedRanges m (Nat.le_add_right _ _))

theorem covers_runStretches (hm : mapSorted m = true) (x : Nat) :
    Covers (runStretches m run fill hit) x ↔ run.has x ∧ Replaced fill hit m x := by
  rw [runStretches, covers_joinRanges (ascending_replacedRanges m (Nat.le_add_right _ _)), covers_replacedRanges hm, Run.has,
    and_assoc]

theorem insertRun_perm (m : List Entry) : ((insertRun m run fill hit budget).entered ++
    (insertRun m run fill hit budget).dropped).Perm (runStretches m run fill hit) := by
  refine ((List.reverse_perm _).append (List.reverse_perm _)).trans ((dropFills_perm _ _ _).trans (List.reverse_perm _))

theorem insertRun_entered_sublist (m : List Entry) :
    (insertRun m run fill hit budget).entered.Sublist (runStretches m run fill hit) := by
  have h := (dropFills_sublist (isFill run m) ((enterStretches run m (runStretches m run fill hit)).length - (m.length + budget))
    (runStretches m run fill hit).reverse).reverse
  rwa [List.reverse_reverse] at h

theorem insertRun_dropped_mem {st : Nat × Nat} (h : st ∈ (insertRun m run fill hit budget).dropped) :
    st ∈ runStretches m run fill hit :=
  (insertRun_perm run fill hit budget m).subset (List.mem_append_right _ h)

/-- R36, R37: a stretch dropped is one of unwritten sectors. -/
theorem insertRun_dropped_unwritten {st : Nat × Nat} (h : st ∈ (insertRun m run fill hit budget).dropped) {x : Nat}
    (hx : st.1 ≤ x ∧ x < st.2) : content m x = none := by
  have hfill : isFill run m st = true := dropFills_fill _ _ _ st (List.mem_reverse.mp h)
  refine content_eq_none_iff.mpr fun e he hex => ?_
  have hapart := List.all_eq_true.mp hfill e he
  simp only [Bool.and_eq_true, Bool.or_eq_true, decide_eq_true_eq, Entry.stop, and_assoc] at hapart
  have hout := hapart.1
  simp only [Entry.has] at hex
  omega

theorem insertRun_covers (m : List Entry) (x : Nat) : Covers (runStretches m run fill hit) x ↔
    Covers (insertRun m run fill hit budget).entered x ∨ Covers (insertRun m run fill hit budget).dropped x := by
  rw [← covers_append]
  exact exists_congr fun st => and_congr_left fun _ => (insertRun_perm run fill hit budget m).mem_iff.symm

/-- No sector lies both in a stretch entered and in one dropped. -/
theorem insertRun_not_both {x : Nat} (hin : Covers (insertRun m run fill hit budget).entered x) :
    ¬ Covers (insertRun m run fill hit budget).dropped x := by
  rintro ⟨t, ht, htx⟩
  obtain ⟨st, hst, hsx⟩ := hin
  have hapart : (runStretches m run fill hit).Pairwise fun st t => st.2 ≤ t.1 ∨ t.2 ≤ st.1 :=
    (ascending_runStretches run fill hit m).bounds.2.imp Or.inl
  have := (List.pairwise_append.mp ((insertRun_perm run fill hit budget m).symm.pairwise hapart Or.symm)).2.2 st hst t ht
  omega

theorem insertRun_entered_bounds (m : List Entry) : ∀ st ∈ (insertRun m run fill hit budget).entered,
    run.lsa ≤ st.1 ∧ st.1 < st.2 ∧ st.2 ≤ run.lsa + run.length := fun st hst =>
  (ascending_runStretches run fill hit m).bounds.1 st ((insertRun_entered_sublist run fill hit budget m).subset hst)

theorem mapSorted_insertRun (hm : mapSorted m = true) : mapSorted (insertRun m run fill hit budget).entries = true :=
  mapSorted_enterStretches hm fun st hst => (insertRun_entered_bounds run fill hit budget m st hst).2.1

/-- An insert leaves the run's copy of the sectors entered, and what the map held elsewhere. -/
theorem content_insertRun (hm : mapSorted m = true) (x : Nat) :
    (Covers (insertRun m run fill hit budget).entered x →
      content (insertRun m run fill hit budget).entries x = some (run.sequence, run.placeOf x)) ∧
    (¬ Covers (insertRun m run fill hit budget).entered x → content (insertRun m run fill hit budget).entries x = content m x) := by
  have hbounds := insertRun_entered_bounds run fill hit budget m
  exact content_enterStretches hm (fun st hst => (hbounds st hst).2.1) (fun st hst => (hbounds st hst).1) x

end

end Sys2Proof.Machine

namespace Sys2Proof.Machine

/-! PROOFS. What a host run's insert and a relocation run's leave for each sector, two host runs in either order, and the growth of
the map under a relocation insert (O13, O14, O15). -/

/-! ### Host runs (R25) -/

theorem Entry.hostHit_iff {s : Nat} {e : Entry} : e.hostHit s = true ↔ e.location = none ∨ e.sequence < s := by
  unfold Entry.hostHit
  split <;> simp_all

theorem Entry.placeOf_eq_none_iff {e : Entry} {x : Nat} : e.placeOf x = none ↔ e.location = none := Option.map_eq_none_iff

/-- R25: a host run of a sequence replaces what the map holds for a sector: nothing, a LOST sector, or a VALID one of lower
sequence. -/
def overtaken (s : Nat) : Option (Nat × Option Location) → Bool
  | some (q, some _) => q < s
  | _ => true

theorem overtaken_iff {s : Nat} {c : Option (Nat × Option Location)} :
    overtaken s c = true ↔ c = none ∨ (∃ q, c = some (q, none)) ∨ ∃ q d, c = some (q, some d) ∧ q < s := by
  match c with
  | none => simp [overtaken]
  | some (_, none) => simp [overtaken]
  | some (_, some _) => simp [overtaken]

/-- The sectors whose copy a host run replaces, by what the map holds for them. -/
theorem replaced_host_iff {m : List Entry} (hm : mapSorted m = true) {s x : Nat} :
    Replaced true (Entry.hostHit s) m x ↔ overtaken s (content m x) = true := by
  by_cases hx : ∃ e ∈ m, e.has x
  · obtain ⟨e, he, hex⟩ := hx
    have hone : Replaced true (Entry.hostHit s) m x ↔ e.hostHit s = true := by
      constructor
      · rintro (⟨f, hf, hfx, hhit⟩ | ⟨_, hnone⟩)
        · exact mapSorted_unique hm he hf hex hfx ▸ hhit
        · exact absurd hex (hnone e he)
      · exact fun hhit => .inl ⟨e, he, hex, hhit⟩
    rw [hone, content_of_mem hm he hex, Entry.hostHit_iff, ← Entry.placeOf_eq_none_iff (x := x)]
    cases e.placeOf x <;> simp [overtaken]
  · have hnone : ∀ e ∈ m, ¬ e.has x := fun e he hex => hx ⟨e, he, hex⟩
    rw [content_eq_none_iff.mpr hnone]
    exact iff_of_true (.inr ⟨rfl, hnone⟩) rfl

section
variable {m : List Entry} (hm : mapSorted m = true) (run : Run) (budget : Nat)
include hm

theorem mapSorted_insertHost : mapSorted (insertHost m run budget).entries = true := mapSorted_insertRun run true _ budget hm

theorem covers_hostStretches (x : Nat) : Covers (insertHost m run budget).entered x ∨ Covers (insertHost m run budget).dropped x ↔
    run.has x ∧ overtaken run.sequence (content m x) = true := by
  rw [← replaced_host_iff hm, ← covers_runStretches run true _ hm]
  exact (insertRun_covers run true _ budget m x).symm

/-- A sector dropped is an unwritten one of the run, and stays unwritten (R37). -/
theorem insertHost_dropped {x : Nat} (h : Covers (insertHost m run budget).dropped x) :
    run.has x ∧ content m x = none ∧ content (insertHost m run budget).entries x = none := by
  obtain ⟨st, hst, hx⟩ := h
  have hnone : content m x = none := insertRun_dropped_unwritten run true _ budget hst hx
  have hkept := (content_insertRun run true (Entry.hostHit run.sequence) budget hm x).2 fun hin =>
    insertRun_not_both run true _ budget hin ⟨st, hst, hx⟩
  exact ⟨((covers_hostStretches hm run budget x).mp (.inr ⟨st, hst, hx⟩)).1, hnone, hkept.trans hnone⟩

/-- A sector of the run that is overtaken, and not dropped, holds the run's copy. -/
theorem insertHost_replaces {x : Nat} (hx : run.has x) (hover : overtaken run.sequence (content m x) = true)
    (hkept : ¬ Covers (insertHost m run budget).dropped x) :
    content (insertHost m run budget).entries x = some (run.sequence, run.placeOf x) :=
  (content_insertRun run true _ budget hm x).1 (((covers_hostStretches hm run budget x).mpr ⟨hx, hover⟩).resolve_right hkept)

/-- Every other sector stays. -/
theorem insertHost_keeps {x : Nat} (h : ¬ (run.has x ∧ overtaken run.sequence (content m x) = true)) :
    content (insertHost m run budget).entries x = content m x :=
  (content_insertRun run true _ budget hm x).2 fun hin => h ((covers_hostStretches hm run budget x).mp (.inl hin))

end

/-- Settles O13, by the stretches entered and those dropped. -/
theorem hostInsertContent : Obligations.HostInsertContent := by
  intro m run budget hm
  refine ⟨mapSorted_insertHost hm run budget, fun st hst x hstart hstop => ?_, fun x => ⟨fun hx => ?_, fun hdropped => ?_,
    fun hx hkept => ⟨fun hover => ?_, fun q d hc hq => ?_⟩⟩⟩
  · obtain ⟨hhas, hnone, _⟩ := insertHost_dropped hm run budget ⟨st, hst, hstart, hstop⟩
    exact ⟨hhas, hnone⟩
  · exact insertHost_keeps hm run budget fun h => hx h.1
  · exact (insertHost_dropped hm run budget hdropped).2.2
  · exact insertHost_replaces hm run budget hx (overtaken_iff.mpr hover) fun ⟨st, hst, hstx⟩ => hkept st hst hstx
  · refine insertHost_keeps hm run budget fun h => ?_
    have hlower := h.2
    rw [hc] at hlower
    exact absurd (of_decide_eq_true hlower) (not_lt.mpr hq)

/-! ### Two host runs (R28) -/

/-- What a host run leaves for a sector the map holds c for. -/
def Run.over (run : Run) (x : Nat) (c : Option (Nat × Option Location)) : Option (Nat × Option Location) :=
  if (run.lsa ≤ x ∧ x < run.lsa + run.length) ∧ overtaken run.sequence c = true then some (run.sequence, run.placeOf x) else c

theorem Run.over_of_not_has {run : Run} {x : Nat} (h : ¬ run.has x) (c : Option (Nat × Option Location)) : run.over x c = c :=
  if_neg fun hboth => h hboth.1

theorem Run.over_of_has {run : Run} {x : Nat} (h : run.has x) (c : Option (Nat × Option Location)) :
    run.over x c = if overtaken run.sequence c = true then some (run.sequence, run.placeOf x) else c :=
  if_congr (and_iff_right h) rfl rfl

/-- Without a sector dropped, an insert leaves for each sector what the run leaves for it. -/
theorem content_insertHost {m : List Entry} (hm : mapSorted m = true) {run : Run} {b : Nat}
    (hd : (insertHost m run b).dropped = []) (x : Nat) :
    content (insertHost m run b).entries x = run.over x (content m x) := by
  rw [Run.over]
  split
  · next h => exact insertHost_replaces hm run b h.1 h.2 (hd ▸ covers_nil x)
  · next h => exact insertHost_keeps hm run b h

theorem Run.placeOf_of_isSome {run : Run} (h : run.location.isSome) (x : Nat) : ∃ d, run.placeOf x = some d := by
  obtain ⟨d, hd⟩ := Option.isSome_iff_exists.mp h
  exact ⟨_, by rw [Run.placeOf, hd, Option.map_some]⟩

theorem Run.placeOf_of_none {run : Run} (h : run.location = none) (x : Nat) : run.placeOf x = none := by
  rw [Run.placeOf, h, Option.map_none]

/-- The run of lower sequence, inserted second, replaces the LOST sectors of the other. -/
theorem Run.over_lost {r1 r2 : Run} {x : Nat} {c : Option (Nat × Option Location)} (h1 : r1.has x) (h2 : r2.has x)
    (hl2 : r2.location = none) (hc : overtaken r2.sequence c = true) :
    r1.over x (r2.over x c) = some (r1.sequence, r1.placeOf x) := by
  rw [Run.over_of_has h2, if_pos hc, Run.placeOf_of_none hl2, Run.over_of_has h1]
  exact if_pos rfl

section
variable {r1 r2 : Run} {x : Nat} {c : Option (Nat × Option Location)} (hs : r1.sequence < r2.sequence)
include hs

/-- Two VALID runs leave the same for a sector that is not LOST before, in either order. -/
theorem Run.over_comm (hv1 : r1.location.isSome) (hv2 : r2.location.isSome)
    (hlost : r1.has x → r2.has x → ∀ q, c ≠ some (q, none)) : r2.over x (r1.over x c) = r1.over x (r2.over x c) := by
  by_cases h1 : r1.has x
  · by_cases h2 : r2.has x
    · obtain ⟨d1, hd1⟩ := Run.placeOf_of_isSome hv1 x
      obtain ⟨d2, hd2⟩ := Run.placeOf_of_isSome hv2 x
      have hback : ¬ r2.sequence < r1.sequence := not_lt.mpr hs.le
      simp only [Run.over_of_has h1, Run.over_of_has h2, hd1, hd2]
      match c with
      | none => simp [overtaken, hs, hback]
      | some (q, none) => exact absurd rfl (hlost h1 h2 q)
      | some (q, some d) =>
        by_cases hq1 : q < r1.sequence
        · simp [overtaken, hs, hback, hq1, hq1.trans hs]
        · by_cases hq2 : q < r2.sequence <;> simp [overtaken, hback, hq1, hq2]
    · simp only [Run.over_of_not_has h2]
  · simp only [Run.over_of_not_has h1]

variable (h1 : r1.has x) (h2 : r2.has x)
include h1 h2

/-- The run of greater sequence, inserted second, replaces a sector that is not of its own sequence or a greater one before. -/
theorem Run.over_second (hc : overtaken r2.sequence c = true) :
    r2.over x (r1.over x c) = some (r2.sequence, r2.placeOf x) := by
  rw [Run.over_of_has h2, Run.over_of_has h1]
  refine if_pos ?_
  split
  · match r1.placeOf x with
    | none => rfl
    | some d => exact decide_eq_true hs
  · exact hc

/-- The run of lower sequence, inserted second, leaves the VALID sectors of the other. -/
theorem Run.over_valid (hv2 : r2.location.isSome) (hc : overtaken r2.sequence c = true) :
    r1.over x (r2.over x c) = some (r2.sequence, r2.placeOf x) := by
  obtain ⟨d, hd⟩ := Run.placeOf_of_isSome hv2 x
  rw [Run.over_of_has h2, if_pos hc, hd, Run.over_of_has h1]
  exact if_neg (by simp [overtaken, hs.le])

end

/-- Settles O14, by what each run leaves for a sector. -/
theorem hostInsertsInEitherOrder : Obligations.HostInsertsInEitherOrder := by
  intro m r1 r2 b hm hs hd1 hd12 hd2 hd21 first1 first2
  have hfirst1 : ∀ x, content first1 x = r2.over x (r1.over x (content m x)) := fun x => by
    rw [← content_insertHost hm hd1, ← content_insertHost (mapSorted_insertHost hm r1 b) hd12]
  have hfirst2 : ∀ x, content first2 x = r1.over x (r2.over x (content m x)) := fun x => by
    rw [← content_insertHost hm hd2, ← content_insertHost (mapSorted_insertHost hm r2 b) hd21]
  have hover : ∀ {s : Nat} {c : Option (Nat × Option Location)}, s ≤ r2.sequence →
      (c = none ∨ ∃ q d, c = some (q, some d) ∧ q < s) → overtaken r2.sequence c = true := by
    rintro s c hle (hc | ⟨q, d, hc, hq⟩)
    · exact overtaken_iff.mpr (.inl hc)
    · exact overtaken_iff.mpr (.inr (.inr ⟨q, d, hc, hq.trans_le hle⟩))
  refine ⟨fun hv1 hv2 hlost x => ⟨?_, fun h1 h2 hc => ?_⟩, fun hv1 hl2 x h1 h2 hc => ?_, fun hl1 hv2 x h1 h2 hc => ?_⟩
  · rw [hfirst1, hfirst2]
    exact Run.over_comm hs hv1 hv2 (hlost x)
  · exact (hfirst1 x).trans (Run.over_second hs h1 h2 (hover le_rfl hc))
  · rw [hfirst1, hfirst2, Run.over_second hs h1 h2 (hover hs.le hc), Run.over_lost h1 h2 hl2 (hover hs.le hc),
      Run.placeOf_of_none hl2]
    exact ⟨rfl, rfl⟩
  · exact ⟨(hfirst1 x).trans (Run.over_second hs h1 h2 (hover hs.le hc)),
      (hfirst2 x).trans (Run.over_valid hs h1 h2 hv2 (hover hs.le hc))⟩

/-! ### Relocation runs (R29) -/

theorem Entry.relocHit_iff {run : Run} {source : Location} {e : Entry} {x : Nat} (hx : run.has x) (hex : e.has x) :
    e.relocHit run source = true ↔
      (e.sequence, e.placeOf x) = (run.sequence, some ⟨source.band, source.index + (x - run.lsa)⟩) := by
  simp only [Entry.has, Run.has] at hex hx
  unfold Entry.relocHit Entry.placeOf
  split
  · next hnone => simp [hnone]
  · next d hd =>
    simp only [hd, Option.map_some, Prod.mk.injEq, Option.some.injEq, Location.mk.injEq, Bool.and_eq_true, beq_iff_eq, and_assoc]
    refine and_congr_right fun _ => and_congr_right fun _ => ?_
    omega

section
variable {m : List Entry} (hm : mapSorted m = true) (run : Run) (source : Location) (budget : Nat)
include hm

/-- The sectors whose copy a relocation run replaces, by what the map holds for them. -/
theorem replaced_reloc_iff {x : Nat} (hx : run.has x) : Replaced false (Entry.relocHit run source) m x ↔
    content m x = some (run.sequence, some ⟨source.band, source.index + (x - run.lsa)⟩) := by
  constructor
  · rintro (⟨e, he, hex, hhit⟩ | ⟨hfalse, _⟩)
    · rw [content_of_mem hm he hex, (Entry.relocHit_iff hx hex).mp hhit]
    · cases hfalse
  · intro hc
    have hcovered : ∃ e ∈ m, e.has x := by
      by_contra hnone
      rw [content_eq_none_iff.mpr fun e he hex => hnone ⟨e, he, hex⟩] at hc
      cases hc
    obtain ⟨e, he, hex⟩ := hcovered
    rw [content_of_mem hm he hex, Option.some.injEq] at hc
    exact .inl ⟨e, he, hex, (Entry.relocHit_iff hx hex).mpr hc⟩

theorem mapSorted_insertReloc : mapSorted (insertReloc m run source budget).entries = true :=
  mapSorted_insertRun run false _ budget hm

/-- A stretch of a relocation run holds sectors that were written, so that none is a fill stretch (R36). -/
theorem insertReloc_dropped : (insertReloc m run source budget).dropped = [] := by
  refine List.eq_nil_iff_forall_not_mem.mpr fun st hst => ?_
  have hmem : st ∈ runStretches m run false (Entry.relocHit run source) := insertRun_dropped_mem run false _ budget hst
  have hne := ((ascending_runStretches run false _ m).bounds.1 st hmem).2.1
  have hnone : content m st.1 = none := insertRun_dropped_unwritten run false _ budget hst ⟨le_rfl, hne⟩
  obtain ⟨hx, hreplaced⟩ := (covers_runStretches run false _ hm st.1).mp ⟨st, hmem, le_rfl, hne⟩
  rw [(replaced_reloc_iff hm run source hx).mp hreplaced] at hnone
  cases hnone

theorem covers_relocStretches (x : Nat) : Covers (insertReloc m run source budget).entered x ↔
    run.has x ∧ content m x = some (run.sequence, some ⟨source.band, source.index + (x - run.lsa)⟩) := by
  have hall := insertRun_covers run false (Entry.relocHit run source) budget m x
  rw [covers_runStretches run false _ hm x] at hall
  have hdropped : ¬ Covers (insertReloc m run source budget).dropped x := insertReloc_dropped hm run source budget ▸ covers_nil x
  rw [← and_congr_right (replaced_reloc_iff hm run source), hall]
  exact (or_iff_left hdropped).symm

end

/-! ### The growth of the map under a relocation insert -/

/-- Every entry begins at the start of an entry of m, or at one of the LSAs named. -/
def StartsWithin (m : List Entry) (named : List Nat) (cur : List Entry) : Prop :=
  ∀ e ∈ cur, e.start ∈ m.map (·.start) ++ named

/-- An LSA lies inside an entry of a map. -/
def Inside (m : List Entry) (z : Nat) : Prop := ∃ e ∈ m, e.start < z ∧ z < e.start + e.length

/-- An LSA inside an entry after a cut was inside one before it. -/
theorem inside_of_cutRange {m : List Entry} (hm : mapSorted m = true) {a b z : Nat} (hab : a < b)
    (h : Inside (cutRange a b m) z) : Inside m z := by
  obtain ⟨x, hx, hstart, hstop⟩ := h
  rw [cutRange_eq hab] at hx
  obtain ⟨e, he, hx⟩ := List.mem_flatMap.mp hx
  have hbounds := Entry.outside_bounds ((mapSorted_iff.mp hm).1 e he) hx
  exact ⟨e, he, by omega, by omega⟩

/-- An entry of a map with a new one put in its place is the new one, or one of the map's. -/
theorem mem_of_mem_place {m : List Entry} {n e : Entry}
    (h : e ∈ m.takeWhile (startsBefore n) ++ n :: m.dropWhile (startsBefore n)) : e = n ∨ e ∈ m := by
  rcases List.mem_append.mp h with h | h
  · exact .inr ((List.takeWhile_prefix _).subset h)
  · exact (List.mem_cons.mp h).imp_right fun h => (List.dropWhile_suffix _).subset h

/-- An LSA above a stretch that is inside an entry once the stretch is entered was inside one before. -/
theorem inside_of_enterStretch {run : Run} {cur : List Entry} (hcur : mapSorted cur = true) {st : Nat × Nat}
    (hne : st.1 < st.2) {z : Nat} (hz : st.2 < z) (h : Inside (addEntry (cutRange st.1 st.2 cur) (run.entry st)) z) :
    Inside cur z := by
  obtain ⟨e, he, hstart, hstop⟩ := h
  have hend : (run.entry st).start + (run.entry st).length = st.2 := by
    simp only [Run.entry]
    omega
  have hz' : z ∉ [(run.entry st).start, (run.entry st).start + (run.entry st).length] := by
    rw [hend]
    simp only [Run.entry, List.mem_cons, List.not_mem_nil, or_false]
    omega
  obtain ⟨f, hf, hfstart, hfstop⟩ := (merges_addEntry _ _).inside hz' e he hstart hstop
  rcases mem_of_mem_place hf with rfl | hf
  · omega
  · exact inside_of_cutRange hcur hne ⟨f, hf, hfstart, hfstop⟩

/-- A stretch entered that begins at a named LSA, and ends at one or inside no entry, gives no entry another start. -/
theorem startsWithin_enterStretch {m cur : List Entry} {named : List Nat} {run : Run} {st : Nat × Nat} (hne : st.1 < st.2)
    (hcur : StartsWithin m named cur) (hfirst : st.1 ∈ m.map (·.start) ++ named)
    (hlast : Inside cur st.2 → st.2 ∈ named) : StartsWithin m named (addEntry (cutRange st.1 st.2 cur) (run.entry st)) := by
  intro e he
  obtain ⟨f, hf, hstart⟩ := List.mem_map.mp ((merges_addEntry _ _).starts e he)
  rw [← hstart]
  rcases mem_of_mem_place hf with rfl | hf
  · exact hfirst
  · rw [cutRange_eq hne] at hf
    obtain ⟨g, hg, hf⟩ := List.mem_flatMap.mp hf
    rcases Entry.mem_outside.mp hf with ⟨_, rfl⟩ | ⟨hend, rfl⟩
    · exact hcur g hg
    · have hadvance : (g.advance (st.2 - g.start)).start = g.start + (st.2 - g.start) := rfl
      rw [hadvance]
      rcases Nat.lt_or_ge g.start st.2 with hlt | hge
      · rw [Nat.add_sub_cancel' hlt.le]
        exact List.mem_append_right _ (hlast ⟨g, hg, hlt, hend⟩)
      · rw [Nat.sub_eq_zero_of_le hge]
        exact hcur g hg

/-- Ascending stretches entered one after another, each of which begins at a named LSA, and ends at one or inside no entry of the
map, give no entry another start. -/
theorem startsWithin_enterStretches {m : List Entry} {named : List Nat} {run : Run} {ss : List (Nat × Nat)} {a b : Nat}
    (hss : Ascending a b ss) (hfirst : ∀ st ∈ ss, st.1 ∈ m.map (·.start) ++ named) {cur : List Entry}
    (hsorted : mapSorted cur = true) (hcur : StartsWithin m named cur)
    (hlast : ∀ st ∈ ss, Inside cur st.2 → st.2 ∈ named) : StartsWithin m named (enterStretches run cur ss) := by
  induction ss generalizing cur a with
  | nil => exact hcur
  | cons st ss ih =>
    obtain ⟨_, hne, _, hrest⟩ := hss
    obtain ⟨hfirst1, hfirsts⟩ := List.forall_mem_cons.mp hfirst
    obtain ⟨hlast1, hlasts⟩ := List.forall_mem_cons.mp hlast
    have hentered := startsWithin_enterStretch (run := run) hne hcur hfirst1 hlast1
    refine ih hrest hfirsts (mapSorted_enterStretch hsorted hne) hentered fun t ht hin => ?_
    obtain ⟨hlow, hlt, _⟩ := hrest.bounds.1 t ht
    exact hlasts t ht (inside_of_enterStretch hsorted hne (by omega) hin)

/-- A map in form whose entries begin where those of another do, or at one of the LSAs named, has no more entries than that. -/
theorem length_le_of_startsWithin {m cur : List Entry} {named : List Nat} (hcur : mapSorted cur = true)
    (h : StartsWithin m named cur) : cur.length ≤ m.length + named.length := by
  obtain ⟨hpos, hpairs⟩ := mapSorted_iff.mp hcur
  have hnodup : (cur.map (·.start)).Nodup := by
    refine List.pairwise_map.mpr (hpairs.imp_of_mem fun he _ hef heq => ?_)
    have := hpos _ he
    simp only [Entry.before] at hef
    omega
  have hsubset : cur.map (·.start) ⊆ m.map (·.start) ++ named := fun z hz => by
    obtain ⟨e, he, rfl⟩ := List.mem_map.mp hz
    exact h e he
  simpa using (hnodup.subperm hsubset).length_le

/-- The end of an entry lies inside no entry of a map in form. -/
theorem not_inside_end {m : List Entry} (hm : mapSorted m = true) {e : Entry} (he : e ∈ m) : ¬ Inside m (e.start + e.length) := by
  rintro ⟨f, hf, hstart, hstop⟩
  by_cases heq : e = f
  · subst heq
    omega
  · have hapart := mapSorted_apart hm he hf heq
    simp only [Entry.before] at hapart
    omega

/-- A stretch of a relocation run begins where an entry does or the run does, and one that ends inside an entry ends where the run
does. -/
theorem relocStretch_ends {m : List Entry} (hm : mapSorted m = true) {run : Run} {hit : Entry → Bool} {st : Nat × Nat}
    (h : st ∈ runStretches m run false hit) : st.1 ∈ m.map (·.start) ++ [run.lsa, run.lsa + run.length] ∧
      (Inside m st.2 → st.2 ∈ [run.lsa, run.lsa + run.length]) := by
  obtain ⟨⟨p, hp, hfirst⟩, ⟨q, hq, hlast⟩⟩ := joinRanges_ends h
  obtain ⟨e, he, rfl⟩ := replacedRanges_part hm hp
  obtain ⟨f, hf, rfl⟩ := replacedRanges_part hm hq
  rw [hfirst, hlast]
  constructor
  · rcases max_choice run.lsa e.start with hmax | hmax <;> rw [hmax]
    · simp
    · exact List.mem_append_left _ (List.mem_map_of_mem he)
  · intro hin
    rcases min_choice (run.lsa + run.length) f.stop with hmin | hmin <;> rw [hmin] at hin ⊢
    · simp
    · exact absurd hin (not_inside_end hm hf)

/-- R29: a relocation insert adds at most two entries, for it begins entries at no LSAs but the two ends of the run and those at
which entries began. -/
theorem length_insertReloc {m : List Entry} (hm : mapSorted m = true) (run : Run) (source : Location) (budget : Nat) :
    (insertReloc m run source budget).entries.length ≤ m.length + 2 := by
  have hentered : (insertReloc m run source budget).entered = runStretches m run false (Entry.relocHit run source) := by
    refine (insertRun_entered_sublist run false _ budget m).eq_of_length ?_
    have hlength := (insertRun_perm run false (Entry.relocHit run source) budget m).length_eq
    rwa [show (insertRun m run false (Entry.relocHit run source) budget).dropped = [] from insertReloc_dropped hm run source budget,
      List.append_nil] at hlength
  refine length_le_of_startsWithin (named := [run.lsa, run.lsa + run.length]) (mapSorted_insertReloc hm run source budget) ?_
  have hstarts : StartsWithin m [run.lsa, run.lsa + run.length] m := fun e he => List.mem_append_left _ (List.mem_map_of_mem he)
  have := startsWithin_enterStretches (run := run) (ascending_runStretches run false (Entry.relocHit run source) m)
    (fun st hst => (relocStretch_ends hm hst).1) hm hstarts fun st hst => (relocStretch_ends hm hst).2
  rwa [← hentered] at this

/-- Settles O15, by the sectors a relocation run replaces and the starts of the entries it leaves. -/
theorem relocationInsertContent : Obligations.RelocationInsertContent := by
  intro m run source budget hm
  refine ⟨mapSorted_insertReloc hm run source budget, insertReloc_dropped hm run source budget,
    length_insertReloc hm run source budget, fun x => ⟨fun hx hc => ?_, fun h => ?_⟩⟩
  · exact (content_insertRun run false _ budget hm x).1 ((covers_relocStretches hm run source budget x).mpr ⟨hx, hc⟩)
  · exact (content_insertRun run false _ budget hm x).2 fun hin => h ((covers_relocStretches hm run source budget x).mp hin)

end Sys2Proof.Machine

namespace Sys2Proof.Machine

/-! PROOFS. A Trim applied to the map, the queues and the write orders in flight (O25). -/

/-! ### What a Trim leaves of a record and of a stretch (R63, R65) -/

theorem Fragment.trim_outside {a b : Nat} {r x : Fragment} (h : x ∈ r.trim a b) : Outside a b x.lsa x.stop := by
  simp only [Fragment.trim, List.mem_append, List.mem_ite_nil_right, List.mem_singleton] at h
  rcases h with ⟨hfirst, rfl⟩ | ⟨hlast, rfl⟩ <;> simp only [Outside, Fragment.part, Fragment.stop] at *
  · omega
  · omega

theorem Stretch.trim_outside {base a b : Nat} {st x : Stretch} (h : x ∈ st.trim base a b) :
    Outside a b (base + x.start) (base + x.start + x.length) := by
  simp only [Stretch.trim, List.mem_append, List.mem_ite_nil_right, List.mem_singleton] at h
  rcases h with ⟨hfirst, rfl⟩ | ⟨hlast, rfl⟩ <;> simp only [Outside] at *
  · omega
  · omega

/-! ### The Trim as a whole -/

/-- The map, the queues and the write orders in flight, each with a range taken out. -/
def State.cutAll (s : State) (a b : Nat) : State :=
  ((s.mapQueues fun _ q => { q with records := q.records.flatMap (Fragment.trim a b) }).mapWrites fun w =>
    { w with pieces := w.pieces.map (Piece.trim a b) }).setMap (cutRange a b s.map)

theorem foldl_movePieces_only {α : Type} (o : α → Option Key) (n m : α → Nat) (l : List α) (s : State) :
    ∃ t, l.foldl (fun t x => t.movePieces (o x) (n x) (m x)) s = { s with table := t } := by
  induction l generalizing s with
  | nil => exact ⟨s.table, rfl⟩
  | cons x l ih =>
    obtain ⟨t, ht⟩ := movePieces_only s (o x) (n x) (m x)
    obtain ⟨u, hu⟩ := ih (s.movePieces (o x) (n x) (m x))
    rw [List.foldl_cons, hu, ht]
    exact ⟨u, rfl⟩

theorem cutAll_records (s : State) (a b : Nat) (q : Fin 16) :
    ((s.cutAll a b).queue q).records = (s.queue q).records.flatMap (Fragment.trim a b) := by
  rw [State.cutAll, State.queue_congr (State.setMap_queues _ _), State.queue_congr (State.mapWrites_queues _ _),
    State.mapQueues_queue]

theorem clearPoolStalls_records (s : State) (q : Fin 16) : (s.clearPoolStalls.queue q).records = (s.queue q).records := by
  rw [State.clearPoolStalls, State.mapQueues_queue]

/-- A Trim takes its range out of the map, the queues and the orders in flight; beside these it changes the Request Table, the POOL
stalls and what it raises. -/
theorem applyTrim_eq (s : State) {a b : Nat} (hab : a < b) : ∃ (t : List ReqEntry) (released : Bool), s.applyTrim a b =
    (if released then (State.cutAll { s with table := t } a b).clearPoolStalls
      else State.cutAll { s with table := t } a b).noteFalls s := by
  unfold State.applyTrim
  rw [if_pos hab]
  dsimp only
  obtain ⟨t, ht⟩ := foldl_movePieces_only Fragment.origin (fun _ => 1) (fun r => (Fragment.trim a b r).length) s.allRecords s
  obtain ⟨u, hu⟩ := foldl_movePieces_only Piece.origin (fun p => p.stretches.length) (fun p => (p.trim a b).stretches.length)
    s.allPieces { s with table := t }
  rw [ht, hu]
  exact ⟨u, _, rfl⟩

theorem writeOrders_mapWrites (s : State) (f : WriteOrder → WriteOrder) : (s.mapWrites f).writeOrders = s.writeOrders.map f := by
  simp only [State.writeOrders, State.mapWrites, List.filterMap_map, List.map_filterMap]
  congr 1
  funext o
  cases o <;> rfl

theorem writeOrders_congr {s t : State} (h : s.window = t.window) : s.writeOrders = t.writeOrders := by
  simp only [State.writeOrders, h]

section
variable (s : State) {a b : Nat} (hab : a < b)
include hab

theorem applyTrim_map : (s.applyTrim a b).map = cutRange a b s.map := by
  obtain ⟨t, released, h⟩ := applyTrim_eq s hab
  cases released <;> simp [h, State.cutAll]

theorem applyTrim_records (q : Fin 16) :
    ((s.applyTrim a b).queue q).records = (s.queue q).records.flatMap (Fragment.trim a b) := by
  obtain ⟨t, released, h⟩ := applyTrim_eq s hab
  rw [h, State.queue_congr (State.noteFalls_queues _ _)]
  cases released with
  | false => exact cutAll_records { s with table := t } a b q
  | true => exact (clearPoolStalls_records _ q).trans (cutAll_records { s with table := t } a b q)

theorem applyTrim_window :
    (s.applyTrim a b).window = (s.mapWrites fun w => { w with pieces := w.pieces.map (Piece.trim a b) }).window := by
  obtain ⟨t, released, h⟩ := applyTrim_eq s hab
  cases released <;> simp [h, State.cutAll, State.mapWrites]

theorem applyTrim_writeOrders : (s.applyTrim a b).writeOrders =
    s.writeOrders.map fun w => { w with pieces := w.pieces.map (Piece.trim a b) } := by
  rw [writeOrders_congr (applyTrim_window s hab), writeOrders_mapWrites]

end

/-- Settles O25, by what a Trim leaves of the map, of each record and of each stretch. -/
theorem trimLeavesNothingInRange : Obligations.TrimLeavesNothingInRange := by
  intro p a b hab _
  refine ⟨fun x => ?_, fun q r hr => ?_, fun w hw c hc st hst => ?_, ?_, ?_⟩
  · rw [applyTrim_map p hab, content_cutRange hab]
  · rw [applyTrim_records p hab] at hr
    obtain ⟨_, _, hr⟩ := List.mem_flatMap.mp hr
    exact Fragment.trim_outside hr
  · rw [applyTrim_writeOrders p hab] at hw
    obtain ⟨_, _, rfl⟩ := List.mem_map.mp hw
    obtain ⟨_, _, rfl⟩ := List.mem_map.mp hc
    obtain ⟨_, _, hst⟩ := List.mem_flatMap.mp hst
    exact Stretch.trim_outside hst
  · rw [applyTrim_window p hab, State.mapWrites_length]
  · rw [applyTrim_writeOrders p hab]
    simp [Piece.trim, Function.comp_def]

end Sys2Proof.Machine

namespace Sys2Proof.Machine

/-! PROOFS. What every operation keeps of the map: its form and the band valid counts (used for O5 and O6). The first part: the
relation, the updates of the state, and the operations the others are made of. -/

/-! ### The relation -/

/-- t keeps the map's form (R21) and the band valid counts (R34) where s has them. -/
structure MapKept (s t : State) : Prop where
  form : s.mapInForm → t.mapInForm
  counts : s.validCounts → t.validCounts

namespace MapKept
variable {s t u : State}

theorem refl (s : State) : MapKept s s := ⟨id, id⟩

theorem trans (h : MapKept s t) (g : MapKept t u) : MapKept s u := ⟨g.form ∘ h.form, g.counts ∘ h.counts⟩

/-- A change of neither the map nor a band's valid count. -/
theorem of_valid (hmap : t.map = s.map) (hvalid : t.bands.map (·.valid) = s.bands.map (·.valid)) : MapKept s t where
  form := fun h => by rwa [State.mapInForm, hmap]
  counts := fun h i b hb => by
    have hi : (s.bands[i]?).map (·.valid) = some b.valid := by
      rw [← List.getElem?_map, ← hvalid, List.getElem?_map, hb, Option.map_some]
    obtain ⟨c, hc, hcb⟩ := Option.map_eq_some_iff.mp hi
    rw [hmap, ← h i c hc, hcb]

/-- A change of neither the map nor the Band Table. -/
theorem of_same (hmap : t.map = s.map) (hbands : t.bands = s.bands) : MapKept s t :=
  of_valid hmap (by rw [hbands])

/-- R34: the counts move with the map. -/
theorem setMap {m : List Entry} (h : s.mapInForm → mapSorted m = true) : MapKept s (s.setMap m) where
  form := h
  counts := fun _ i b hb => by
    rw [State.setMap_bands, List.getElem?_mapIdx, Option.map_eq_some_iff] at hb
    obtain ⟨c, _, rfl⟩ := hb
    rfl

theorem modBand (s : State) (i : Nat) (f : Band → Band) (hf : ∀ b, (f b).valid = b.valid) : MapKept s (s.modBand i f) := by
  refine of_valid rfl (List.ext_getElem? fun j => ?_)
  rw [State.modBand, List.getElem?_map, List.getElem?_map, List.getElem?_modify]
  split <;> simp [hf, Function.comp_def]

theorem mapBands (s : State) (f : Band → Band) (hf : ∀ b, (f b).valid = b.valid) : MapKept s (s.mapBands f) :=
  of_valid rfl (by simp [State.mapBands, hf, Function.comp_def])

theorem engine (s : State) (e : Engine) : MapKept s { s with engine := e } := of_same rfl rfl

theorem spindle (s : State) (x : Spindle) : MapKept s { s with spindle := x } := of_same rfl rfl

theorem window (s : State) (os : List Order) : MapKept s { s with window := os } := of_same rfl rfl

theorem table (s : State) (es : List ReqEntry) : MapKept s { s with table := es } := of_same rfl rfl

theorem foldl {α : Type} {f : State → α → State} (h : ∀ s a, MapKept s (f s a)) (l : List α) (s : State) :
    MapKept s (l.foldl f s) := by
  induction l generalizing s with
  | nil => exact refl s
  | cons a l ih => exact (h s a).trans (ih (f s a))

/-- The same of a fold that carries something beside the state. -/
theorem foldl_fst {α β : Type} {f : State × β → α → State × β} (h : ∀ x a, MapKept x.1 (f x a).1) (l : List α)
    (x : State × β) : MapKept x.1 (l.foldl f x).1 := by
  induction l generalizing x with
  | nil => exact refl x.1
  | cons a l ih => exact (h x a).trans (ih (f x a))

theorem ite {c : Prop} [Decidable c] (ht : MapKept s t) (hu : MapKept s u) : MapKept s (if c then t else u) := by
  split
  · exact ht
  · exact hu

/-- A further change where a condition holds. -/
theorem thenIf {c : Prop} [Decidable c] (ht : MapKept s t) (hu : MapKept t u) : MapKept s (if c then u else t) :=
  .ite (ht.trans hu) ht

/-- A further change where a condition does not hold. -/
theorem ifElse {c : Prop} [Decidable c] (ht : MapKept s t) (hu : MapKept t u) : MapKept s (if c then t else u) :=
  .ite ht (ht.trans hu)

theorem ite_fst {β : Type} {c : Prop} [Decidable c] {x y : State × β} (hx : MapKept s x.1) (hy : MapKept s y.1) :
    MapKept s (if c then x else y).1 := by
  split
  · exact hx
  · exact hy

end MapKept

/-! ### Band records -/

theorem Band.uncleaned_valid (b : Band) : b.uncleaned.valid = b.valid := by
  unfold Band.uncleaned
  split <;> rfl

theorem Band.shut_valid (b : Band) : b.shut.valid = b.valid := by
  unfold Band.shut
  split <;> rfl

theorem Band.skipRest_valid (b : Band) : b.skipRest.valid = b.valid := by
  unfold Band.skipRest
  split <;> rfl

theorem Band.complete_valid (tracks : Nat) (failed : Bool) (b : Band) : (b.complete tracks failed).valid = b.valid := by
  simp only [Band.complete, apply_ite Band.valid, ite_self]

/-! ### Answers, notices and pending reads -/

theorem mapKept_answerEntry (s : State) (k : Key) (x : Status) (r : Result) : MapKept s (s.answerEntry k x r) := by
  obtain ⟨_, _, _, h⟩ := answerEntry_only s k x r
  rw [h]
  exact .of_same rfl rfl

theorem mapKept_answerAll (s : State) (ks : List Key) (x : Status) : MapKept s (s.answerAll ks x) := by
  obtain ⟨_, _, _, h⟩ := answerAll_only s ks x
  rw [h]
  exact .of_same rfl rfl

theorem mapKept_answerNow (s : State) (k : Key) (kind : Nat) (x : Status) (r : Result) : MapKept s (s.answerNow k kind x r) :=
  .of_same (by simp) (by simp)

theorem mapKept_modQueue (s : State) (q : Fin 16) (f : Queue → Queue) : MapKept s (s.modQueue q f) := .of_same rfl rfl

theorem mapKept_clearPoolStalls (s : State) : MapKept s s.clearPoolStalls := .of_same rfl rfl

theorem mapKept_raiseBoth (s : State) (k : Notice) (d : Nat) : MapKept s (s.raiseBoth k d) := .of_same rfl rfl

theorem mapKept_noteHeadroom (s : State) (a b : Nat) : MapKept s (s.noteHeadroom a b) := .of_same (by simp) (by simp)

theorem mapKept_releaseRead (s : State) (b : Nat) : MapKept s (s.releaseRead b) := by
  have released : MapKept s (s.modBand b fun r => { r with pendingReads := r.pendingReads - 1 }) := .modBand s b _ fun _ => rfl
  exact .thenIf released (.engine _ _)

theorem mapKept_setSuspect (s : State) (b : Nat) : MapKept s (s.setSuspect b) :=
  .modBand s b _ fun r => by split <;> rfl

/-! ### Pieces (R80 to R83, R174) -/

theorem mapSorted_insert {m : List Entry} (hm : mapSorted m = true) (p : Piece) (place : Option Location) (st : Stretch)
    (budget : Nat) : mapSorted (p.insert m place st budget).entries = true := by
  unfold Piece.insert
  split
  · exact mapSorted_insertReloc hm _ _ _
  · exact mapSorted_insertHost hm _ _

theorem mapKept_insertReleased (s : State) (held : Nat) {r : Inserted} (h : s.mapInForm → mapSorted r.entries = true) :
    MapKept s (s.insertReleased held r) := (MapKept.setMap h).trans (mapKept_noteHeadroom _ _ _)

theorem mapKept_movePieces (s : State) (o : Option Key) (n m : Nat) : MapKept s (s.movePieces o n m) := by
  obtain ⟨_, h⟩ := movePieces_only s o n m
  rw [h]
  exact .table s _

theorem mapKept_recordOutcome (s : State) (o : Option Key) (x : Outcome) : MapKept s (s.recordOutcome o x) := by
  cases o
  · exact .refl s
  · exact .table s _

theorem mapKept_raiseLost (s : State) (lost : List (Nat × Nat)) : MapKept s (s.raiseLost lost) := by
  unfold State.raiseLost
  split
  · exact .refl s
  · exact .of_same rfl rfl

theorem mapKept_resolveHost (s : State) (p : Piece) (asLost : Bool) (lost : List (Nat × Nat)) :
    MapKept s (s.resolveHost p asLost lost) := by
  cases h : p.reloc with
  | true => exact (resolveHost_reloc s p asLost lost h).symm ▸ .refl s
  | false =>
    rw [resolveHost_host s p asLost lost h]
    have moved := mapKept_movePieces s p.origin p.stretches.length 0
    split
    · split
      · exact moved.trans (mapKept_recordOutcome _ _ _)
      · exact moved
    · exact moved.trans (mapKept_raiseLost _ _)

theorem mapKept_applyStretch (place : Piece → Stretch → Option Location) (lostOf : Inserted → List (Nat × Nat)) (p : Piece)
    (acc : State × Nat × List (Nat × Nat)) (st : Stretch) : MapKept acc.1 (applyStretch place lostOf p acc st).1 :=
  mapKept_insertReleased _ _ fun h => mapSorted_insert h _ _ _ _

theorem mapKept_resolvePiece (place : Piece → Stretch → Option Location) (lostOf : Inserted → List (Nat × Nat)) (asLost : Bool)
    (acc : State × Nat) (p : Piece) : MapKept acc.1 (resolvePiece place lostOf asLost acc p).1 :=
  (MapKept.foldl_fst (mapKept_applyStretch place lostOf p) p.stretches (acc.1, acc.2, [])).trans (mapKept_resolveHost _ _ _ _)

theorem mapKept_completeBand (s : State) (b : Nat) (failed : Bool) : MapKept s (s.completeBand b failed) :=
  .modBand s b _ (Band.complete_valid _ failed)

theorem mapKept_writeDone (s : State) (w : WriteOrder) : MapKept s (s.writeDone w) := by
  unfold State.writeDone
  rw [enterPiece_eq]
  exact (MapKept.foldl_fst (mapKept_resolvePiece _ _ false) w.pieces (s, w.records)).trans (mapKept_completeBand _ _ _)

theorem mapKept_losePiece (acc : State × Nat) (p : Piece) : MapKept acc.1 (losePiece acc p).1 := by
  rw [losePiece_eq]
  exact mapKept_resolvePiece _ _ _ acc p

theorem mapKept_failPiece (acc : State × Nat × List Fragment) (p : Piece) : MapKept acc.1 (failPiece acc p).1 := by
  unfold failPiece
  dsimp only
  split
  · exact .refl _
  · split
    · exact .refl _
    · exact mapKept_losePiece (acc.1, acc.2.1) _

theorem mapKept_orphanPiece (acc : State × Nat) (p : Piece) : MapKept acc.1 (orphanPiece acc p).1 := by
  unfold orphanPiece
  split
  · exact .refl _
  · split
    · exact .refl _
    · split
      · exact mapKept_losePiece acc p
      · exact (mapKept_recordOutcome _ _ _).trans (mapKept_movePieces _ _ _ _)

theorem mapKept_writeFailed (s : State) (w : WriteOrder) : MapKept s (s.writeFailed w) := by
  unfold State.writeFailed
  refine MapKept.trans ?_ (mapKept_completeBand _ _ _)
  split
  · exact .foldl_fst mapKept_orphanPiece w.pieces (s, w.records)
  · exact (MapKept.foldl_fst mapKept_failPiece w.pieces (s, w.records, [])).trans (.of_same rfl rfl)

/-! ### LOSTREL records and Trims (R33, R86) -/

theorem mapKept_resolveLostrel (s : State) (r : Fragment) : MapKept s (s.resolveLostrel r) := by
  unfold State.resolveLostrel
  dsimp only
  exact (MapKept.setMap fun h => mapSorted_insertReloc h _ _ _).trans
    ((mapKept_modQueue _ _ _).trans (mapKept_clearPoolStalls _))

theorem mapKept_resolveLostrels (s : State) : MapKept s s.resolveLostrels := .foldl mapKept_resolveLostrel _ s

theorem mapKept_cutAll (s : State) {a b : Nat} (hab : a < b) : MapKept s (s.cutAll a b) := by
  unfold State.cutAll
  refine MapKept.trans (.of_same (by simp) (by simp)) (.setMap fun h => mapSorted_cutRange ?_ hab)
  simpa [State.mapInForm] using h

theorem mapKept_applyTrim (s : State) (a b : Nat) : MapKept s (s.applyTrim a b) := by
  by_cases hab : a < b
  · obtain ⟨t, released, h⟩ := applyTrim_eq s hab
    have cut : MapKept s (State.cutAll { s with table := t } a b) :=
      (MapKept.table s t).trans (mapKept_cutAll _ hab)
    rw [h]
    cases released
    · exact cut.trans (.of_same (by simp) (by simp))
    · exact cut.trans (.of_same (by simp) (by simp))
  · rw [State.applyTrim, if_neg hab]
    exact .refl s

/-! ### The Relocation Engine (chapter 7) -/

theorem mapKept_endRun (s : State) (x : Status) : MapKept s (s.endRun x) := by
  unfold State.endRun
  dsimp only
  split
  · exact .engine s _
  · exact (MapKept.engine s _).trans (mapKept_answerEntry _ _ _ _)

theorem mapKept_continueRun (s : State) : MapKept s s.continueRun := .ite (.engine s _) (mapKept_endRun s .ok)

theorem mapKept_victimReleased (s : State) : MapKept s s.victimReleased :=
  (MapKept.engine s { s.engine with deferred := none }).trans (.ite (mapKept_endRun _ _) (mapKept_continueRun _))

theorem mapKept_releaseBand (s : State) (b : Nat) : MapKept s (s.releaseBand b) := by
  have released : MapKept s ((s.modBand b Band.released).raiseBoth .relocationDone b) :=
    (MapKept.modBand s b Band.released fun _ => rfl).trans (mapKept_raiseBoth _ _ _)
  exact .thenIf released (mapKept_victimReleased _)

theorem mapKept_releaseEmptied (s : State) : MapKept s s.releaseEmptied := by
  refine .foldl (fun s x => ?_) _ s
  exact mapKept_releaseBand s x.2

theorem mapKept_abandonVictim (s : State) : MapKept s s.abandonVictim := by
  unfold State.abandonVictim
  split
  · exact .refl s
  · next b _ =>
    have back : MapKept s (s.modBand b fun r => { r.uncleaned with suspect := true }) :=
      .modBand s b _ Band.uncleaned_valid
    exact back.trans ((MapKept.engine _ _).trans (.ite (mapKept_endRun _ _) (mapKept_continueRun _)))

theorem mapKept_resetEngine (s : State) : MapKept s s.resetEngine := by
  have abandoned : ∀ t : State, MapKept t
      { (State.endRun { t with window := t.window.map Order.staleRead } .aborted) with engine := Engine.reset } := fun t =>
    ((MapKept.window t _).trans (mapKept_endRun _ .aborted)).trans (.engine _ _)
  unfold State.resetEngine
  dsimp only
  split
  · exact abandoned s
  · next b _ => exact (MapKept.modBand s b _ Band.uncleaned_valid).trans (abandoned _)

theorem mapKept_searchTrack (s : State) : MapKept s s.searchTrack := by
  unfold State.searchTrack
  split
  · exact .refl s
  · split <;> exact .engine s _

theorem mapKept_testGates (s : State) : MapKept s s.testGates := by
  unfold State.testGates
  split
  · exact .ite (.engine s _) (.refl s)
  · exact .refl s

theorem mapKept_advanceEngine (s : State) : MapKept s s.advanceEngine := by
  unfold State.advanceEngine
  split
  · split
    · have dropped : MapKept s (s.setHand none) := .engine s _
      exact .ite ((dropped.trans (mapKept_searchTrack _)).trans (mapKept_testGates _)) (mapKept_testGates s)
    · exact (mapKept_searchTrack s).trans (mapKept_testGates _)
  · exact .refl s

theorem mapKept_claimRead (s : State) (b : Nat) : MapKept s (s.claimRead b) := .modBand s b _ fun _ => rfl

theorem mapKept_issue (s : State) (o : Order) : MapKept s (s.issue o) := .of_same (by simp) (by simp)

theorem mapKept_grantReloc (s : State) : MapKept s s.grantReloc.1 := by
  unfold State.grantReloc
  split
  · exact .ite_fst (.engine s _)
      (.ite_fst (.engine s _) (((mapKept_claimRead s _).trans (mapKept_issue _ _)).trans (.engine _ _)))
  · exact .refl s

theorem mapKept_relocRead (s : State) (r : ReadOrder) (read : Nat → Bool) : MapKept s (s.relocRead r read) := by
  refine (mapKept_releaseRead s r.band).trans ?_
  unfold State.relocRead
  dsimp only
  split
  · exact .refl _
  · exact .engine _ _

theorem mapKept_relocTimedOut (s : State) (r : ReadOrder) : MapKept s (s.relocTimedOut r) :=
  (mapKept_releaseRead s r.band).trans (.ite (.engine _ _) (.ite (mapKept_releaseBand _ _) (mapKept_abandonVictim _)))

theorem mapKept_selectVictim (s : State) : MapKept s s.selectVictim := by
  unfold State.selectVictim
  split
  · split
    · exact mapKept_endRun s .ok
    · exact (MapKept.modBand s _ Band.cleaned fun _ => rfl).trans (.engine _ _)
  · exact .refl s

theorem mapKept_makeRecords (s : State) : MapKept s s.makeRecords := by
  unfold State.makeRecords
  split
  · split
    · exact .ite (.of_same (by simp) (by simp)) (.refl s)
    · exact .refl s
  · exact .refl s

end Sys2Proof.Machine

namespace Sys2Proof.Machine

/-! PROOFS. What every operation keeps of the map, the second part: the spindle, the Gets, placement, start-up, the media port,
Puts and resets (used for O5 and O6). -/

namespace MapKept
variable {s : State}

theorem fetchList (rs : List FetchRead) : MapKept s { s with fetchList := rs } := of_same rfl rfl

/-- A change of the media path's own fields. -/
theorem media {p : PathState} {d : Option Nat} {m r w e : Bool} {g : List GeoOrder} : MapKept s { s with
    path := p, deadline := d, mediaReset := m, recoveryWait := r, startWait := w, escalation := e, geometry := g } :=
  of_same rfl rfl

/-- A change of start-up's own fields. -/
theorem startUp {x : Service} {g : StartStage} {w : Bool} {o : List GeoOrder} :
    MapKept s { s with service := x, stage := g, startWait := w, geometry := o } := of_same rfl rfl

end MapKept

/-! ### Spindle Control (chapter 8) -/

theorem mapKept_startSpin (s : State) : MapKept s s.startSpin := .spindle s _

theorem mapKept_release (s : State) : MapKept s s.release := by
  unfold State.release
  split
  · exact mapKept_startSpin s
  · exact mapKept_startSpin s
  · exact .spindle s _
  · exact .spindle s _
  · exact .refl s
  · exact .refl s

theorem mapKept_returnSpinning (s : State) (x : Status) : MapKept s (s.returnSpinning x) := by
  unfold State.returnSpinning
  dsimp only
  split
  · exact (MapKept.spindle s _).trans (mapKept_answerAll _ _ _)
  · exact (MapKept.spindle s _).trans ((mapKept_answerEntry _ _ _ _).trans (mapKept_answerAll _ _ _))

theorem mapKept_comeToRest (s : State) : MapKept s s.comeToRest := by
  unfold State.comeToRest
  dsimp only
  cases s.spindle.quiesce with
  | none => exact .thenIf (.spindle s _) (mapKept_startSpin _)
  | some k => exact .thenIf ((MapKept.spindle s _).trans (mapKept_answerEntry _ _ _ _)) (mapKept_startSpin _)

theorem mapKept_spunUp (s : State) : MapKept s s.spunUp := by
  have answered : MapKept s (State.answerAll { s with spindle := Spindle.turning } s.spindle.wakes .ok) :=
    (MapKept.spindle s _).trans (mapKept_answerAll _ _ _)
  unfold State.spunUp
  dsimp only
  split
  · exact (MapKept.thenIf answered (mapKept_raiseBoth _ _ _)).trans .startUp
  · exact .thenIf answered (mapKept_raiseBoth _ _ _)

theorem mapKept_spinFailed (s : State) : MapKept s s.spinFailed := (MapKept.spindle s _).trans (mapKept_answerAll _ _ _)

theorem mapKept_motionTimedOut (s : State) (m : Motion) : MapKept s (s.motionTimedOut m) :=
  .ite (.ite (.spindle s _) (.refl s)) (mapKept_returnSpinning s _)

theorem mapKept_spindleDown (s : State) : MapKept s s.spindleDown := by
  unfold State.spindleDown
  split
  · exact mapKept_spinFailed s
  · exact mapKept_returnSpinning s _
  · exact mapKept_returnSpinning s _
  · exact .refl s

/-! ### The Fetch Unit (chapter 6) -/

theorem mapKept_modSlot (s : State) (i : Fin 16) (f : FetchSlot → FetchSlot) : MapKept s (s.modSlot i f) := .of_same rfl rfl

theorem mapKept_enterTable (s : State) (k : Key) (i : EntryInfo) : MapKept s (s.enterTable k i) := .of_same (by simp) (by simp)

theorem mapKept_startGet (s : State) (k : Key) (i : Fin 16) (lsa count : Nat) (sectors : List SlotSector)
    (reads : List FetchRead) : MapKept s (s.startGet k i lsa count sectors reads) := by
  have claimed : ∀ t, MapKept t (reads.foldl (fun s r => s.claimRead r.band) t) :=
    MapKept.foldl (fun s r => mapKept_claimRead s r.band) reads
  have taken : ∀ x, MapKept s (reads.foldl (fun s r => s.claimRead r.band) ((s.enterTable k .get).modSlot i x)) := fun x =>
    ((mapKept_enterTable s k .get).trans (mapKept_modSlot _ i x)).trans (claimed _)
  exact .ifElse ((taken _).trans (.fetchList _)) (mapKept_release _)

theorem mapKept_takeGet (s : State) (k : Key) (lsa count : Nat) : MapKept s (s.takeGet k lsa count) := by
  unfold State.takeGet
  split
  · exact mapKept_answerNow _ _ _ _ _
  · split
    · exact mapKept_answerNow _ _ _ _ _
    · dsimp only
      split
      · exact mapKept_answerNow _ _ _ _ _
      · exact mapKept_startGet _ _ _ _ _ _ _

theorem mapKept_takePatternGet (s : State) (k : Key) (lsa count : Nat) : MapKept s (s.takePatternGet k lsa count) :=
  .ite (mapKept_answerNow _ _ _ _ _) (.ite (mapKept_answerNow _ _ _ _ _) (mapKept_enterTable _ _ _))

theorem mapKept_pushFrame (s : State) (l : Link) (f : OutFrame) : MapKept s (s.pushFrame l f) := .of_same (by simp) (by simp)

theorem mapKept_modPort (s : State) (l : Link) (f : Port → Port) : MapKept s (s.modPort l f) := .of_same (by simp) (by simp)

theorem mapKept_deliverPattern (s : State) (e : ReqEntry) : MapKept s (s.deliverPattern e) := by
  unfold State.deliverPattern
  split
  · have sent : ∀ es f, MapKept s (State.pushFrame { s with table := es } e.reply f) := fun es f =>
      (MapKept.table s es).trans (mapKept_pushFrame _ _ f)
    exact .ite (.refl s) (.thenIf (sent _ _) (mapKept_answerEntry _ _ _ _))
  · exact .refl s

theorem mapKept_failRead (s : State) (f : FetchRead) (left : List (Nat × Nat)) : MapKept s (s.failRead f left) :=
  ((mapKept_modSlot s _ _).trans (mapKept_setSuspect _ _)).trans (mapKept_releaseRead _ _)

theorem mapKept_fetchCompleted (s : State) (f : FetchRead) (read : Nat → Bool) : MapKept s (s.fetchCompleted f read) := by
  unfold State.fetchCompleted
  refine .ite (.ite ((mapKept_modSlot s _ _).trans (mapKept_releaseRead _ _)) ?_) (mapKept_releaseRead _ _)
  split
  · exact (mapKept_modSlot s _ _).trans (.fetchList _)
  · exact (mapKept_modSlot s _ _).trans (mapKept_failRead _ _ _)

theorem mapKept_downRead (s : State) (f : FetchRead) : MapKept s (s.downRead f) :=
  (MapKept.ite (mapKept_modSlot s _ _) (.refl s)).trans (mapKept_releaseRead _ _)

theorem mapKept_fetchTimedOut (s : State) (f : FetchRead) (down : Bool) : MapKept s (s.fetchTimedOut f down) :=
  .ite (mapKept_releaseRead _ _) (.ite (mapKept_failRead _ _ _) (.ite (mapKept_downRead _ _) (.fetchList _)))

theorem mapKept_fetchDown (s : State) : MapKept s s.fetchDown := (MapKept.fetchList []).trans (.foldl mapKept_downRead _ _)

theorem mapKept_deliverSlot (s : State) (i : Fin 16) : MapKept s (s.deliverSlot i) := by
  unfold State.deliverSlot
  dsimp only
  split
  · split
    · exact .refl s
    · exact .ite ((mapKept_modPort s _ _).trans ((mapKept_answerEntry _ _ _ _).trans (mapKept_modSlot _ _ _)))
        ((mapKept_modPort s _ _).trans (mapKept_modSlot _ _ _))
  · exact .refl s

theorem mapKept_deliver (s : State) : MapKept s s.deliver :=
  (MapKept.foldl mapKept_deliverSlot _ s).trans (.foldl mapKept_deliverPattern _ _)

theorem mapKept_cancelSlot (s : State) (i : Fin 16) : MapKept s (s.cancelSlot i) := by
  have released : ∀ (l : List FetchRead) (t : State), MapKept t (l.foldl (fun s r => s.releaseRead r.band) t) :=
    MapKept.foldl fun s (r : FetchRead) => mapKept_releaseRead s r.band
  exact .ite (((MapKept.fetchList _).trans (released _ _)).trans (mapKept_modSlot _ _ _)) (.refl s)

theorem mapKept_freeEnded (s : State) : MapKept s s.freeEnded := by
  unfold State.freeEnded
  exact .of_same rfl rfl

theorem mapKept_fetchDelivered (s : State) (f : FetchRead) (position : Nat) (data : Sector) :
    MapKept s (s.fetchDelivered f position data) := .ite (mapKept_modSlot s _ _) (.refl s)

/-! ### Placement (chapter 4) -/

theorem mapKept_issueWrite (s : State) (q : Fin 16) (b : Nat) (r : Band) (built : Build) (emergency : Bool) :
    MapKept s (s.issueWrite q b r built emergency) := by
  have moved : MapKept s ((s.movePieces (built.split.bind (·.origin)) 1 2).modBand b fun r => { r with issued := r.issued + 1 }) :=
    (mapKept_movePieces s _ 1 2).trans (.modBand _ b _ fun _ => rfl)
  unfold State.issueWrite
  dsimp only
  exact moved.trans (.of_same (by simp) (by simp))

theorem mapKept_serveBand (s : State) (q : Fin 16) (b : Nat) (emergency : Bool) : MapKept s (s.serveBand q b emergency).1 := by
  unfold State.serveBand
  split
  · exact .refl s
  · dsimp only
    split
    · exact .of_same rfl rfl
    · exact mapKept_issueWrite s q b _ _ emergency

theorem mapKept_serveQueue (s : State) (q : Fin 16) (emergency : Bool) : MapKept s (s.serveQueue q emergency).1 := by
  unfold State.serveQueue
  split
  · exact mapKept_serveBand s q _ emergency
  · split
    · exact .refl s
    · next b _ =>
      have opened : MapKept s (s.modBand b (Band.open_ q)) := .modBand s b _ fun _ => rfl
      exact .ite_fst (opened.trans (mapKept_serveBand _ q b emergency)) opened

theorem mapKept_placementLoop (emergency : Bool) (n : Nat) (tried : List (Fin 16)) (last : Fin 16) (s : State) :
    MapKept s (placementLoop emergency n tried last s).1 := by
  induction n generalizing tried last s with
  | zero => exact .refl s
  | succ n ih =>
    unfold placementLoop
    split
    · exact .refl s
    · next q _ =>
      have served := mapKept_serveQueue s q emergency
      exact .ite_fst served (served.trans (ih _ _ _))

/-! ### Start-up (R176 to R179) -/

theorem mapKept_clearReads (s : State) : MapKept s s.clearReads :=
  (MapKept.mapBands s (fun b => { b with pendingReads := 0 }) fun _ => rfl).trans (mapKept_releaseEmptied _)

theorem mapKept_enterService (s : State) : MapKept s s.enterService := by
  have closed : ∀ t : State, MapKept t (t.mapBands fun b => b.skipRest.shut.uncleaned) := fun t =>
    .mapBands t _ fun b => by rw [Band.uncleaned_valid, Band.shut_valid, Band.skipRest_valid]
  exact .thenIf (((mapKept_clearReads s).trans (closed _)).trans .startUp) (mapKept_raiseBoth _ _ _)

theorem mapKept_nextFooter (s : State) : MapKept s s.nextFooter := by
  unfold State.nextFooter
  split
  · exact mapKept_enterService s
  · exact .startUp

theorem mapKept_advanceStartUp (s : State) : MapKept s s.advanceStartUp :=
  .ite (.ite ((mapKept_clearReads s).trans (mapKept_nextFooter _)) (mapKept_enterService s)) (.refl s)

theorem mapKept_insertFooterPiece (band base : Nat) (s : State) (p : FooterPiece) :
    MapKept s (s.insertFooterPiece band base p) := by
  have inserted : ∀ r : Inserted, (s.mapInForm → mapSorted r.entries = true) → ∀ x y,
      MapKept s ((((s.setMap r.entries).noteHeadroom x y).raiseLost r.dropped).releaseEmptied) := fun r h x y =>
    (((MapKept.setMap h).trans (mapKept_noteHeadroom _ x y)).trans (mapKept_raiseLost _ _)).trans (mapKept_releaseEmptied _)
  refine inserted _ (fun h => ?_) _ _
  split
  · exact mapSorted_insertHost h _ _
  · exact mapSorted_insertReloc h _ _ _

theorem mapKept_footerRead (s : State) (band track : Nat) (footer : Option Sector) :
    MapKept s (s.footerRead band track footer) := by
  unfold State.footerRead
  refine MapKept.trans ?_ (mapKept_nextFooter _)
  split
  · exact (MapKept.foldl (mapKept_insertFooterPiece _ _) _ s).trans (.modBand _ _ _ fun _ => rfl)
  · exact .modBand s _ _ Band.skipRest_valid

/-- R177: without the format mark there is no map, and no band whose count could differ from it. -/
theorem mapKept_blank (s : State) (x : Option Layout) : MapKept s { s with layout := x, bands := [], map := [] } where
  form := fun _ => rfl
  counts := fun _ i b hb => by simp at hb

theorem mapKept_readMapMemory (s : State) : MapKept s s.readMapMemory := by
  have profiles : ∀ ps, MapKept s { s with profiles := ps } := fun _ => .of_same rfl rfl
  exact .ite (profiles _) ((profiles _).trans (mapKept_blank _ _))

theorem mapKept_startUpSpin (s : State) : MapKept s s.startUpSpin := (MapKept.startUp).trans (mapKept_startSpin _)

theorem mapKept_beginStartUp (s : State) : MapKept s s.beginStartUp := by
  have waiting : ∀ t : State, MapKept t { t with stage := .waitReady, path := .offline, startWait := true } :=
    fun _ => .of_same rfl rfl
  exact .ite ((mapKept_readMapMemory s).trans (waiting _)) (.refl s)

/-! ### The Media Port (chapter 5) -/

theorem mapKept_geometryLost (s : State) (x : Status) (g : GeoOrder) : MapKept s (s.geometryLost x g) := by
  have lost : ∀ f k, MapKept s ((s.modProfile g.profile f).answerEntry k x .none) := fun f k =>
    (.of_same (by simp) (by simp) : MapKept s (s.modProfile g.profile f)).trans (mapKept_answerEntry _ _ _ _)
  unfold State.geometryLost
  split
  · exact lost _ _
  · exact .refl s
  · exact .refl s

theorem mapKept_footerTimedOut (s : State) (r : ReadOrder) : MapKept s (s.footerTimedOut r) :=
  .ite .startUp (mapKept_footerRead s _ _ _)

theorem mapKept_failOrder (s : State) (down : Bool) (o : Order) : MapKept s (s.failOrder down o) := by
  cases o with
  | write w => exact mapKept_writeFailed s w
  | read r =>
    unfold State.failOrder
    dsimp only
    split
    · exact mapKept_fetchTimedOut s _ down
    · exact .ite (mapKept_releaseRead s _) (mapKept_relocTimedOut s r)
    · exact mapKept_footerTimedOut s r
  | geometry g => exact mapKept_geometryLost s _ g
  | motion m => exact mapKept_motionTimedOut s m

theorem mapKept_orderLeft (s : State) : MapKept s s.orderLeft := .of_same rfl rfl

theorem mapKept_failOrders (down : Bool) (os : List Order) (s : State) : MapKept s (failOrders down os s) := by
  induction os generalizing s with
  | nil => exact .refl s
  | cons o rest ih =>
    rw [failOrders_cons]
    exact (((MapKept.window s rest).trans (mapKept_failOrder _ down o)).trans (mapKept_orderLeft _)).trans (ih _)

theorem mapKept_withdrawAll (s : State) : MapKept s s.withdrawAll := by
  have withdrawn : ∀ gs : List GeoOrder, ∀ t, MapKept t (gs.foldl (fun s g => s.geometryLost .mediaDown g) t) :=
    MapKept.foldl fun s g => mapKept_geometryLost s _ g
  have fetches : MapKept s (State.fetchDown { s with geometry := [] }) := (MapKept.media).trans (mapKept_fetchDown _)
  unfold State.withdrawAll
  exact (((fetches.trans (withdrawn _ _)).trans (mapKept_spindleDown _)).trans .media).trans
    ((mapKept_raiseBoth _ _ _).trans (mapKept_answerAll _ _ _))

theorem mapKept_enterDown (s : State) : MapKept s s.enterDown := by
  have withdrawn : MapKept s (failOrders true s.window { s with path := .down }).withdrawAll :=
    ((MapKept.media).trans (mapKept_failOrders true s.window _)).trans (mapKept_withdrawAll _)
  exact .thenIf withdrawn (mapKept_enterService _)

theorem mapKept_enterRecovering (s : State) : MapKept s s.enterRecovering := by
  have failed : MapKept s (failOrders false s.window { s with path := .recovering }) :=
    (MapKept.media).trans (mapKept_failOrders false s.window _)
  exact .thenIf ((failed.trans .media).trans (mapKept_raiseBoth _ _ _)) (mapKept_enterDown _)

theorem mapKept_mediaFault (s : State) : MapKept s s.mediaFault :=
  .ite (.ite (mapKept_enterDown s) (mapKept_enterRecovering s)) (.refl s)

theorem mapKept_motionCompleted (s : State) (m : Motion) (done : Bool) : MapKept s (s.motionCompleted m done) := by
  unfold State.motionCompleted
  split
  · exact mapKept_spunUp s
  · exact mapKept_comeToRest s
  · exact mapKept_returnSpinning s _
  · exact .ite ((MapKept.spindle s _).trans (mapKept_enterRecovering _)) (mapKept_enterDown s)

theorem mapKept_geometryCompleted (s : State) (g : GeoOrder) (done : Bool) : MapKept s (s.geometryCompleted g done) := by
  have installed : ∀ f k, MapKept s ((s.modProfile g.profile f).answerEntry k .ok .none) := fun f k =>
    (.of_same (by simp) (by simp) : MapKept s (s.modProfile g.profile f)).trans (mapKept_answerEntry _ _ _ _)
  unfold State.geometryCompleted
  split
  · exact installed _ _
  · exact mapKept_geometryLost s _ g
  · exact .refl s
  · exact mapKept_enterDown s

theorem mapKept_readCompleted (s : State) (r : ReadOrder) (c : Completion) : MapKept s (s.readCompleted r c) := by
  unfold State.readCompleted
  split
  · exact mapKept_fetchCompleted s _ _
  · exact .ite (mapKept_releaseRead s _) (mapKept_relocRead s r _)
  · exact mapKept_footerRead s _ _ _

theorem mapKept_orderCompleted (s : State) (c : Completion) (o : Order) : MapKept s (s.orderCompleted c o) := by
  cases o with
  | write w => exact .ite (mapKept_writeDone s w) (mapKept_writeFailed s w)
  | read r => exact mapKept_readCompleted s r c
  | geometry g => exact mapKept_geometryCompleted s g _
  | motion m => exact mapKept_motionCompleted s m _

theorem mapKept_takeCompletion (s : State) (kind : Nat) (c : Completion) : MapKept s (s.takeCompletion kind c) := by
  have left : ∀ rest, MapKept s (State.startDeadline { s with window := rest }).orderLeft := fun _ => .of_same rfl rfl
  unfold State.takeCompletion
  refine .ite (.refl s) ?_
  split
  · exact mapKept_mediaFault s
  · exact .ite ((left _).trans (mapKept_orderCompleted _ c _)) (mapKept_mediaFault s)

theorem mapKept_landSector (s : State) (r : ReadOrder) (sector : Nat) (data : Sector) : MapKept s (s.landSector r sector data) := by
  unfold State.landSector
  split
  · exact mapKept_fetchDelivered s _ _ _
  · exact .ite (.refl s) (.engine s _)
  · split
    · exact .startUp
    · exact .refl s

theorem mapKept_takeSector (s : State) (sector : Nat) (data : Sector) (check : BitVec 32) :
    MapKept s (s.takeSector sector data check) := by
  unfold State.takeSector
  refine .ite (.refl s) ?_
  split
  · exact .ite ((MapKept.window s _).trans (mapKept_landSector _ _ _ _)) (mapKept_mediaFault s)
  · exact mapKept_mediaFault s

theorem mapKept_sequencerReady (s : State) : MapKept s s.sequencerReady := by
  unfold State.sequencerReady
  split
  · have ready : MapKept s { s with path := .ready, startWait := false } := .media
    exact .ite (.refl s) (.ite (ready.trans (mapKept_startUpSpin _)) ready)
  · have recovered : ∀ g x, MapKept s { s with
        path := .ready, recoveryWait := false, escalation := true, stage := x, geometry := g } := fun _ _ => .of_same rfl rfl
    exact (recovered _ _).trans (mapKept_answerAll _ _ _)
  · exact .refl s
  · exact .refl s

theorem mapKept_orTry {s : State} {r : State × Bool} {f : State → State × Bool} (hr : MapKept s r.1)
    (hf : ∀ t, MapKept t (f t).1) : MapKept s (orTry r f).1 := .ite_fst hr (hr.trans (hf _))

theorem mapKept_ranFetch (s : State) (emergency candidate : Bool) : MapKept s (s.ranFetch emergency candidate) :=
  .ite (.refl s) (.of_same rfl rfl)

theorem mapKept_grantFetch (emergency candidate : Bool) (s : State) : MapKept s (State.grantFetch emergency candidate s).1 := by
  unfold State.grantFetch
  split
  · exact ((MapKept.startUp).trans (mapKept_issue _ _)).trans (mapKept_ranFetch _ _ _)
  · split
    · exact .refl s
    · exact ((MapKept.fetchList _).trans (mapKept_issue _ _)).trans (mapKept_ranFetch _ _ _)

theorem mapKept_grantRelocRead (s : State) : MapKept s s.grantRelocRead.1 := .ite_fst (mapKept_grantReloc s) (.refl s)

theorem mapKept_grantWrite (stands : Bool) (s : State) : MapKept s (State.grantWrite stands s).1 :=
  .ite_fst (mapKept_placementLoop _ _ _ _ s) (.refl s)

theorem mapKept_grantTransfer (s : State) : MapKept s s.grantTransfer.1 := by
  unfold State.grantTransfer
  refine .ite_fst ?_ (.ite_fst ?_ ?_)
  · exact mapKept_orTry (mapKept_orTry (mapKept_orTry (mapKept_grantRelocRead s) (mapKept_grantWrite _)) (mapKept_grantFetch _ _))
      (mapKept_grantWrite _)
  · exact mapKept_orTry (mapKept_orTry (mapKept_grantWrite _ s) (mapKept_grantFetch _ _)) mapKept_grantRelocRead
  · exact mapKept_orTry (mapKept_orTry (mapKept_grantFetch _ _ s) (mapKept_grantWrite _)) mapKept_grantRelocRead

theorem mapKept_grantMedia (s : State) : MapKept s s.grantMedia := by
  unfold State.grantMedia
  refine .ite (.refl s) ?_
  split
  · exact .ite ((MapKept.spindle s _).trans (mapKept_issue _ _)) (.refl s)
  · split
    · exact (MapKept.media).trans (mapKept_issue _ _)
    · exact .ite (mapKept_grantTransfer s) (.refl s)

/-! ### Puts, marks and hold timers (R52, R53, R59 to R61) -/

theorem mapKept_answerPut (s : State) (k : Key) (p : PutInfo) : MapKept s (s.answerPut k p) := by
  have acknowledged : MapKept s (s.acknowledge k) := by
    unfold State.acknowledge
    exact .of_same (by simp) (by simp)
  exact (MapKept.ite acknowledged (.refl s)).trans (mapKept_answerEntry _ _ _ _)

theorem mapKept_answerPutEntry (s : State) (e : ReqEntry) : MapKept s (s.answerPutEntry e) := by
  unfold State.answerPutEntry
  split
  · exact .ite (mapKept_answerPut s _ _) (.refl s)
  · exact .refl s

theorem mapKept_answerPuts (s : State) : MapKept s s.answerPuts := .foldl mapKept_answerPutEntry _ s

theorem mapKept_mapQueues (s : State) (f : Fin 16 → Queue → Queue) : MapKept s (s.mapQueues f) := .of_same rfl rfl

theorem mapKept_clearMarks (s : State) : MapKept s s.clearMarks := by
  unfold State.clearMarks
  refine (mapKept_mapQueues s _).trans (.foldl (fun s k => ?_) _ _)
  exact .ite (.refl s) (mapKept_answerEntry s k _ _)

theorem mapKept_holdTimers (s : State) : MapKept s s.holdTimers := mapKept_mapQueues s _

/-! ### Resets (R171 to R175) -/

theorem mapKept_convertRecord (acc : State × Nat) (r : Fragment) : MapKept acc.1 (convertRecord acc r).1 := by
  unfold convertRecord
  dsimp only
  exact ((MapKept.setMap fun h => mapSorted_insertHost h _ _).trans (mapKept_noteHeadroom _ _ _)).trans (mapKept_raiseLost _ _)

theorem mapKept_convertRecords (s : State) : MapKept s s.convertRecords := .foldl_fst mapKept_convertRecord _ (s, 0)

theorem mapKept_abortSlot (s : State) (i : Fin 16) : MapKept s (s.abortSlot i) :=
  .ite ((mapKept_answerEntry s _ _ _).trans (mapKept_cancelSlot _ i)) (.refl s)

theorem mapKept_defaults (s : State) : MapKept s s.defaults := by
  unfold State.defaults
  exact .of_same rfl rfl

theorem mapKept_resetWaits (s : State) (n : Option Nat) : MapKept s { s with resetWaits := n } := .of_same rfl rfl

theorem mapKept_performReset (s : State) (one : Bool) : MapKept s (s.performReset one) := by
  have converted : ∀ es, MapKept s { s.convertRecords.releaseEmptied with table := es } := fun _ =>
    ((mapKept_convertRecords s).trans (mapKept_releaseEmptied _)).trans (.table _ _)
  have emptied : ∀ t : State,
      MapKept t (((t.mapQueues fun _ q => q.emptied).mapWrites WriteOrder.orphan).mapBands Band.shut) := fun t =>
    (.of_same (by simp) (by simp) : MapKept t ((t.mapQueues fun _ q => q.emptied).mapWrites WriteOrder.orphan)).trans
      (.mapBands _ _ Band.shut_valid)
  have aborted : ∀ t : State, MapKept t (allQueues.foldl State.abortSlot t.resetEngine) := fun t =>
    (mapKept_resetEngine t).trans (.foldl mapKept_abortSlot _ _)
  have answered : ∀ (t : State) (gets flushes : List Key),
      MapKept t ((t.answerAll gets .aborted).answerAll flushes .aborted).answerPuts :=
    fun t _ _ => ((mapKept_answerAll t _ _).trans (mapKept_answerAll _ _ _)).trans (mapKept_answerPuts _)
  unfold State.performReset
  exact (MapKept.thenIf ((((converted _).trans (emptied _)).trans (aborted _)).trans (answered _ _ _)) (mapKept_defaults _)).trans
    (mapKept_resetWaits _ _)

theorem mapKept_takeReset (s : State) (k : Key) (level : Nat) : MapKept s (s.takeReset k level) := by
  have work := mapKept_performReset s (level = 1)
  exact .ite (.ite (work.trans (mapKept_answerNow _ _ _ _ _)) (work.trans (.of_same (by simp) (by simp))))
    (mapKept_answerNow s _ _ _ _)

theorem mapKept_answerReset (s : State) (r : ResetRecord) : MapKept s (s.answerReset r) := by
  have emptied : MapKept s { s with resetRecord := none } := .of_same rfl rfl
  exact .ifElse emptied (mapKept_pushFrame _ _ _)

theorem mapKept_finishReset (s : State) : MapKept s s.finishReset := by
  unfold State.finishReset
  refine .ite ?_ (.refl s)
  dsimp only
  split
  · exact mapKept_resetWaits s none
  · exact (mapKept_resetWaits s none).trans (mapKept_answerReset _ _)

end Sys2Proof.Machine

namespace Sys2Proof.Machine

/-! PROOFS. What every operation keeps of the map, the third part: the links, the settling of a step, the requests and the
commands; and that every step keeps the map's form and the band valid counts (O5, O6). -/

/-! ### Link failures (R151 to R156) -/

theorem mapKept_raise (s : State) (l : Link) (k : Notice) (d : Nat) : MapKept s (s.raise l k d) := .of_same (by simp) (by simp)

theorem mapKept_abandonPut (s : State) (k : Key) : MapKept s (s.abandonPut k) := (mapKept_mapQueues s _).trans (.table _ _)

theorem mapKept_abandonPuts (s : State) (l : Link) : MapKept s (s.abandonPuts l) := .foldl mapKept_abandonPut _ s

theorem mapKept_answerAbandoned (s : State) (k : Key) : MapKept s (s.answerAbandoned k) := by
  unfold State.answerAbandoned
  split
  · exact .ite (mapKept_answerPut s _ _) (.refl s)
  · exact .refl s

theorem mapKept_discardOwed (s : State) (l : Link) : MapKept s (s.discardOwed l) := by
  unfold State.discardOwed
  exact .of_same rfl rfl

theorem mapKept_failPart (s : State) (l : Link) : MapKept s (s.failPart l) :=
  .ifElse (mapKept_discardOwed s l) (mapKept_performReset _ false)

theorem mapKept_failPaired (s : State) (l : Link) (x : LinkState) (frames : List OutFrame) :
    MapKept s (s.failPaired l x frames) := by
  have redirected : ∀ es r, MapKept s { s with table := es, resetRecord := r } := fun _ _ => .of_same rfl rfl
  exact ((((redirected _ _).trans (mapKept_abandonPuts _ l)).trans (.foldl mapKept_answerAbandoned _ _)).trans
    (mapKept_modPort _ _ _)).trans (mapKept_raise _ _ _ _)

theorem mapKept_dropGet (s : State) (i : Fin 16) : MapKept s (s.dropGet i) :=
  .ite ((mapKept_cancelSlot s i).trans (.table _ _)) (.refl s)

theorem mapKept_failUnpaired (s : State) (l : Link) : MapKept s (s.failUnpaired l) :=
  ((mapKept_discardOwed s l).trans (mapKept_abandonPuts _ l)).trans (.foldl mapKept_dropGet _ _)

theorem mapKept_linkFails (s : State) (l : Link) (x : LinkState) : MapKept s (s.linkFails l x) :=
  (mapKept_modPort s l _).trans
    (.ite (.refl _) (.ite (mapKept_failPart _ l) (.ite (mapKept_failPaired _ l x _) (mapKept_failUnpaired _ l))))

/-! ### Units received and sent (R147 to R152, R167) -/

theorem mapKept_unitArrives (s : State) (l : Link) : MapKept s (s.unitArrives l) :=
  .ite ((mapKept_modPort s l _).trans (mapKept_raise _ _ _ _)) (.refl s)

theorem mapKept_creditArrives (s : State) (l : Link) : MapKept s (s.creditArrives l) :=
  (mapKept_unitArrives s l).trans (.ite (.ite (mapKept_linkFails _ l _) (mapKept_modPort _ l _)) (.refl _))

theorem mapKept_frameArrives (s : State) (l : Link) (good : Bool) (f : InFrame) : MapKept s (s.frameArrives l good f) :=
  (mapKept_unitArrives s l).trans (.ite (.ite (mapKept_linkFails _ l _) (mapKept_modPort _ l _)) (.refl _))

theorem mapKept_linkSilent (s : State) (l : Link) : MapKept s (s.linkSilent l) := .ite (mapKept_linkFails s l _) (.refl s)

theorem mapKept_quietEnds (s : State) (l : Link) : MapKept s (s.quietEnds l) := .ite (mapKept_modPort s l _) (.refl s)

theorem mapKept_holdLink (s : State) (l : Link) : MapKept s (s.holdLink l) := by
  unfold State.holdLink
  split
  · exact mapKept_linkFails s l _
  · exact mapKept_modPort s l _
  · exact mapKept_modPort s l _
  · exact .refl s

theorem mapKept_takeHold (s : State) (k : Key) (named : Nat) : MapKept s (s.takeHold k named) :=
  .ite ((mapKept_holdLink s _).trans (mapKept_answerNow _ _ _ _ _)) (mapKept_answerNow s _ _ _ _)

theorem mapKept_takeRelease (s : State) (k : Key) (named : Nat) : MapKept s (s.takeRelease k named) :=
  .ite (.ite ((mapKept_modPort s _ _).trans (mapKept_answerNow _ _ _ _ _)) (mapKept_answerNow s _ _ _ _))
    (mapKept_answerNow s _ _ _ _)

theorem mapKept_freeSlot (s : State) (l : Link) : MapKept s (s.freeSlot l) := .of_same (by simp) (by simp)

theorem mapKept_frameGone (s : State) (l : Link) : MapKept s (s.frameGone l) := by
  have released : ∀ (t : State) (f : OutFrame), MapKept t (t.frameReleases l f) := by
    intro t f
    unfold State.frameReleases
    split
    · exact mapKept_freeSlot t l
    · exact mapKept_freeSlot t l
    · exact .table t _
    · exact .refl t
    · exact .refl t
  unfold State.frameGone
  split
  · exact (mapKept_modPort s l _).trans (released _ _)
  · exact .refl s

/-! ### The settling of a step -/

theorem mapKept_startRelocation (s old : State) (ended : Bool) : MapKept s (s.startRelocation old ended) :=
  .ite (.thenIf (.engine s _) (mapKept_release _)) (.refl s)

theorem mapKept_raiseSpace (s old : State) : MapKept s (s.raiseSpace old) := .foldl (fun s _ => mapKept_raiseBoth s _ _) _ s

theorem mapKept_settleRecords (s : State) : MapKept s s.settleRecords :=
  ((((mapKept_advanceStartUp s).trans (mapKept_resolveLostrels _)).trans (mapKept_releaseEmptied _)).trans
    (mapKept_advanceEngine _)).trans ((mapKept_deliver _).trans (mapKept_freeEnded _))

theorem mapKept_settleRequests (s old : State) : MapKept s (s.settleRequests old) :=
  (((mapKept_answerPuts s).trans (mapKept_clearMarks _)).trans (mapKept_mapQueues _ _)).trans (mapKept_finishReset _)

theorem mapKept_settleWork (s old : State) (ended : Bool) : MapKept s (s.settleWork old ended) := by
  have stalls : ∀ t : State, MapKept t (t.clearStalls old) := fun t => .ite (mapKept_clearPoolStalls t) (.refl t)
  have asked : ∀ t : State, MapKept t (t.askRelease old) := fun t => .ite (mapKept_release t) (.refl t)
  exact ((((mapKept_startRelocation s old ended).trans (mapKept_holdTimers _)).trans (stalls _)).trans (asked _)).trans
    (mapKept_raiseSpace _ old)

theorem mapKept_beginSending (s : State) : MapKept s s.beginSending := .of_same rfl rfl

theorem mapKept_settle (s old : State) : MapKept s (s.settle old) := by
  have sending : ∀ t : State, MapKept t t.storeStalls.beginSending := fun t =>
    (mapKept_mapQueues t _).trans (mapKept_beginSending _)
  exact (((mapKept_settleRecords s).trans (mapKept_settleRequests _ old)).trans (mapKept_settleWork _ old _)).trans (sending _)

/-! ### Frames taken (R159, R182) -/

theorem mapKept_takeFrame (s : State) (l : Link) (good : Bool) (f : InFrame) {meaning : State → State}
    (h : ∀ p, MapKept p (meaning p)) : MapKept s (s.takeFrame l good f meaning) := by
  have ready : MapKept s (s.frameReady l good f) := .ite (mapKept_frameArrives s l good f) (.refl s)
  unfold State.takeFrame
  split
  · exact ready
  · next p hp =>
    have taken : MapKept (s.frameReady l good f) p := by
      unfold State.frameTaken at hp
      split at hp
      · cases hp
      · split at hp
        · rw [← Option.some.inj hp]
          exact mapKept_modPort _ l _
        · cases hp
    exact (ready.trans taken).trans (h p)

theorem mapKept_handOver (s : State) (k : Key) (r : Request) {owner : Key → State → State}
    (h : ∀ k p, MapKept p (owner k p)) : MapKept s (s.handOver k r owner) := by
  unfold State.handOver
  split
  · exact mapKept_answerNow s _ _ _ _
  · exact h k s

theorem mapKept_takeRequest (s : State) (l : Link) (tag : Tag) (r : Request) {owner : Key → State → State}
    (h : ∀ k p, MapKept p (owner k p)) : MapKept s (s.takeRequest l tag r owner) :=
  mapKept_takeFrame s l true _ fun p => mapKept_handOver p _ r h

theorem mapKept_answerIf (s : State) (k : Key) (kind : Nat) (ok : Bool) (x : Status) {effect : State → State}
    (h : MapKept s (effect s)) : MapKept s (s.answerIf k kind ok x effect) :=
  .ite (h.trans (mapKept_answerNow _ _ _ _ _)) (mapKept_answerNow s _ _ _ _)

theorem mapKept_answerQuery (s : State) (k : Key) (r : Except Status (List Field)) : MapKept s (s.answerQuery k r) := by
  cases r <;> exact mapKept_answerNow s _ _ _ _

theorem mapKept_countRead (s : State) : MapKept s s.countRead := .of_same rfl rfl

/-! ### Requests, by kind -/

theorem mapKept_admitPut (s : State) (k : Key) (q : Fin 15) (lsa count durability : Nat) :
    MapKept s (s.admitPut k q lsa count durability) := by
  unfold State.admitPut
  dsimp only
  split <;> exact .of_same (by simp) (by simp)

theorem mapKept_takePut (lsa count durability : Nat) (k : Key) (s : State) :
    MapKept s (State.takePut lsa count durability k s) := by
  unfold State.takePut
  split
  · exact mapKept_answerNow s _ _ _ _
  · dsimp only
    split
    · exact mapKept_answerNow s _ _ _ _
    · exact mapKept_admitPut s k _ lsa count durability

theorem mapKept_takeData (s : State) (l : Link) (f : DataFrame) : MapKept s (s.takeData l f) := by
  have accepted : ∀ k p data, MapKept s (s.acceptData k p data) := fun k p data =>
    (MapKept.table s _).trans (mapKept_modQueue _ _ _)
  unfold State.takeData
  split
  · exact .ite (accepted _ _ _) (.refl s)
  · exact .refl s

theorem mapKept_takeTrim (lsa count : Nat) (k : Key) (s : State) : MapKept s (State.takeTrim lsa count k s) := by
  have counted : MapKept s { s with sequence := s.sequence + 1 } := .of_same rfl rfl
  unfold State.takeTrim
  split
  · exact mapKept_answerNow s _ _ _ _
  · exact (counted.trans (mapKept_applyTrim _ _ _)).trans (mapKept_answerNow _ _ _ _ _)

theorem mapKept_setMark (k : Key) (s : State) (q : Fin 16) : MapKept s (State.setMark k s q) :=
  (mapKept_modQueue s q _).trans (.window _ _)

theorem mapKept_takeFlush (queue : Nat) (k : Key) (s : State) : MapKept s (State.takeFlush queue k s) := by
  unfold State.takeFlush
  refine .ite (mapKept_answerNow s _ _ _ _) ?_
  split
  · exact mapKept_answerNow s _ _ _ _
  · exact .ite (mapKept_answerNow s _ _ _ _) ((mapKept_enterTable s _ _).trans (.foldl (mapKept_setMark k) _ _))

theorem mapKept_takeSelect (queue : Nat) (k : Key) (s : State) : MapKept s (State.takeSelect queue k s) := by
  unfold State.takeSelect
  split
  · exact (mapKept_modPort s _ _).trans (mapKept_answerNow _ _ _ _ _)
  · exact .ite ((mapKept_modPort s _ _).trans (mapKept_answerNow _ _ _ _ _)) (mapKept_answerNow s _ _ _ _)

theorem mapKept_takeClean (band : Nat) (k : Key) (s : State) : MapKept s (State.takeClean band k s) := by
  unfold State.takeClean
  split
  · exact mapKept_answerNow s _ _ _ _
  · exact (MapKept.engine s _).trans (mapKept_enterTable _ _ _)

theorem mapKept_takeDivision (depths : List Nat) (k : Key) (s : State) : MapKept s (State.takeDivision depths k s) := by
  refine .ite (mapKept_answerNow s _ _ _ _) (mapKept_answerIf s _ _ _ _ ?_)
  refine (mapKept_mapQueues s _).trans (.mapBands _ _ fun b => ?_)
  split
  · exact Band.shut_valid b
  · rfl

theorem mapKept_setThresholds (s : State) (q : Fin 16) (offset hold : Nat) : MapKept s (s.setThresholds q offset hold) := by
  rw [setThresholds_eq]
  exact mapKept_modQueue s q _

theorem mapKept_takeThresholds (v : Option (Nat × Nat × Nat)) (k : Key) (s : State) : MapKept s (State.takeThresholds v k s) := by
  unfold State.takeThresholds
  split
  · exact mapKept_answerNow s _ _ _ _
  · split
    · exact mapKept_answerIf s _ _ _ _ (mapKept_setThresholds s _ _ _)
    · exact mapKept_answerNow s _ _ _ _

theorem mapKept_takeIntervals (v : Option (Nat × List Interval)) (k : Key) (s : State) : MapKept s (State.takeIntervals v k s) := by
  unfold State.takeIntervals
  split
  · exact mapKept_answerNow s _ _ _ _
  · split
    · exact mapKept_answerIf s _ _ _ _ (.of_same rfl rfl)
    · exact mapKept_answerNow s _ _ _ _

theorem mapKept_takeMarks (v : Option (Nat × Nat × Nat)) (k : Key) (s : State) : MapKept s (State.takeMarks v k s) := by
  unfold State.takeMarks
  split
  · exact mapKept_answerNow s _ _ _ _
  · exact mapKept_answerIf s _ _ _ _ (.of_same rfl rfl)

theorem mapKept_takeLinkMode (v : Option Nat) (k : Key) (s : State) : MapKept s (State.takeLinkMode v k s) := by
  refine .ite (mapKept_answerNow s _ _ _ _) ?_
  split
  · exact mapKept_answerNow s _ _ _ _
  · exact mapKept_answerIf s _ _ _ _ (mapKept_modPort s _ _)

theorem mapKept_takeScope (v : Option (Nat × Nat)) (k : Key) (s : State) : MapKept s (State.takeScope v k s) := by
  unfold State.takeScope
  split
  · exact mapKept_answerNow s _ _ _ _
  · exact mapKept_answerIf s _ _ _ _ (.of_same rfl rfl)

theorem mapKept_takeKinds (v : Option (Nat × Nat)) (k : Key) (effect : List Notice → Port → Port) (s : State) :
    MapKept s (State.takeKinds v k effect s) := by
  unfold State.takeKinds
  split
  · exact mapKept_answerNow s _ _ _ _
  · split
    · exact mapKept_answerNow s _ _ _ _
    · exact mapKept_answerIf s _ _ _ _ (mapKept_modPort s _ _)

theorem mapKept_takeOrderLimit (v : Option Nat) (k : Key) (s : State) : MapKept s (State.takeOrderLimit v k s) := by
  unfold State.takeOrderLimit
  split
  · exact mapKept_answerNow s _ _ _ _
  · exact mapKept_answerIf s _ _ _ _ (.of_same rfl rfl)

theorem mapKept_takeLoad (profile sectors tracks verify : Nat) (k : Key) (s : State) :
    MapKept s (State.takeLoad profile sectors tracks verify k s) := by
  have entered : ∀ f, MapKept s ((s.modProfile profile f).enterTable k .loadProfile) := fun _ => .of_same (by simp) (by simp)
  unfold State.takeLoad
  split
  · exact mapKept_answerNow s _ _ _ _
  · exact (entered _).trans .media

theorem mapKept_takeFormat (logical bands : Nat) (ranges : List LayoutRange) (k : Key) (s : State) :
    MapKept s (State.takeFormat logical bands ranges k s) := by
  have formatting : ∀ x, MapKept s { s with format := .formatting, formatting := some x } := fun _ => .of_same rfl rfl
  unfold State.takeFormat
  dsimp only
  split
  · exact mapKept_answerNow s _ _ _ _
  · exact (formatting _).trans (mapKept_enterTable _ _ _)

/-- R8: the bands of a new Band Table hold nothing. -/
theorem Layout.table_valid {x : Layout} {b : Band} (h : b ∈ x.table) : b.valid = 0 := by
  obtain ⟨r, _, hb⟩ := List.mem_flatMap.mp h
  rw [List.eq_of_mem_replicate hb]
  rfl

/-- R8: a Format empties the map, and writes a Band Table whose bands hold nothing. -/
theorem mapKept_formatted (s : State) (f : FormatState) (l w : Option Layout) (e : Engine) (x : Layout) : MapKept s { s with
    format := f, layout := l, formatting := w, bands := x.table, map := [], engine := e } where
  form := fun _ => rfl
  counts := fun _ _ _ hb => Layout.table_valid (List.mem_of_getElem? hb)

theorem mapKept_completeFormat (s : State) : MapKept s s.completeFormat := by
  unfold State.completeFormat
  split
  · exact ((mapKept_formatted s _ _ _ _ _).trans (mapKept_mapQueues _ _)).trans (mapKept_answerAll _ _ _)
  · exact .refl s

theorem mapKept_takeQuiesce (target release interval : Nat) (k : Key) (s : State) :
    MapKept s (State.takeQuiesce target release interval k s) := by
  unfold State.takeQuiesce
  split
  · exact mapKept_answerNow s _ _ _ _
  · exact (MapKept.spindle s _).trans (mapKept_enterTable _ _ _)

theorem mapKept_takeWake (k : Key) (s : State) : MapKept s (State.takeWake k s) :=
  .ite (mapKept_answerNow s _ _ _ _) <| .ite (mapKept_answerNow s _ _ _ _) <| .ite (mapKept_answerNow s _ _ _ _) <|
    ((MapKept.spindle s _).trans (mapKept_enterTable _ _ _)).trans (mapKept_release _)

theorem mapKept_takeRestart (k : Key) (s : State) : MapKept s (State.takeRestart k s) :=
  .ite (((mapKept_enterTable s _ _).trans (mapKept_enterRecovering _)).trans (mapKept_release _)) (mapKept_answerNow s _ _ _ _)

theorem mapKept_takeMalformed (s : State) (l : Link) (bytes : List Byte) : MapKept s (s.takeMalformed l bytes) := by
  unfold State.takeMalformed
  split
  · exact mapKept_takeFrame s l _ _ fun p => mapKept_pushFrame p _ _
  · exact mapKept_takeFrame s l _ _ fun p => mapKept_handOver p _ _ fun k p => mapKept_answerNow p _ _ _ _
  · exact .refl s

theorem mapKept_wakeTimerExpires (s : State) : MapKept s s.wakeTimerExpires :=
  .ite (.ifElse (.spindle s _) (mapKept_release _)) (.refl s)

/-! ### Commands and steps -/

/-- A command's own effect and what the step settles. -/
theorem mapKept_finish {s X t : State} (h : MapKept s X) (ht : finish s X = .next t) : MapKept s t := by
  cases ht
  exact h.trans (mapKept_settle X s)

theorem mapKept_exec {c : Instr} {s t : State} (h : exec c s = .next t) : MapKept s t := by
  cases c with
  | level0Reset =>
    cases h
    exact .of_same rfl rfl
  | put l tag lsa count durability => exact mapKept_finish (mapKept_takeRequest s l tag _ (mapKept_takePut lsa count durability)) h
  | dataFrame l f =>
    exact mapKept_finish (mapKept_takeFrame s l true _ fun p => (mapKept_takeData p l f).trans (mapKept_freeSlot _ l)) h
  | get l tag lsa count =>
    exact mapKept_finish (mapKept_takeRequest s l tag _ fun k p =>
      .ite (mapKept_takePatternGet p k lsa count) (mapKept_takeGet p k lsa count)) h
  | trim l tag lsa count => exact mapKept_finish (mapKept_takeRequest s l tag _ (mapKept_takeTrim lsa count)) h
  | flush l tag queue => exact mapKept_finish (mapKept_takeRequest s l tag _ (mapKept_takeFlush queue)) h
  | select l tag queue => exact mapKept_finish (mapKept_takeRequest s l tag _ (mapKept_takeSelect queue)) h
  | clean l tag band => exact mapKept_finish (mapKept_takeRequest s l tag _ (mapKept_takeClean band)) h
  | setQueueDivision l tag depths => exact mapKept_finish (mapKept_takeRequest s l tag _ (mapKept_takeDivision depths)) h
  | setQueueThresholds l tag v => exact mapKept_finish (mapKept_takeRequest s l tag _ (mapKept_takeThresholds v)) h
  | setIntervals l tag v => exact mapKept_finish (mapKept_takeRequest s l tag _ (mapKept_takeIntervals v)) h
  | setSpaceMarks l tag v => exact mapKept_finish (mapKept_takeRequest s l tag _ (mapKept_takeMarks v)) h
  | setLinkMode l tag v => exact mapKept_finish (mapKept_takeRequest s l tag _ (mapKept_takeLinkMode v)) h
  | setErrorScope l tag v => exact mapKept_finish (mapKept_takeRequest s l tag _ (mapKept_takeScope v)) h
  | setNoticeEnables l tag v =>
    exact mapKept_finish (mapKept_takeRequest s l tag _ fun k p => mapKept_takeKinds v k Port.enable p) h
  | setOrderLimit l tag v => exact mapKept_finish (mapKept_takeRequest s l tag _ (mapKept_takeOrderLimit v)) h
  | setClearPendingNotices l tag v =>
    exact mapKept_finish (mapKept_takeRequest s l tag _ fun k p => mapKept_takeKinds v k Port.clearPending p) h
  | queryBandRecord l tag band => exact mapKept_finish (mapKept_takeRequest s l tag _ fun k p => mapKept_answerQuery p k _) h
  | queryQueueRecord l tag queue =>
    exact mapKept_finish (mapKept_takeRequest s l tag _ fun k p => (mapKept_answerQuery p k _).trans (mapKept_countRead _)) h
  | queryMapLookup l tag lsa => exact mapKept_finish (mapKept_takeRequest s l tag _ fun k p => mapKept_answerQuery p k _) h
  | queryCounts l tag => exact mapKept_finish (mapKept_takeRequest s l tag _ fun k p => mapKept_answerQuery p k _) h
  | queryMediaAndSpindleState l tag =>
    exact mapKept_finish (mapKept_takeRequest s l tag _ fun k p => (mapKept_answerQuery p k _).trans (mapKept_countRead _)) h
  | queryRelocationState l tag => exact mapKept_finish (mapKept_takeRequest s l tag _ fun k p => mapKept_answerQuery p k _) h
  | queryLinkStatesAndTableUse l tag =>
    exact mapKept_finish (mapKept_takeRequest s l tag _ fun k p => mapKept_answerQuery p k _) h
  | queryProfileRecord l tag profile => exact mapKept_finish (mapKept_takeRequest s l tag _ fun k p => mapKept_answerQuery p k _) h
  | querySetting l tag item => exact mapKept_finish (mapKept_takeRequest s l tag _ fun k p => mapKept_answerQuery p k _) h
  | loadProfile l tag profile sectors tracks verify =>
    exact mapKept_finish (mapKept_takeRequest s l tag _ (mapKept_takeLoad profile sectors tracks verify)) h
  | format l tag logical bands ranges =>
    exact mapKept_finish (mapKept_takeRequest s l tag _ (mapKept_takeFormat logical bands ranges)) h
  | formatComplete => exact mapKept_finish (mapKept_completeFormat s) h
  | quiesce l tag target release interval =>
    exact mapKept_finish (mapKept_takeRequest s l tag _ (mapKept_takeQuiesce target release interval)) h
  | wake l tag => exact mapKept_finish (mapKept_takeRequest s l tag _ mapKept_takeWake) h
  | reset l tag level => exact mapKept_finish (mapKept_takeRequest s l tag _ fun k p => mapKept_takeReset p k level) h
  | holdLinkHold l tag named => exact mapKept_finish (mapKept_takeRequest s l tag _ fun k p => mapKept_takeHold p k named) h
  | holdLinkRelease l tag named => exact mapKept_finish (mapKept_takeRequest s l tag _ fun k p => mapKept_takeRelease p k named) h
  | mediaRestart l tag => exact mapKept_finish (mapKept_takeRequest s l tag _ mapKept_takeRestart) h
  | malformed l bytes => exact mapKept_finish (mapKept_takeMalformed s l bytes) h
  | idleReceived l => exact mapKept_finish (mapKept_unitArrives s l) h
  | creditReceived l => exact mapKept_finish (mapKept_creditArrives s l) h
  | frameReceived l bytes => exact mapKept_finish (mapKept_frameArrives s l _ _) h
  | frameSent l => exact mapKept_finish (mapKept_frameGone s l) h
  | noticeSent l => exact mapKept_finish (mapKept_modPort s l _) h
  | linkSilenceTimeout l => exact mapKept_finish (mapKept_linkSilent s l) h
  | quietIntervalEnd l => exact mapKept_finish (mapKept_quietEnds s l) h
  | startUp => exact mapKept_finish (mapKept_beginStartUp s) h
  | sequencerReady => exact mapKept_finish (mapKept_sequencerReady s) h
  | sequencerReadyWithdrawn => exact mapKept_finish (mapKept_mediaFault s) h
  | writeTrackCompletion c => exact mapKept_finish (mapKept_takeCompletion s 1 c) h
  | readTrackCompletion c => exact mapKept_finish (mapKept_takeCompletion s 2 c) h
  | geometryCompletion c => exact mapKept_finish (mapKept_takeCompletion s 3 c) h
  | motionCompletion kind c => exact mapKept_finish (.ite (mapKept_takeCompletion s kind c) (mapKept_mediaFault s)) h
  | sectorDelivery sector data check => exact mapKept_finish (mapKept_takeSector s sector data check) h
  | deadlineExpiry => exact mapKept_finish (.ite (mapKept_mediaFault s) (.refl s)) h
  | recoveryWaitEnd => exact mapKept_finish (.ite (mapKept_enterDown s) (.refl s)) h
  | startupWaitEnd => exact mapKept_finish (.ite (mapKept_enterDown s) (.refl s)) h
  | escalationTimerExpiry => exact mapKept_finish (.media) h
  | holdTimerExpiry q => exact mapKept_finish (mapKept_modQueue s q _) h
  | wakeTimerExpiry => exact mapKept_finish (mapKept_wakeTimerExpires s) h
  | mediaGrant => exact mapKept_finish (mapKept_grantMedia s) h
  | victimSelection => exact mapKept_finish (mapKept_selectVictim s) h
  | relocationRecords => exact mapKept_finish (mapKept_makeRecords s) h

theorem mapKept_step {s t : State} (h : step s = .next t) : MapKept s t := by
  unfold step at h
  split at h
  · cases h
    exact .refl s
  · next rest _ =>
    have waiting : MapKept s { s with pending := rest } := .of_same rfl rfl
    exact waiting.trans (mapKept_exec h)

/-- Settles O5: every operation that changes the map moves the counts with it, and no other changes either. -/
theorem validCountsAreKept : Obligations.ValidCountsAreKept := fun _ _ hs h => (mapKept_step h).counts hs

/-- Settles O6: every change of the map is an insert, a cut or an emptying, each of which leaves it in form. -/
theorem mapFormIsKept : Obligations.MapFormIsKept := fun _ _ hs h => (mapKept_step h).form hs

end Sys2Proof.Machine

namespace Sys2Proof.Machine

/-! PROOFS. The state after reset, and the ends of the timers (O3, O46). -/

/-! ### The state after reset -/

theorem reset_queue (q : Fin 16) : State.reset.queue q = Queue.reset := by
  simp [State.queue, State.reset]

theorem reset_slot (i : Fin 16) : State.reset.slot i = FetchSlot.empty := by
  simp [State.slot, State.reset]

theorem reset_port (l : Link) : State.reset.port l = Port.reset := by
  cases l <;> rfl

/-- The path being OFFLINE, every queue stands stalled for MEDIA (R70, R100). -/
theorem reset_stallOf (q : Fin 16) : State.reset.stallOf q = .media := by
  simp [State.stallOf, State.reset]

theorem reset_slotsInUse (l : Link) : State.reset.slotsInUse l = 0 := by
  simp [State.slotsInUse, State.reset, FetchSlot.empty]

/-- Nothing is staged, ordered, fetched or owed, so each invariant is about no record, or about the values of R42, R67, R100 and
R148. -/
theorem reset_sound : State.reset.Sound where
  validCounts := fun i b hb => by simp [State.reset] at hb
  mapInForm := rfl
  windowFits := Nat.zero_le _
  fetchRunFits := Nat.zero_le _
  creditsFit := ⟨Nat.zero_le _, Nat.zero_le _⟩
  stallsStand := fun q => by rw [reset_queue, reset_stallOf]; rfl
  noTimer15 := by rw [State.noTimer15, reset_queue]; rfl
  noneEmptied := fun b hb => by simp [State.reset] at hb
  tableFits := ⟨Nat.zero_le _, fun _ => Nat.zero_le _, List.nodup_nil⟩
  slotsFit := fun l => by simp [reset_slotsInUse]
  counterInRange := ⟨Nat.le_refl _, by decide⟩
  putsAnswered := fun e he => by simp [State.reset] at he
  marksStand := fun q _ hm => by simp [reset_queue, Queue.reset] at hm
  fillsStand := fun q hf => by simp [reset_queue, Queue.reset] at hf
  heldOffline := fun _ => ⟨rfl, rfl, rfl, rfl⟩
  patternsServed := fun e he => by simp [State.reset] at he
  slotsServed := fun i hi => by simp [reset_slot, FetchSlot.empty] at hi

/-- Settles O3: the values are those of the records a reset leaves. -/
theorem resetState : Obligations.ResetState := by
  refine ⟨⟨rfl, rfl, rfl, rfl, rfl, rfl, rfl, rfl, rfl, rfl, rfl, rfl, rfl, rfl, rfl, rfl, rfl, rfl, fun l => ?ports, fun q => ?queues⟩,
    reset_sound⟩
  case ports =>
    rw [reset_port]
    exact ⟨rfl, rfl, rfl, rfl, rfl, rfl, rfl⟩
  case queues =>
    rw [reset_queue]
    exact ⟨rfl, rfl, rfl, rfl, rfl, rfl, rfl⟩

/-! ### Media faults (R91, R99, R104) -/

theorem mediaFault_recovers {s : State} (hp : s.path = .ready) (he : s.escalation = false) : s.mediaFault = s.enterRecovering := by
  simp [State.mediaFault, hp, he]

theorem mediaFault_downs {s : State} (hp : s.path = .ready) (he : s.escalation = true) : s.mediaFault = s.enterDown := by
  simp [State.mediaFault, hp, he]

theorem mediaFault_idle {s : State} (hp : s.path ≠ .ready) : s.mediaFault = s := if_neg hp

theorem gives_readyWithdrawn {s X : State} (h : s.mediaFault = X) : Gives .sequencerReadyWithdrawn s X :=
  gives_of_finish (h ▸ rfl)

theorem gives_deadlineExpiry {s X : State} (hd : s.deadline ≠ none) (h : s.mediaFault = X) : Gives .deadlineExpiry s X := by
  refine gives_of_finish (congrArg (finish s) ?_)
  rw [if_pos (Option.isSome_iff_ne_none.mpr hd), h]

theorem gives_deadlineExpiry_idle {s : State} (hd : s.deadline = none) : Gives .deadlineExpiry s s :=
  gives_of_finish (congrArg (finish s) (if_neg (by simp [hd])))

/-! ### Timers (R59, R100, R103, R142) -/

theorem gives_recoveryWaitEnd {s X : State} (h : (if s.recoveryWait then s.enterDown else s) = X) : Gives .recoveryWaitEnd s X :=
  gives_of_finish (congrArg (finish s) h)

theorem gives_startupWaitEnd {s X : State} (h : (if s.startWait then s.enterDown else s) = X) : Gives .startupWaitEnd s X :=
  gives_of_finish (congrArg (finish s) h)

theorem modQueue_congr {s : State} {q : Fin 16} {f g : Queue → Queue} (h : f (s.queue q) = g (s.queue q)) :
    s.modQueue q f = s.modQueue q g := by
  simp only [State.modQueue]
  rw [show f s.queues[q] = g s.queues[q] from h]

theorem expire_running {s : State} {q : Fin 16} {i : Nat} (h : (s.queue q).timer = .running i) :
    (s.modQueue q fun x => { x with timer := x.timer.expire }) = s.modQueue q fun x => { x with timer := .expired } :=
  modQueue_congr (by rw [h]; rfl)

theorem expire_idle {s : State} {q : Fin 16} (h : (s.queue q).timer = .stopped ∨ (s.queue q).timer = .expired) :
    (s.modQueue q fun x => { x with timer := x.timer.expire }) = s := by
  have stays : (s.queue q).timer.expire = (s.queue q).timer := by
    rcases h with h | h <;> rw [h] <;> rfl
  have same : (s.modQueue q fun x => { x with timer := x.timer.expire }) = s.modQueue q fun x => x :=
    modQueue_congr (by rw [stays])
  rw [same, modQueue_same]

theorem gives_holdTimerExpiry {s X : State} {q : Fin 16} (h : (s.modQueue q fun x => { x with timer := x.timer.expire }) = X) :
    Gives (.holdTimerExpiry q) s X := gives_of_finish (congrArg (finish s) h)

theorem wakeTimerExpires_idle {s : State} (h : s.spindle.wakeTimer = none) : s.wakeTimerExpires = s := by
  simp [State.wakeTimerExpires, h]

theorem wakeTimerExpires_down {s : State} {i : Nat} (h : s.spindle.wakeTimer = some i) (hp : s.path = .down) :
    s.wakeTimerExpires = { s with spindle := { s.spindle with wakeTimer := none } } := by
  simp [State.wakeTimerExpires, h, hp]

theorem wakeTimerExpires_released {s : State} {i : Nat} (h : s.spindle.wakeTimer = some i) (hp : s.path ≠ .down)
    (hs : s.spindle.state = .parked ∨ s.spindle.state = .stopped) : s.wakeTimerExpires = s.startSpin := by
  have stopped : s.wakeTimerExpires = State.release { s with spindle := { s.spindle with wakeTimer := none } } := by
    simp [State.wakeTimerExpires, h, hp]
  exact stopped.trans (release_rests (s := { s with spindle := { s.spindle with wakeTimer := none } }) hs)

theorem gives_wakeTimerExpiry {s X : State} (h : s.wakeTimerExpires = X) : Gives .wakeTimerExpiry s X :=
  gives_of_finish (congrArg (finish s) h)

/-- Settles O46, by the path state and by whether each timer runs. -/
theorem mediaFaultsAndTimers : Obligations.MediaFaultsAndTimers := by
  refine ⟨fun s => ⟨fun hp he => ?_, fun hp he => ?_, fun hp => ?_, gives_deadlineExpiry_idle, ?_, ?_, ?_, ?_, ?_⟩,
    fun s => ⟨fun q i h => ?_, fun q h => ?_, fun i h hs => ⟨fun hp => ?_, fun hp => ?_⟩, fun h => ?_⟩⟩
  · exact ⟨gives_readyWithdrawn (mediaFault_recovers hp he), fun hd => gives_deadlineExpiry hd (mediaFault_recovers hp he)⟩
  · exact ⟨gives_readyWithdrawn (mediaFault_downs hp he), fun hd => gives_deadlineExpiry hd (mediaFault_downs hp he)⟩
  · refine ⟨gives_readyWithdrawn (mediaFault_idle hp), ?_⟩
    by_cases hd : s.deadline = none
    · exact gives_deadlineExpiry_idle hd
    · exact gives_deadlineExpiry hd (mediaFault_idle hp)
  · exact fun h => gives_recoveryWaitEnd (if_pos h)
  · exact fun h => gives_recoveryWaitEnd (if_neg (by simp [h]))
  · exact fun h => gives_startupWaitEnd (if_pos h)
  · exact fun h => gives_startupWaitEnd (if_neg (by simp [h]))
  · exact gives_of_finish rfl
  · exact gives_holdTimerExpiry (expire_running h)
  · exact gives_holdTimerExpiry (expire_idle h)
  · exact gives_wakeTimerExpiry (wakeTimerExpires_released h hp hs)
  · exact gives_wakeTimerExpiry (wakeTimerExpires_down h hp)
  · exact gives_wakeTimerExpiry (wakeTimerExpires_idle h)

end Sys2Proof.Machine

namespace Sys2Proof.Machine

/-! PROOFS. The Sets of the queue division, the thresholds, the intervals, the space marks and the order limit (O29, O30). -/

/-! ### Set queue division (R56) -/

/-- The form R56 gives a division. -/
abbrev DivisionForm (depths : List Nat) : Prop :=
  depths.length = 16 ∧ (∀ d ∈ depths, d ≤ 262144) ∧ 1024 ≤ depths.getD 15 0 ∧ depths.sum ≤ 262144

/-- No record is staged and no write order is in flight. -/
abbrev State.Unstaged (s : State) : Prop := (∀ q, (s.queue q).records = []) ∧ s.writeOrders = []

/-- What a division does to the queues and the Band Table. -/
def State.divided (s : State) (depths : List Nat) : State :=
  (s.mapQueues fun q x => { x with depth := depths.getD q.val 0, offset := min x.offset (depths.getD q.val 0) }).mapBands fun b =>
    if b.queue.any fun q => (s.queue q).depth != depths.getD q.val 0 then b.shut else b

theorem divisionForm_iff (depths : List Nat) : (depths.length == 16 && depths.all (· ≤ Config.stagingSectors) &&
    Config.relocationDepth ≤ depths.getD 15 0 && depths.sum ≤ Config.stagingSectors) = true ↔ DivisionForm depths := by
  simp only [Bool.and_eq_true, beq_iff_eq, List.all_eq_true, decide_eq_true_eq, and_assoc]

theorem unstaged_iff (s : State) :
    ((allQueues.all fun q => (s.queue q).records.isEmpty) && s.writeOrders.isEmpty) = true ↔ s.Unstaged := by
  simp [State.Unstaged, mem_allQueues]

theorem takeDivision_invalid {depths : List Nat} (h : ¬ DivisionForm depths) (k : Key) (s : State) :
    State.takeDivision depths k s = s.answerNow k 7 .invalid .none :=
  if_pos (by rw [Bool.not_eq_true', ← Bool.not_eq_true, divisionForm_iff]; exact h)

theorem takeDivision_valid {depths : List Nat} (h : DivisionForm depths) (k : Key) (s : State) :
    State.takeDivision depths k s = s.answerIf k 7
      ((allQueues.all fun q => (s.queue q).records.isEmpty) && s.writeOrders.isEmpty) .busy fun s => s.divided depths :=
  if_neg (by simpa only [Bool.not_eq_true', Bool.not_eq_false] using (divisionForm_iff depths).mpr h)

theorem gives_setQueueDivision {s p X : State} {l : Link} {tag : Tag} {depths : List Nat}
    (h : Takes s l tag (.setQueueDivision depths) p) (hX : State.takeDivision depths (key l tag) p = X) :
    Gives (.setQueueDivision l tag depths) s X := gives_takes rfl h hX

theorem divided_only (s : State) (depths : List Nat) :
    s.divided depths = { s with queues := (s.divided depths).queues, bands := (s.divided depths).bands } := by
  simp only [State.divided, State.mapBands, State.mapQueues]

theorem divided_queue (s : State) (depths : List Nat) (q : Fin 16) : (s.divided depths).queue q =
    { s.queue q with depth := depths.getD q.val 0, offset := min (s.queue q).offset (depths.getD q.val 0) } := by
  rw [State.divided, State.queue_congr (State.mapBands_queues _ _), State.mapQueues_queue]

/-- R13: a band of a queue whose depth changes is closed where it is OPEN. -/
theorem divided_band {s : State} {i : Nat} {b : Band} (hb : s.bands[i]? = some b) (depths : List Nat) :
    (s.divided depths).bands[i]? =
      some (if b.state = .opened ∧ ∃ q, b.queue = some q ∧ (s.queue q).depth ≠ depths.getD q.val 0 then
        { b with state := .closed, queue := none } else b) := by
  have changed : (b.queue.any fun q => (s.queue q).depth != depths.getD q.val 0) = true ↔
      ∃ q, b.queue = some q ∧ (s.queue q).depth ≠ depths.getD q.val 0 := by
    simp [Option.any_eq_true]
  have band : (s.divided depths).bands[i]? = some (if (b.queue.any fun q => (s.queue q).depth != depths.getD q.val 0) = true then
      b.shut else b) := by
    simp [State.divided, State.mapBands, hb]
  rw [band]
  simp only [changed, Band.shut, and_comm (a := b.state = .opened), ite_and]

/-- Settles O29, by the two checks. -/
theorem queueDivision : Obligations.QueueDivision := by
  intro s l tag depths p h
  dsimp only
  refine ⟨fun hf => ?invalid, fun hf hq => ?busy, fun hf hq => ⟨p.divided depths, ?passes, divided_only p depths, divided_queue p depths,
    fun i b hb => divided_band hb depths⟩⟩
  case invalid => exact gives_setQueueDivision h (takeDivision_invalid hf _ p)
  case busy =>
    exact gives_setQueueDivision h ((takeDivision_valid hf _ p).trans
      (answerIf_false (Bool.not_eq_true _ ▸ hq ∘ (unstaged_iff p).mp)))
  case passes =>
    exact gives_setQueueDivision h ((takeDivision_valid hf _ p).trans (answerIf_true ((unstaged_iff p).mpr hq)))

/-! ### Set queue thresholds (R57) -/

theorem hostQueue_of_val {queue : Nat} {q : Fin 16} (hq : q.val = queue) (h : queue < 15) : hostQueue ⟨queue, h⟩ = q :=
  Fin.ext hq.symm

theorem takeThresholds_host {queue : Nat} {q : Fin 16} (hq : q.val = queue) (h : queue < 15) (offset hold : Nat) (k : Key)
    (s : State) : State.takeThresholds (some (queue, offset, hold)) k s =
      s.answerIf k 7 (offset ≤ (s.queue q).depth && hold ≤ 60000) .invalid fun s => s.setThresholds q offset hold := by
  simp only [State.takeThresholds, dif_pos h, hostQueue_of_val hq h]

theorem takeThresholds_none (k : Key) (s : State) : State.takeThresholds none k s = s.answerNow k 7 .invalid .none := rfl

theorem takeThresholds_other {queue : Nat} (h : 15 ≤ queue) (offset hold : Nat) (k : Key) (s : State) :
    State.takeThresholds (some (queue, offset, hold)) k s = s.answerNow k 7 .invalid .none :=
  dif_neg (Nat.not_lt.mpr h)

theorem setThresholds_host {q : Fin 16} (h : q.val < 15) (s : State) (offset hold : Nat) : s.setThresholds q offset hold =
    s.modQueue q fun x => { x with offset := offset, hold := hold, almostFull := decide (s.space q ≤ offset) } := by
  simp [setThresholds_eq, h]

theorem gives_setQueueThresholds {s p X : State} {l : Link} {tag : Tag} {v : Option (Nat × Nat × Nat)}
    (h : Takes s l tag (.setQueueThresholds v) p) (hX : State.takeThresholds v (key l tag) p = X) :
    Gives (.setQueueThresholds l tag v) s X := gives_takes rfl h hX

/-! ### Set intervals (R48) -/

/-- R48's form of an Interval Table: each interval in its ranges, ascending and without overlap, behind a last LSA if there is one. -/
theorem intervalsSorted_iff (before : Option Nat) (is : List Interval) : intervalsSorted before is = true ↔
    (∀ i ∈ is, i.first ≤ i.last ∧ i.last ≤ 2 ^ 36 - 1 ∧ i.queue < 15) ∧ (is.Pairwise fun i j => i.last < j.first) ∧
      ∀ x, before = some x → ∀ i ∈ is, x < i.first := by
  induction is generalizing before with
  | nil => simp [intervalsSorted]
  | cons i rest ih =>
    have limit : i.last < Config.maxLogical ↔ i.last ≤ 2 ^ 36 - 1 := by
      rw [Config.maxLogical]
      omega
    have ahead : before.all (· < i.first) = true ↔ ∀ x, before = some x → x < i.first := by
      cases before <;> simp
    simp only [intervalsSorted, Bool.and_eq_true, decide_eq_true_eq, ih, limit, ahead, List.forall_mem_cons, List.pairwise_cons,
      Option.some.injEq, forall_eq']
    constructor
    · rintro ⟨⟨⟨⟨hle, hlast⟩, hq⟩, hx⟩, hall, hpair, hnext⟩
      exact ⟨⟨⟨hle, hlast, hq⟩, hall⟩, ⟨hnext, hpair⟩, fun x hb => ⟨hx x hb, fun j hj => by
        have := hx x hb
        have := hnext j hj
        omega⟩⟩
    · rintro ⟨⟨⟨hle, hlast, hq⟩, hall⟩, ⟨hnext, hpair⟩, hx⟩
      exact ⟨⟨⟨⟨hle, hlast⟩, hq⟩, fun x hb => (hx x hb).1⟩, hall, hpair, hnext⟩

/-- The values R48 lets a Set of the intervals have. -/
abbrev IntervalsForm (default : Nat) (is : List Interval) : Prop :=
  default < 15 ∧ is.length ≤ 32 ∧ (∀ i ∈ is, i.first ≤ i.last ∧ i.last ≤ 2 ^ 36 - 1 ∧ i.queue < 15) ∧
    is.Pairwise fun i j => i.last < j.first

theorem intervalsForm_iff {default : Nat} (h : default < 15) (is : List Interval) :
    (decide (is.length ≤ 32) && intervalsSorted none is) = true ↔ IntervalsForm default is := by
  simp [IntervalsForm, intervalsSorted_iff, h]

theorem takeIntervals_invalid {default : Nat} {is : List Interval} (h : ¬ IntervalsForm default is) (k : Key) (s : State) :
    State.takeIntervals (some (default, is)) k s = s.answerNow k 7 .invalid .none := by
  unfold State.takeIntervals
  dsimp only
  split
  · next hd => exact answerIf_false (by rwa [← Bool.not_eq_true, intervalsForm_iff hd])
  · rfl

theorem takeIntervals_valid {default : Nat} {is : List Interval} (h : IntervalsForm default is) {q : Fin 15} (hq : q.val = default)
    (k : Key) (s : State) : State.takeIntervals (some (default, is)) k s =
      State.answerNow { s with intervals := is, defaultQueue := q } k 7 .ok .none := by
  subst hq
  simp only [State.takeIntervals, dif_pos q.isLt]
  exact answerIf_true ((intervalsForm_iff q.isLt is).mpr h)

theorem gives_setIntervals {s p X : State} {l : Link} {tag : Tag} {v : Option (Nat × List Interval)}
    (h : Takes s l tag (.setIntervals v) p) (hX : State.takeIntervals v (key l tag) p = X) : Gives (.setIntervals l tag v) s X :=
  gives_takes rfl h hX

/-! ### Set space marks and order limit (R99, R125) -/

theorem takeMarks_some (reserve low high : Nat) (k : Key) (s : State) : State.takeMarks (some (reserve, low, high)) k s =
    if 1 ≤ reserve ∧ reserve < low ∧ low < high ∧ high ≤ 64 then
      State.answerNow { s with marks := ⟨reserve, low, high⟩ } k 7 .ok .none
    else s.answerNow k 7 .invalid .none := by
  simp [State.takeMarks, State.answerIf, and_assoc]

theorem gives_setSpaceMarks {s p X : State} {l : Link} {tag : Tag} {v : Option (Nat × Nat × Nat)}
    (h : Takes s l tag (.setSpaceMarks v) p) (hX : State.takeMarks v (key l tag) p = X) : Gives (.setSpaceMarks l tag v) s X :=
  gives_takes rfl h hX

theorem takeOrderLimit_some (ms : Nat) (k : Key) (s : State) : State.takeOrderLimit (some ms) k s =
    if 100 ≤ ms ∧ ms ≤ 10000 then State.answerNow { s with orderLimit := ms } k 7 .ok .none
    else s.answerNow k 7 .invalid .none := by
  simp [State.takeOrderLimit, State.answerIf]

theorem gives_setOrderLimit {s p X : State} {l : Link} {tag : Tag} {v : Option Nat}
    (h : Takes s l tag (.setOrderLimit v) p) (hX : State.takeOrderLimit v (key l tag) p = X) : Gives (.setOrderLimit l tag v) s X :=
  gives_takes rfl h hX

/-- Settles O30: each Set by whether its value has the form its rule gives. -/
theorem thresholdsIntervalsMarksAndLimit : Obligations.ThresholdsIntervalsMarksAndLimit := by
  refine ⟨fun s l tag v p h => ?thresholds, fun s l tag v p h => ?intervals, fun s l tag v p h => ?marks, fun s l tag v p h => ?limit⟩
  case thresholds =>
    dsimp only
    refine ⟨?_, fun queue offset hold hv => ⟨fun hq => ?_, fun q hq hhost => ⟨fun hbad => ?_, fun ho hh => ?_⟩⟩⟩
    · rintro rfl
      exact gives_setQueueThresholds h (takeThresholds_none _ p)
    · subst hv
      exact gives_setQueueThresholds h (takeThresholds_other hq offset hold _ p)
    · subst hv
      refine gives_setQueueThresholds h ((takeThresholds_host hq hhost offset hold _ p).trans (answerIf_false ?_))
      simpa [imp_iff_not_or, Nat.not_le] using hbad
    · subst hv
      refine gives_setQueueThresholds h ((takeThresholds_host hq hhost offset hold _ p).trans ?_)
      rw [answerIf_true (by simp [ho, hh]), setThresholds_host (hq ▸ hhost)]
  case intervals =>
    dsimp only
    refine ⟨?_, fun default is hv => ⟨fun hbad => ?_, fun hform q hq => ?_⟩⟩
    · rintro rfl
      exact gives_setIntervals h rfl
    · subst hv
      exact gives_setIntervals h (takeIntervals_invalid hbad _ p)
    · subst hv
      exact gives_setIntervals h (takeIntervals_valid hform hq _ p)
  case marks =>
    refine ⟨?_, fun reserve low high hv => ⟨fun hbad => ?_, fun h1 h2 h3 h4 => ?_⟩⟩
    · rintro rfl
      exact gives_setSpaceMarks h rfl
    · subst hv
      exact gives_setSpaceMarks h ((takeMarks_some _ _ _ _ p).trans (if_neg hbad))
    · subst hv
      exact gives_setSpaceMarks h ((takeMarks_some _ _ _ _ p).trans (if_pos ⟨h1, h2, h3, h4⟩))
  case limit =>
    refine ⟨?_, fun ms hv => ⟨fun hbad => ?_, fun h1 h2 => ?_⟩⟩
    · rintro rfl
      exact gives_setOrderLimit h rfl
    · subst hv
      exact gives_setOrderLimit h ((takeOrderLimit_some _ _ p).trans (if_neg (by omega)))
    · subst hv
      exact gives_setOrderLimit h ((takeOrderLimit_some _ _ p).trans (if_pos ⟨h1, h2⟩))

end Sys2Proof.Machine

namespace Sys2Proof.Machine

/-! PROOFS. The checks of a Put, its admission, and its data frames (O17, O18, O19). -/

/-! ### The checks of a Put (R49) -/

section
variable {s : State} {lsa count durability : Nat}

theorem putRefusal_durability (h : 1 < durability) : s.putRefusal lsa count durability = some .invalid := if_pos h

/-- Behind the check of the durability come the range, the service and the media path. -/
theorem putRefusal_valid (h : durability ≤ 1) : s.putRefusal lsa count durability =
    if InSpace s lsa count then s.serviceRefusal.or (if s.path = .down then some .mediaDown else none) else some .range := by
  by_cases hr : InSpace s lsa count
  · obtain ⟨h1, h256, hl⟩ := id hr
    rw [if_pos hr, State.putRefusal, if_neg (by omega), if_neg (by simp [h1, h256, hl])]
    cases s.serviceRefusal <;> rfl
  · rw [if_neg hr, State.putRefusal, if_neg (by omega), if_pos]
    simpa only [Bool.not_eq_true', ← Bool.not_eq_true, Bool.and_eq_true, decide_eq_true_eq, and_assoc] using hr

theorem putRefusal_range (h : durability ≤ 1) (hr : ¬ InSpace s lsa count) : s.putRefusal lsa count durability = some .range :=
  (putRefusal_valid h).trans (if_neg hr)

theorem putRefusal_unserving (h : durability ≤ 1) (hr : InSpace s lsa count) {r : Status} (hu : Unserving s r) :
    s.putRefusal lsa count durability = some r := by
  rw [putRefusal_valid h, if_pos hr, serviceRefusal_unserving hu, Option.some_or]

theorem putRefusal_serving (h : durability ≤ 1) (hr : InSpace s lsa count) (hs : Serving s) :
    s.putRefusal lsa count durability = if s.path = .down then some .mediaDown else none := by
  rw [putRefusal_valid h, if_pos hr, serviceRefusal_serving hs, Option.none_or]

theorem takePut_refused {r : Status} (h : s.putRefusal lsa count durability = some r) (k : Key) :
    State.takePut lsa count durability k s = s.answerNow k 1 r .none := by
  simp only [State.takePut, h]

/-- A Put refused for want of room reports its target queue and the queue's fill state. -/
theorem takePut_noRoom {r : Status} {k : Key} (h : s.putRefusal lsa count durability = none)
    (hr : s.roomRefusal (hostQueue (s.targetQueue k.origin lsa)) count = some r) :
    State.takePut lsa count durability k s = s.answerNow k 1 r
      (.put none (s.targetQueue k.origin lsa).val (s.queue (hostQueue (s.targetQueue k.origin lsa))).almostFull) := by
  simp only [State.takePut, h, hr]

theorem takePut_admits {k : Key} (h : s.putRefusal lsa count durability = none)
    (hr : s.roomRefusal (hostQueue (s.targetQueue k.origin lsa)) count = none) :
    State.takePut lsa count durability k s = s.admitPut k (s.targetQueue k.origin lsa) lsa count durability := by
  simp only [State.takePut, h, hr]

end

section
variable {s : State} {q : Fin 16} {count : Nat}

theorem roomRefusal_full (h : s.space q < count) : s.roomRefusal q count = some .full := if_pos h

theorem roomRefusal_poolEmpty (h : count ≤ s.space q) (hp : s.poolFree = 0) : s.roomRefusal q count = some .poolEmpty := by
  rw [State.roomRefusal, if_neg (by omega), if_pos (by omega)]

theorem roomRefusal_mapFull (h : count ≤ s.space q) (hp : 1 ≤ s.poolFree) (hh : s.headroom < 2) :
    s.roomRefusal q count = some .mapFull := by
  rw [State.roomRefusal, if_neg (by omega), if_neg (by omega), if_pos hh]

theorem roomRefusal_counter (h : count ≤ s.space q) (hp : 1 ≤ s.poolFree) (hh : 2 ≤ s.headroom) :
    s.roomRefusal q count = if s.sequence = 2 ^ 48 - 1 then some .failed else none := by
  rw [State.roomRefusal, if_neg (by omega), if_neg (by omega), if_neg (by omega)]

end

theorem gives_put {s p X : State} {l : Link} {tag : Tag} {lsa count durability : Nat}
    (h : Takes s l tag (.put lsa count durability) p) (hX : State.takePut lsa count durability (key l tag) p = X) :
    Gives (.put l tag lsa count durability) s X := gives_takes rfl h hX

/-- Settles O17, by the first check that refuses. -/
theorem putRefusals : Obligations.PutRefusals := by
  intro s l tag lsa count durability p h
  dsimp only
  refine ⟨fun hd => ?durability, fun hd => ⟨fun hr => ?range, fun hr => ⟨fun r hu => ?service, fun hs =>
    ⟨fun hpath => ?path, fun hpath => ?room⟩⟩⟩⟩
  case durability => exact gives_put h (takePut_refused (putRefusal_durability hd) _)
  case range => exact gives_put h (takePut_refused (putRefusal_range hd hr) _)
  case service => exact gives_put h (takePut_refused (putRefusal_unserving hd hr hu) _)
  case path => exact gives_put h (takePut_refused ((putRefusal_serving hd hr hs).trans (if_pos hpath)) _)
  case room =>
    have passed : p.putRefusal lsa count durability = none := (putRefusal_serving hd hr hs).trans (if_neg hpath)
    refine ⟨fun hf => ?full, fun hf => ⟨fun hp => ?pool, fun hp => ⟨fun hh => ?map, fun hh hc => ?counter⟩⟩⟩
    case full => exact gives_put h (takePut_noRoom passed (roomRefusal_full hf))
    case pool => exact gives_put h (takePut_noRoom passed (roomRefusal_poolEmpty hf hp))
    case map => exact gives_put h (takePut_noRoom passed (roomRefusal_mapFull hf hp hh))
    case counter => exact gives_put h (takePut_noRoom passed ((roomRefusal_counter hf hp hh).trans (if_pos hc)))

/-! ### The admission of a Put (R50, R58) -/

/-- A record joins the tail of a queue. -/
def State.stageRecord (s : State) (q : Fin 16) (r : Fragment) : State :=
  s.modQueue q fun x => { x with records := x.records ++ [r] }

theorem stageRecord_space (s : State) (q : Fin 16) (r : Fragment) : (s.stageRecord q r).space q = s.space q - r.length := by
  simp [State.stageRecord, State.space, State.occupancy, State.ordersOf, State.writeOrders]
  omega

theorem stageRecord_offset (s : State) (q : Fin 16) (r : Fragment) : ((s.stageRecord q r).queue q).offset = (s.queue q).offset := by
  simp [State.stageRecord]

/-- The fill state worked out behind an admission to a host queue. -/
theorem stageRecord_fillsUp (s : State) (q : Fin 15) (r : Fragment) : (s.stageRecord (hostQueue q) r).fillsUp (hostQueue q) =
    decide (s.space (hostQueue q) - r.length ≤ (s.queue (hostQueue q)).offset) := by
  rw [State.fillsUp, stageRecord_space, stageRecord_offset]
  simp

/-- An admission, with the fill state it leaves its queue in: its record, its entry, and what it raises. -/
theorem admitPut_eq (s : State) (l : Link) (tag : Tag) (q : Fin 15) (lsa count durability : Nat) {full : Bool}
    (h : full = true ↔ s.space (hostQueue q) - count ≤ (s.queue (hostQueue q)).offset) :
    s.admitPut (key l tag) q lsa count durability =
      let x := s.modQueue (hostQueue q) fun x => { x with records := x.records ++ [putRecord (key l tag) lsa count s.sequence] }
      let y := State.enterTable { x with sequence := s.sequence + 1 } (key l tag) (.put
        { lsa := lsa, count := count, durable := durability == 1, sequence := s.sequence, queue := q, almostFull := full,
          next := 0, settling := false, pieces := 1, outcome := .none })
      State.noteFalls (if full = true ∧ (s.queue (hostQueue q)).almostFull = false then
        y.raise l .queueAlmostFull q.val else y) s := by
  have fills : (s.stageRecord (hostQueue q) (putRecord (key l tag) lsa count s.sequence)).fillsUp (hostQueue q) = full := by
    rw [stageRecord_fillsUp, Bool.eq_iff_iff, decide_eq_true_eq, h]
    rfl
  rw [State.stageRecord] at fills
  simp only [State.admitPut, fills, Bool.and_eq_true, Bool.not_eq_true']

/-! ### Falls across a line (R39, R45) -/

theorem PendingOnBoth.notePool {s : State} {k : Notice} (h : PendingOnBoth s k) (a b : Nat) : PendingOnBoth (s.notePool a b) k := by
  unfold State.notePool
  split
  · exact h.raiseBoth _ _
  · exact h

theorem noteHeadroom_raises {s : State} {a b : Nat} (ha : 65536 ≤ a) (hb : b < 65536) :
    PendingOnBoth (s.noteHeadroom a b) .mapLow := by
  rw [State.noteHeadroom, if_pos ⟨ha, hb⟩]
  exact pendingOnBoth_raiseBoth s _ _

theorem notePool_raises {s : State} {a b : Nat} (ha : 256 ≤ a) (hb : b < 256) : PendingOnBoth (s.notePool a b) .poolLow := by
  rw [State.notePool, if_pos ⟨ha, hb⟩]
  exact pendingOnBoth_raiseBoth s _ _

theorem noteHeadroom_same {s : State} {a b : Nat} (h : a < 65536 ∨ 65536 ≤ b) : s.noteHeadroom a b = s :=
  if_neg (by rw [Config.mapLowLine]; omega)

theorem notePool_same {s : State} {a b : Nat} (h : a < 256 ∨ 256 ≤ b) : s.notePool a b = s :=
  if_neg (by rw [Config.poolLowLine]; omega)

/-- Settles O18: the admission as it is written, and the two lines one by one. -/
theorem putAdmission : Obligations.PutAdmission := by
  refine ⟨fun s l tag lsa count durability p q full h hd hr hs hpath hq hf hp hh hc hfull => ?admits,
    fun p t => ⟨fun hb ha => ?headroom, fun hb ha => ?pool, fun hb ha => ?neither⟩⟩
  case admits =>
    subst hq
    refine gives_put h ?_
    have passed : p.putRefusal lsa count durability = none := (putRefusal_serving hd hr hs).trans (if_neg hpath)
    rw [takePut_admits (k := key l tag) passed ((roomRefusal_counter hf hp hh).trans (if_neg hc))]
    exact admitPut_eq p l tag _ lsa count durability hfull
  case headroom => exact (noteHeadroom_raises hb ha).notePool _ _
  case pool => exact notePool_raises hb ha
  case neither => rw [State.noteFalls, noteHeadroom_same hb, notePool_same ha]

/-! ### Data frames of a Put (R51, R64, R182) -/

/-- The Put expects the data frame, and the frame has the form of one. -/
abbrev PutInfo.Expects (put : PutInfo) (f : DataFrame) : Prop :=
  put.next < put.count ∧ put.settling = false ∧ put.next = f.offset ∧ dataInForm f = true

theorem expects_iff (put : PutInfo) (f : DataFrame) :
    (dataInForm f && put.filling && put.next == f.offset) = true ↔ put.Expects f := by
  simp only [PutInfo.filling, Bool.and_eq_true, decide_eq_true_eq, Bool.not_eq_true', beq_iff_eq]
  tauto

theorem takeData_accepts {s : State} {l : Link} {f : DataFrame} {put : PutInfo} (h : s.putInfo (key l f.tag) = some put)
    (he : put.Expects f) : s.takeData l f = s.acceptData (key l f.tag) put f.data := by
  simp only [State.takeData, h]
  exact if_pos ((expects_iff put f).mpr he)

theorem takeData_discards {s : State} {l : Link} {f : DataFrame}
    (h : ∀ put, s.putInfo (key l f.tag) = some put → ¬ put.Expects f) : s.takeData l f = s := by
  unfold State.takeData
  split
  · next put hp => exact if_neg ((expects_iff put f).not.mpr (h put hp))
  · rfl

theorem gives_dataFrame {s p X : State} {l : Link} {f : DataFrame} (h : Taken s l (.data f) p)
    (hX : (p.takeData l f).freeSlot l = X) : Gives (.dataFrame l f) s X :=
  gives_of_finish (congrArg (finish s) ((takeFrame_taken h _).trans hX))

/-- Settles O19, by whether the Put expects the frame. -/
theorem Puts.dataFrames : Obligations.DataFrames := by
  refine fun s l f p h => ⟨fun put hput hnext hsettling hoffset hform => gives_dataFrame h ?_, fun hnone => gives_dataFrame h ?_⟩
  · rw [takeData_accepts hput ⟨hnext, hsettling, hoffset, hform⟩, ← hoffset]
    rfl
  · rw [takeData_discards hnone]

end Sys2Proof.Machine

namespace Sys2Proof.Machine

/-! PROOFS. The checks of a Trim; Flushes, their marks and drain sets; Select and the write selection (O24, O26, O27). -/

/-! ### The checks of a Trim (R62) -/

section
variable {s : State} {lsa count : Nat}

theorem trimRefusal_range (h : ¬ (1 ≤ count ∧ lsa + count ≤ s.logical)) : s.trimRefusal lsa count = some .range :=
  if_pos (by simpa only [Bool.not_eq_true', ← Bool.not_eq_true, Bool.and_eq_true, decide_eq_true_eq] using h)

/-- Behind the range come the service, the needs and the counter. -/
theorem trimRefusal_inRange (h1 : 1 ≤ count) (hl : lsa + count ≤ s.logical) : s.trimRefusal lsa count =
    s.serviceRefusal.or (if s.poolFree < s.recordNeed lsa (lsa + count) then some .poolEmpty
      else if s.headroom < s.entryNeed lsa (lsa + count) then some .mapFull
      else if s.sequence = 2 ^ 48 - 1 then some .failed
      else none) := by
  rw [State.trimRefusal, if_neg (by simp [h1, hl])]
  cases s.serviceRefusal <;> rfl

theorem trimRefusal_unserving (h1 : 1 ≤ count) (hl : lsa + count ≤ s.logical) {r : Status} (hu : Unserving s r) :
    s.trimRefusal lsa count = some r := by
  rw [trimRefusal_inRange h1 hl, serviceRefusal_unserving hu, Option.some_or]

/-- In service, the needs and then the counter refuse. -/
theorem trimRefusal_serving (h1 : 1 ≤ count) (hl : lsa + count ≤ s.logical) (hs : Serving s) : s.trimRefusal lsa count =
    if s.poolFree < s.recordNeed lsa (lsa + count) then some .poolEmpty
    else if s.headroom < s.entryNeed lsa (lsa + count) then some .mapFull
    else if s.sequence = 2 ^ 48 - 1 then some .failed
    else none := by
  rw [trimRefusal_inRange h1 hl, serviceRefusal_serving hs, Option.none_or]

theorem takeTrim_refused {r : Status} (h : s.trimRefusal lsa count = some r) (k : Key) :
    State.takeTrim lsa count k s = s.answerNow k 3 r .none := by
  simp only [State.takeTrim, h]

theorem takeTrim_passes (h : s.trimRefusal lsa count = none) (k : Key) : State.takeTrim lsa count k s =
    (State.applyTrim { s with sequence := s.sequence + 1 } lsa (lsa + count)).answerNow k 3 .ok (.trim s.sequence) := by
  simp only [State.takeTrim, h]

end

theorem gives_trim {s p X : State} {l : Link} {tag : Tag} {lsa count : Nat} (h : Takes s l tag (.trim lsa count) p)
    (hX : State.takeTrim lsa count (key l tag) p = X) : Gives (.trim l tag lsa count) s X := gives_takes rfl h hX

/-- Settles O24, by the first check that refuses. -/
theorem trims : Obligations.Trims := by
  intro s l tag lsa count p h
  dsimp only
  refine ⟨fun hr => ?range, fun h1 hl => ⟨fun r hu => ?service, fun hs => ?needs⟩⟩
  case range => exact gives_trim h (takeTrim_refused (trimRefusal_range hr) _)
  case service => exact gives_trim h (takeTrim_refused (trimRefusal_unserving h1 hl hu) _)
  case needs =>
    have serving := trimRefusal_serving h1 hl hs
    refine ⟨fun hp => ?pool, fun hp => ⟨fun hh => ?map, fun hh => ⟨fun hc => ?counter, fun hc => ?passes⟩⟩⟩
    case pool => exact gives_trim h (takeTrim_refused (by rw [serving, if_pos hp]) _)
    case map => exact gives_trim h (takeTrim_refused (by rw [serving, if_neg (by omega), if_pos hh]) _)
    case counter => exact gives_trim h (takeTrim_refused (by rw [serving, if_neg (by omega), if_neg (by omega), if_pos hc]) _)
    case passes => exact gives_trim h (takeTrim_passes (by rw [serving, if_neg (by omega), if_neg (by omega), if_neg hc]) _)

/-! ### Drain marks set by a Flush (R60) -/

/-- A queue with its mark set behind its tail for a Flush. -/
def Queue.marked (k : Key) (x : Queue) : Queue :=
  { x with mark := true, waiting := x.waiting ++ [k], records := x.records.map fun r => { r with drain := true } }

/-- A write order whose pieces join the drain set where its queue is one of those named. -/
def WriteOrder.drained (qs : List (Fin 16)) (w : WriteOrder) : WriteOrder :=
  if w.queue ∈ qs then { w with pieces := w.pieces.map fun p => { p with drain := true } } else w

theorem WriteOrder.drained_queue (qs : List (Fin 16)) (w : WriteOrder) : (w.drained qs).queue = w.queue := by
  unfold WriteOrder.drained
  split <;> rfl

theorem WriteOrder.drained_drained (q : Fin 16) (qs : List (Fin 16)) (w : WriteOrder) :
    (w.drained [q]).drained qs = w.drained (q :: qs) := by
  by_cases h : w.queue = q
  · by_cases hs : q ∈ qs <;> simp [WriteOrder.drained, h, hs]
  · by_cases hs : w.queue ∈ qs <;> simp [WriteOrder.drained, h, hs]

theorem WriteOrder.drained_pieces {qs : List (Fin 16)} {w : WriteOrder} (h : w.queue ∈ qs) :
    ∀ c ∈ (w.drained qs).pieces, c.drain = true := by
  intro c hc
  rw [WriteOrder.drained, if_pos h] at hc
  obtain ⟨_, _, rfl⟩ := List.mem_map.mp hc
  rfl

section
variable (k : Key)

theorem setMark_eq (s : State) (q : Fin 16) :
    State.setMark k s q = (s.modQueue q (Queue.marked k)).mapWrites (WriteOrder.drained [q]) := by
  have drained : WriteOrder.drained [q] = fun w =>
      if w.queue = q then { w with pieces := w.pieces.map fun p => { p with drain := true } } else w := by
    funext w
    simp [WriteOrder.drained]
  rw [drained]
  rfl

theorem setMark_queue (s : State) (q p : Fin 16) :
    (State.setMark k s q).queue p = if q = p then (s.queue p).marked k else s.queue p := by
  rw [setMark_eq, State.queue_congr (State.mapWrites_queues _ _), State.modQueue_queue]

theorem setMark_writeOrders (s : State) (q : Fin 16) :
    (State.setMark k s q).writeOrders = s.writeOrders.map (WriteOrder.drained [q]) := by
  rw [setMark_eq, writeOrders_mapWrites]
  rfl

theorem setMarks_queue {qs : List (Fin 16)} (hn : qs.Nodup) (s : State) (p : Fin 16) :
    (qs.foldl (State.setMark k) s).queue p = if p ∈ qs then (s.queue p).marked k else s.queue p := by
  induction qs generalizing s with
  | nil => rfl
  | cons q qs ih =>
    obtain ⟨hq, hn⟩ := List.nodup_cons.mp hn
    rw [List.foldl_cons, ih hn, setMark_queue]
    by_cases hp : q = p
    · subst hp
      simp [hq]
    · simp [hp, Ne.symm hp]

theorem setMarks_writeOrders (qs : List (Fin 16)) (s : State) :
    (qs.foldl (State.setMark k) s).writeOrders = s.writeOrders.map (WriteOrder.drained qs) := by
  induction qs generalizing s with
  | nil => exact (List.map_id'' (fun w => if_neg (List.not_mem_nil)) _).symm
  | cons q qs ih =>
    rw [List.foldl_cons, ih, setMark_writeOrders, List.map_map]
    exact List.map_congr_left fun w _ => WriteOrder.drained_drained q qs w

/-- Marks change the queues and the orders of the window alone, and take no order out of it. -/
theorem setMarks_only (qs : List (Fin 16)) (s : State) : ∃ x os, os.length = s.window.length ∧
    qs.foldl (State.setMark k) s = { s with queues := x, window := os } := by
  induction qs generalizing s with
  | nil => exact ⟨s.queues, s.window, rfl, rfl⟩
  | cons q qs ih =>
    obtain ⟨x, os, hlen, h⟩ := ih (State.setMark k s q)
    refine ⟨x, os, hlen.trans (State.mapWrites_length _ _), ?_⟩
    rw [List.foldl_cons, h]
    rfl

end

/-! ### The checks of a Flush (R60, R161) -/

theorem layoutRefusal_formatted {s : State} (h : s.formatNow = .formatted) : s.layoutRefusal = none := by
  simp only [State.layoutRefusal, h]

theorem flushQueues_eq (queue : Nat) : flushQueues queue = hostQueues.filter fun q => queue == 255 || q.val == queue := by
  by_cases h : queue = 255
  · simp [flushQueues, h]
  · have other : (queue == 255) = false := beq_false_of_ne h
    rw [flushQueues, if_neg h]
    simp only [other, Bool.false_or]

theorem flushQueues_nodup (queue : Nat) : (flushQueues queue).Nodup := by
  rw [flushQueues_eq]
  exact List.Nodup.filter _ (by decide)

section
variable {s : State} {queue : Nat}

theorem takeFlush_invalid (h14 : 14 < queue) (h : queue ≠ 255) (k : Key) :
    State.takeFlush queue k s = s.answerNow k 4 .invalid .none := if_pos ⟨h14, h⟩

theorem takeFlush_refused (hq : queue ≤ 14 ∨ queue = 255) {r : Status} (h : s.layoutRefusal = some r) (k : Key) :
    State.takeFlush queue k s = s.answerNow k 4 r .none := by
  rw [State.takeFlush, if_neg (by omega), h]

/-- On a FORMATTED part a Flush is answered where nothing is to drain, and waits else. -/
theorem takeFlush_formatted (hq : queue ≤ 14 ∨ queue = 255) (h : s.formatNow = .formatted) (k : Key) :
    State.takeFlush queue k s =
      if (flushQueues queue).filter s.drainable = [] then s.answerNow k 4 .ok .none
      else ((flushQueues queue).filter s.drainable).foldl (State.setMark k) (s.enterTable k .flush) := by
  rw [State.takeFlush, if_neg (by omega), layoutRefusal_formatted h]
  simp only [List.isEmpty_iff]

end

theorem gives_flush {s p X : State} {l : Link} {tag : Tag} {queue : Nat} (h : Takes s l tag (.flush queue) p)
    (hX : State.takeFlush queue (key l tag) p = X) : Gives (.flush l tag queue) s X := gives_takes rfl h hX

/-- The entry a request waits under (R158). -/
theorem enterTable_table (s : State) (k : Key) (info : EntryInfo) : (s.enterTable k info).table = s.table ++
    [{ key := k, reply := k.origin, redirected := false, discarded := false, answered := false, info := info }] := by
  simp [State.enterTable]

/-- Settles O26, by the checks and by whether anything is to drain. -/
theorem flushes : Obligations.Flushes := by
  intro s l tag queue p h
  dsimp only
  rw [← flushQueues_eq]
  refine ⟨fun h14 h255 => gives_flush h (takeFlush_invalid h14 h255 _), fun hq => ⟨fun hf => ?unformatted, fun hf => ?formatting,
    fun hf hnone => ?answered, fun hf hsome => ?waits⟩⟩
  case unformatted => exact gives_flush h (takeFlush_refused hq (by simp only [State.layoutRefusal, hf]) _)
  case formatting => exact gives_flush h (takeFlush_refused hq (by simp only [State.layoutRefusal, hf]) _)
  case answered => exact gives_flush h ((takeFlush_formatted hq hf _).trans (if_pos hnone))
  case waits =>
    have nodup : ((flushQueues queue).filter p.drainable).Nodup := (flushQueues_nodup queue).filter _
    have taken := gives_flush h ((takeFlush_formatted hq hf _).trans (if_neg hsome))
    generalize (flushQueues queue).filter p.drainable = qs at nodup taken ⊢
    have queues := setMarks_queue (key l tag) nodup (p.enterTable (key l tag) .flush)
    have orders := setMarks_writeOrders (key l tag) qs (p.enterTable (key l tag) .flush)
    obtain ⟨x, os, hlen, only⟩ := setMarks_only (key l tag) qs (p.enterTable (key l tag) .flush)
    have entered : ∀ q, (p.enterTable (key l tag) .flush).queue q = p.queue q := State.queue_congr (State.enterTable_queues _ _ _)
    refine ⟨_, taken, ?table, fun q hq => ?named, fun q hq => ?others, fun w hw hwq => ?drain, ?map, ?counter, ?bands, ?window⟩
    case table => rw [only]; exact enterTable_table p _ _
    case named => rw [queues, if_pos hq, entered]; rfl
    case others => rw [queues, if_neg hq, entered]
    case drain =>
      rw [orders] at hw
      obtain ⟨v, _, rfl⟩ := List.mem_map.mp hw
      exact WriteOrder.drained_pieces (v.drained_queue qs ▸ hwq)
    case map => rw [only]; exact State.enterTable_map _ _ _
    case counter => rw [only]; exact State.enterTable_sequence _ _ _
    case bands => rw [only]; exact State.enterTable_bands _ _ _
    case window => rw [only]; exact hlen.trans (congrArg List.length (State.enterTable_window _ _ _))

/-! ### Select (R47) -/

section
variable {s : State} {queue : Nat}

theorem takeSelect_host (h : queue < 15) (k : Key) : State.takeSelect queue k s =
    (s.modPort k.origin fun x => { x with selection := some ⟨queue, h⟩ }).answerNow k 5 .ok .none := dif_pos h

theorem takeSelect_routed (k : Key) : State.takeSelect 255 k s =
    (s.modPort k.origin fun x => { x with selection := none }).answerNow k 5 .ok .none := rfl

theorem takeSelect_other (h : 15 ≤ queue) (h255 : queue ≠ 255) (k : Key) :
    State.takeSelect queue k s = s.answerNow k 5 .invalid .none := by
  rw [State.takeSelect, dif_neg (by omega), if_neg h255]

end

theorem gives_select {s p X : State} {l : Link} {tag : Tag} {queue : Nat} (h : Takes s l tag (.select queue) p)
    (hX : State.takeSelect queue (key l tag) p = X) : Gives (.select l tag queue) s X := gives_takes rfl h hX

/-! ### The target queue of a Put (R46) -/

section
variable {s : State} {l : Link} {lsa : Nat}

theorem targetQueue_selected {q : Fin 15} (h : (s.port l).selection = some q) : s.targetQueue l lsa = q := by
  simp only [State.targetQueue, h]

theorem targetQueue_default (h : (s.port l).selection = none)
    (hnone : ∀ i ∈ s.intervals, ¬ (i.first ≤ lsa ∧ lsa ≤ i.last)) : s.targetQueue l lsa = s.defaultQueue := by
  have unfound : (s.intervals.find? fun i => i.first ≤ lsa && lsa ≤ i.last) = none := by
    simpa [List.find?_eq_none] using hnone
  simp only [State.targetQueue, h, unfound]

/-- Two intervals of a pairwise ascending table that hold one LSA are one. -/
theorem interval_unique {is : List Interval} (hp : is.Pairwise fun i j => i.last < j.first) {i j : Interval} (hi : i ∈ is)
    (hj : j ∈ is) (hil : i.first ≤ lsa ∧ lsa ≤ i.last) (hjl : j.first ≤ lsa ∧ lsa ≤ j.last) : i = j := by
  induction hp with
  | nil => simp at hi
  | cons hx _ ih =>
    rcases List.mem_cons.mp hi with rfl | hi'
    · rcases List.mem_cons.mp hj with rfl | hj'
      · rfl
      · have := hx j hj'
        omega
    · rcases List.mem_cons.mp hj with rfl | hj'
      · have := hx i hi'
        omega
      · exact ih hi' hj'

theorem targetQueue_interval (hs : intervalsSorted none s.intervals = true) (h : (s.port l).selection = none) {i : Interval}
    (hi : i ∈ s.intervals) (hf : i.first ≤ lsa) (hl : lsa ≤ i.last) : (s.targetQueue l lsa).val = i.queue := by
  obtain ⟨hall, hpair, _⟩ := (intervalsSorted_iff none s.intervals).mp hs
  have found : (s.intervals.find? fun i => i.first ≤ lsa && lsa ≤ i.last) = some i := by
    cases hj : s.intervals.find? fun i => i.first ≤ lsa && lsa ≤ i.last with
    | none => exact absurd (List.find?_eq_none.mp hj i hi) (by simp [hf, hl])
    | some j =>
      have hjl : j.first ≤ lsa ∧ lsa ≤ j.last := by simpa using List.find?_some hj
      rw [interval_unique hpair hi (List.mem_of_find?_eq_some hj) ⟨hf, hl⟩ hjl]
  simp only [State.targetQueue, h, found, dif_pos (hall i hi).2.2]

end

/-! ### The write selection through a reset (R172, R175) -/

/-- t has each link's write selection as s has it. -/
structure SelectionKept (s t : State) : Prop where
  selection : ∀ l, (t.port l).selection = (s.port l).selection

theorem SelectionKept.refl (s : State) : SelectionKept s s := ⟨fun _ => rfl⟩

theorem SelectionKept.trans {s t u : State} (h : SelectionKept s t) (g : SelectionKept t u) : SelectionKept s u :=
  ⟨fun l => (g.selection l).trans (h.selection l)⟩

theorem Kept.selectionKept {s t : State} (h : Kept s t) : SelectionKept s t := ⟨fun l => (h.port l).selection⟩

theorem Kept.noteHeadroom (s : State) (a b : Nat) : Kept s (s.noteHeadroom a b) := by
  unfold State.noteHeadroom
  split
  · exact Kept.raiseBoth s _ _
  · exact Kept.refl s

theorem Kept.raiseLost (s : State) (lost : List (Nat × Nat)) : Kept s (s.raiseLost lost) := by
  unfold State.raiseLost
  split
  · exact Kept.refl s
  · exact Kept.raiseBoth s _ _

theorem Kept.convertRecord (acc : State × Nat) (r : Fragment) : Kept acc.1 (convertRecord acc r).1 :=
  (Kept.setMap acc.1 _).trans ((Kept.noteHeadroom _ _ _).trans (Kept.raiseLost _ _))

theorem Kept.convertRecords (s : State) : Kept s s.convertRecords := by
  have converted : ∀ (l : List Fragment) (acc : State × Nat), Kept acc.1 (l.foldl Machine.convertRecord acc).1 := by
    intro l
    induction l with
    | nil => exact fun acc => Kept.refl acc.1
    | cons r l ih => exact fun acc => (Kept.convertRecord acc r).trans (ih _)
  exact converted _ (s, 0)

theorem Kept.releaseRead (s : State) (b : Nat) : Kept s (s.releaseRead b) := by
  unfold State.releaseRead
  dsimp only
  split
  · exact (Kept.modBand s b _).trans (Kept.engine _ _)
  · exact Kept.modBand s b _

theorem Kept.resetEngine (s : State) : Kept s s.resetEngine := by
  have stale : ∀ t : State, Kept t { t with window := t.window.map Order.staleRead } := by
    intro t
    constructor <;> first
      | rfl
      | exact List.length_map ..
      | exact PortKept.refl _
      | exact fun _ => QueueKept.refl _
  unfold State.resetEngine
  dsimp only
  split
  · exact ((stale s).trans (Kept.endRun _ _)).trans (Kept.engine _ _)
  · exact (Kept.modBand s _ _).trans (((stale _).trans (Kept.endRun _ _)).trans (Kept.engine _ _))

theorem selectionKept_cancelSlot (s : State) (i : Fin 16) : SelectionKept s (s.cancelSlot i) := by
  unfold State.cancelSlot
  split
  · have removed : SelectionKept s { s with fetchList := s.fetchList.filter fun r => r.slot != i } := ⟨fun l => by cases l <;> rfl⟩
    have released := Kept.foldl (fun s (r : FetchRead) => Kept.releaseRead s r.band) (s.fetchList.filter fun r => r.slot == i)
      { s with fetchList := s.fetchList.filter fun r => r.slot != i }
    exact removed.trans (released.trans (Kept.modSlot _ _ _)).selectionKept
  · exact .refl s

theorem selectionKept_abortSlot (s : State) (i : Fin 16) : SelectionKept s (s.abortSlot i) := by
  unfold State.abortSlot
  split
  · exact (Kept.answerEntry s _ _ _).selectionKept.trans (selectionKept_cancelSlot _ i)
  · exact .refl s

theorem selectionKept_abortSlots (l : List (Fin 16)) (s : State) : SelectionKept s (l.foldl State.abortSlot s) := by
  induction l generalizing s with
  | nil => exact .refl s
  | cons i l ih => exact (selectionKept_abortSlot s i).trans (ih _)

/-- The first part of a reset: the acknowledged records converted, and the Puts settled (R172, R173). -/
def State.resetPuts (s : State) : State :=
  { s.convertRecords.releaseEmptied with
    table := s.convertRecords.releaseEmptied.table.map s.convertRecords.releaseEmptied.settleEntry }

/-- The second part: the queues emptied, the write orders orphaned, the OPEN bands closed and relocation abandoned. -/
def State.resetQueues (s : State) : State :=
  (((s.mapQueues fun _ q => q.emptied).mapWrites WriteOrder.orphan).mapBands Band.shut).resetEngine

/-- The third part: the Gets and the Flushes given are answered ABORTED, and the Puts that wait for nothing are answered. -/
def State.resetAnswers (flushes : List Key) (s : State) : State :=
  let t := allQueues.foldl State.abortSlot s
  ((t.answerAll t.patternGets .aborted).answerAll flushes .aborted).answerPuts

/-- What a level 1 and a level 2 reset do alike. -/
def State.resetWork (s : State) : State := s.resetPuts.resetQueues.resetAnswers s.resetPuts.waitingFlushes

theorem performReset_eq (s : State) (one : Bool) : s.performReset one =
    { (if one then s.resetWork.defaults else s.resetWork) with
      resetWaits := some (if one then s.resetWork.defaults else s.resetWork).window.length } := rfl

theorem performReset_port (s : State) (one : Bool) (l : Link) :
    (s.performReset one).port l = (if one then s.resetWork.defaults else s.resetWork).port l := by
  rw [performReset_eq]
  cases l <;> rfl

theorem Kept.resetPuts (s : State) : Kept s s.resetPuts :=
  ((Kept.convertRecords s).trans (Kept.releaseEmptied _)).trans (Kept.table _ _)

theorem Kept.resetQueues (s : State) : Kept s s.resetQueues :=
  (((Kept.mapQueues fun _ => ⟨rfl, rfl, rfl⟩).trans (Kept.mapWrites _ _)).trans (Kept.mapBands _ _)).trans (Kept.resetEngine _)

theorem selectionKept_resetAnswers (flushes : List Key) (s : State) : SelectionKept s (s.resetAnswers flushes) :=
  (selectionKept_abortSlots allQueues s).trans
    (((Kept.answerAll _ _ _).trans (Kept.answerAll _ _ _)).trans (Kept.answerPuts _)).selectionKept

theorem selectionKept_resetWork (s : State) : SelectionKept s s.resetWork :=
  ((Kept.resetPuts s).trans (Kept.resetQueues _)).selectionKept.trans (selectionKept_resetAnswers _ _)

theorem defaults_selection (s : State) (l : Link) : (s.defaults.port l).selection = none := by
  cases l <;> simp [State.defaults, State.port, Port.defaults]

/-- Settles O27: the Select by the queue it names, the target queue by the selection, and the selection through each reset. -/
theorem selectRule : Obligations.SelectRule := by
  refine ⟨⟨fun s l tag queue p h => ⟨fun hq => ?host, fun hq => ?routed, fun h15 h255 => ?other⟩, fun p l lsa q => targetQueue_selected,
    fun p l => ⟨?two, ?one, ?zero⟩⟩, fun p l lsa hs => ⟨fun q => targetQueue_selected, fun hn =>
      ⟨fun i hi hf hl => targetQueue_interval hs hn hi hf hl, targetQueue_default hn⟩⟩⟩
  case host => exact gives_select h (takeSelect_host hq _)
  case routed =>
    subst hq
    exact gives_select h (takeSelect_routed _)
  case other => exact gives_select h (takeSelect_other h15 h255 _)
  case two =>
    rw [performReset_port, if_neg Bool.false_ne_true]
    exact (selectionKept_resetWork p).selection l
  case one =>
    rw [performReset_port, if_pos rfl]
    exact defaults_selection p.resetWork l
  case zero => cases l <;> rfl

end Sys2Proof.Machine

namespace Sys2Proof.Machine

/-! PROOFS. The settling of a state in which nothing waits to be settled (O11): each operation of it, where its condition does not
hold, leaves the state as it is. -/

/-! ### Updates that change nothing -/

theorem mapQueues_same {s : State} {f : Fin 16 → Queue → Queue} (h : ∀ q, f q (s.queue q) = s.queue q) : s.mapQueues f = s := by
  have queues : (Vector.ofFn fun q : Fin 16 => f q s.queues[q]) = s.queues :=
    Vector.ext fun i hi => (Vector.getElem_ofFn hi).trans (h ⟨i, hi⟩)
  rw [State.mapQueues, queues]

theorem mapSlots_same {s : State} {f : Fin 16 → FetchSlot → FetchSlot} (h : ∀ i, f i (s.slot i) = s.slot i) : s.mapSlots f = s := by
  have slots : (Vector.ofFn fun i : Fin 16 => f i s.slots[i]) = s.slots :=
    Vector.ext fun i hi => (Vector.getElem_ofFn hi).trans (h ⟨i, hi⟩)
  rw [State.mapSlots, slots]

theorem foldl_same {α : Type} {f : State → α → State} {l : List α} {s : State} (h : ∀ a ∈ l, f s a = s) : l.foldl f s = s := by
  induction l with
  | nil => rfl
  | cons a l ih =>
    rw [List.foldl_cons, h a List.mem_cons_self]
    exact ih fun b hb => h b (List.mem_cons_of_mem a hb)

/-! ### The records -/

section
variable {s : State}

theorem advanceStartUp_same (h : s.stage ≠ .geometry) : s.advanceStartUp = s := if_neg fun hg => h hg.1

theorem resolveLostrels_same (h : ∀ r, (s.queue 15).records.head? = some r → r.kind ≠ .lostrel) : s.resolveLostrels = s := by
  have none : ((s.queue 15).records.takeWhile fun r => r.kind == .lostrel) = [] := by
    cases hr : (s.queue 15).records with
    | nil => rfl
    | cons r rest =>
      have hk : r.kind ≠ .lostrel := h r (by rw [hr, List.head?_cons])
      exact List.takeWhile_cons_of_neg (by simpa using hk)
  rw [State.resolveLostrels, none, List.foldl_nil]

theorem releaseEmptied_same (h : s.noneEmptied) : s.releaseEmptied = s := by
  have none : (s.bands.zipIdx.filter fun x => x.1.emptied) = [] := by
    rw [List.filter_eq_nil_iff]
    intro x hx
    simp [h x.1 (List.fst_mem_of_mem_zipIdx hx)]
  rw [State.releaseEmptied, none, List.foldl_nil]

theorem advanceEngine_same (h : s.engine.state ≠ .reading) : s.advanceEngine = s := if_neg h

theorem deliverSlot_same {i : Fin 16} (h : (s.slot i).state = .free) : s.deliverSlot i = s :=
  if_neg (by simp [FetchSlot.isActive, h])

/-- A pattern Get that has a data frame waiting, is answered or is owed no answer hands over no frame (R123). -/
theorem deliverPattern_same {e : ReqEntry} (h : e.info.isPattern = true →
    e.answered = true ∨ e.discarded = true ∨ (s.port e.reply).txq.any (OutFrame.isDataOf e.key) = true) :
    s.deliverPattern e = s := by
  unfold State.deliverPattern
  split
  · next hi => exact if_pos (by simpa only [Bool.or_eq_true, or_assoc] using h (by rw [hi]; rfl))
  · rfl

theorem deliver_same (hslots : ∀ i, (s.slot i).state = .free) (hp : s.patternsServed) : s.deliver = s := by
  have slots : allQueues.foldl State.deliverSlot s = s := foldl_same fun i _ => deliverSlot_same (hslots i)
  rw [State.deliver, slots]
  exact foldl_same fun e he => deliverPattern_same (hp e he)

theorem freeEnded_same (h : ∀ i, (s.slot i).state = .free) : s.freeEnded = s :=
  mapSlots_same fun i => if_neg (by simp [h i])

/-! ### The requests that wait -/

theorem answerPutEntry_same {e : ReqEntry} (h : ∀ p, e.info = .put p → p.due = true → e.answered = true) :
    s.answerPutEntry e = s := by
  unfold State.answerPutEntry
  split
  · next p hi =>
    refine if_neg fun hdue => ?_
    rw [Bool.and_eq_true, Bool.not_eq_true'] at hdue
    exact Bool.false_ne_true (hdue.2.symm.trans (h p hi hdue.1))
  · rfl

theorem answerPuts_same (h : s.putsAnswered) : s.answerPuts = s := foldl_same fun e he => answerPutEntry_same (h e he)

theorem clearMarks_same (h : ∀ q, s.markCleared q = false) : s.clearMarks = s := by
  have waiting : (hostQueues.filter s.markCleared) = [] := by simp [List.filter_eq_nil_iff, h]
  have queues : (s.mapQueues fun q x => if s.markCleared q then { x with mark := false, waiting := [] } else x) = s :=
    mapQueues_same fun q => if_neg (by simp [h q])
  simp only [State.clearMarks, waiting, queues, List.flatMap_nil, List.foldl_nil]

theorem finishReset_same (h : s.resetWaits ≠ some 0) : s.finishReset = s := if_neg h

/-! ### The engine's start, the stalls and the notices -/

theorem startRelocation_same (h : s.relocationDue = false) (old : State) (ended : Bool) : s.startRelocation old ended = s :=
  if_neg (by simp [h])

theorem askRelease_same (h : s.placeReleases = false) (old : State) : s.askRelease old = s := if_neg (by simp [h])

end

/-! ### The fill states, on which nothing else rests -/

/-- The track size rests on the Band Table and the profiles (R59). -/
theorem trackSize_queues (s : State) (x : Vector Queue 16) (q : Fin 16) : State.trackSize { s with queues := x } q = s.trackSize q :=
  rfl

theorem relocationDue_queues (s : State) (x : Vector Queue 16) : State.relocationDue { s with queues := x } = s.relocationDue := rfl

/-- y is the queue x but for what no timer and no stall rests on. -/
structure Alike (x y : Queue) : Prop where
  records : y.records = x.records
  hold : y.hold = x.hold
  timer : y.timer = x.timer
  mark : y.mark = x.mark
  poolStall : y.poolStall = x.poolStall

section
variable {s : State} {x : Vector Queue 16} {q : Fin 16} (h : Alike (s.queue q) (State.queue { s with queues := x } q))
include h

theorem completeData_alike : State.completeData { s with queues := x } q = s.completeData q := by
  simp only [State.completeData, h.records]

theorem aheadOfMark_alike : State.aheadOfMark { s with queues := x } q = s.aheadOfMark q := by
  simp only [State.aheadOfMark, h.records, h.mark]

theorem timerOf_alike : State.timerOf { s with queues := x } q = s.timerOf q := by
  simp only [State.timerOf, completeData_alike h, aheadOfMark_alike h, trackSize_queues, h.mark, h.hold, h.timer]

theorem ready_alike : State.ready { s with queues := x } q = s.ready q := by
  simp only [State.ready, completeData_alike h, aheadOfMark_alike h, trackSize_queues, h.records, h.timer]

theorem stallOf_alike : State.stallOf { s with queues := x } q = s.stallOf q := by
  have pool : (State.queue { s with queues := x } q).poolStall = (s.queue q).poolStall := h.poolStall
  unfold State.stallOf
  rw [pool]
  rfl

/-- A queue is stalled for SPACE by its own records, timer, mark and POOL condition, and by what is no queue's. -/
theorem spaceStalled_alike : State.spaceStalled { s with queues := x } q = s.spaceStalled q := by
  rw [State.spaceStalled, ready_alike h, stallOf_alike h, State.spaceStalled]

end

section
variable (s old : State) (q : Fin 16)

theorem storeFills_alike : Alike (s.queue q) ((s.storeFills old).queue q) := by
  rw [State.storeFills, State.mapQueues_queue]
  split <;> exact ⟨rfl, rfl, rfl, rfl, rfl⟩

theorem storeFills_timerOf : (s.storeFills old).timerOf q = s.timerOf q :=
  timerOf_alike (s := s) (x := (s.storeFills old).queues) (storeFills_alike s old q)

theorem holdTimers_queue : s.holdTimers.queue q = { s.queue q with timer := s.timerOf q } := by
  rw [State.holdTimers, State.mapQueues_queue]

theorem storeFills_holdTimers_alike : Alike (s.holdTimers.queue q) ((s.storeFills old).holdTimers.queue q) := by
  have fills := storeFills_alike s old q
  rw [holdTimers_queue, holdTimers_queue]
  exact {
    records := by simpa only using fills.records
    hold := by simpa only using fills.hold
    timer := storeFills_timerOf s old q
    mark := by simpa only using fills.mark
    poolStall := by simpa only using fills.poolStall }

theorem storeFills_holdTimers_spaceStalled : (s.storeFills old).holdTimers.spaceStalled q = s.holdTimers.spaceStalled q := by
  have only : (s.storeFills old).holdTimers = { s.holdTimers with queues := (s.storeFills old).holdTimers.queues } := by
    simp only [State.holdTimers, State.storeFills, State.mapQueues]
  exact (congrArg (State.spaceStalled · q) only).trans (spaceStalled_alike (only ▸ storeFills_holdTimers_alike s old q))

theorem storeFills_holdTimers_records : ((s.storeFills old).holdTimers.queue q).records = (s.queue q).records := by
  have records := (storeFills_alike s old q).records
  rw [holdTimers_queue]
  simpa only using records

theorem storeFills_holdTimers_inUse : (s.storeFills old).holdTimers.inUse = s.inUse := by
  have orders : (s.storeFills old).holdTimers.writeOrders = s.writeOrders :=
    writeOrders_congr (by simp [State.holdTimers])
  simp only [State.inUse, storeFills_holdTimers_records, orders]

theorem storeFills_holdTimers_headroom : (s.storeFills old).holdTimers.headroom = s.headroom := by
  have map : (s.storeFills old).holdTimers.map = s.map := by simp [State.holdTimers]
  rw [State.headroom, State.reservedEntries, State.freeEntries, storeFills_holdTimers_inUse, map]
  rfl

theorem storeFills_holdTimers_placeReleases : (s.storeFills old).holdTimers.placeReleases = s.placeReleases := by
  simp [State.placeReleases, State.holdTimers]

end

/-! ### The whole -/

section
variable {s old : State} (h : s.Quiet old)
include h

theorem settleRecords_quiet : s.settleRecords = s := by
  rw [State.settleRecords, advanceStartUp_same h.stage, resolveLostrels_same h.lostrel, releaseEmptied_same h.bands,
    advanceEngine_same h.engine, deliver_same h.slots h.patterns, freeEnded_same h.slots]

theorem settleRequests_quiet : s.settleRequests old = s.storeFills old := by
  rw [State.settleRequests, answerPuts_same h.puts, clearMarks_same h.marks]
  exact finishReset_same (by rw [State.storeFills_resetWaits]; exact h.reset)

theorem settleWork_quiet (ended : Bool) : (s.storeFills old).settleWork old ended = (s.storeFills old).holdTimers := by
  have due : (s.storeFills old).relocationDue = false := (relocationDue_queues s _).trans h.run
  have pool : old.inUse ≤ (s.storeFills old).holdTimers.inUse := by rw [storeFills_holdTimers_inUse, h.pool]
  have room : (s.storeFills old).holdTimers.headroom ≤ old.headroom := by rw [storeFills_holdTimers_headroom, h.headroom]
  have release : (s.storeFills old).holdTimers.placeReleases = false :=
    (storeFills_holdTimers_placeReleases s old).trans h.release
  rw [State.settleWork, startRelocation_same due, clearStalls_same pool room, askRelease_same release]
  refine raiseSpace_same fun q hr hs => (spaceStalled_iff old q).mp (h.space q ?_)
  rw [← storeFills_holdTimers_spaceStalled]
  exact (spaceStalled_iff _ q).mpr ⟨hr, hs⟩

end

/-- Settles O11, operation by operation. -/
theorem quietSettling : Obligations.QuietSettling := by
  intro s old h
  rw [State.settle, settleRecords_quiet h, settleRequests_quiet h, settleWork_quiet h]

end Sys2Proof.Machine

namespace Sys2Proof.Machine

/-! PROOFS. What the operations leave of the Request Table's keys, and what the settling of a step leaves of the staged records, the
drain marks and the orders in the window (used for O10 and O20). -/

theorem allPieces_congr {s t : State} (h : t.window = s.window) : t.allPieces = s.allPieces := by
  rw [State.allPieces, State.allPieces, writeOrders_congr h]

/-! ### The relations -/

/-- The requests that hold an entry in t hold one in s, in the same order: t enters none. -/
structure KeysKept (s t : State) : Prop where
  keys : (t.table.map (·.key)).Sublist (s.table.map (·.key))

/-- t leaves the records, the drain marks and the window as s has them, and enters no request. -/
structure StagingKept (s t : State) : Prop extends KeysKept s t where
  records : ∀ q, (t.queue q).records = (s.queue q).records
  mark : ∀ q, (t.queue q).mark = (s.queue q).mark
  window : t.window = s.window

/-- The sizes of a Request Table that holds these keys, and their distinctness (R158, R160). -/
structure KeysFit (ks : List Key) : Prop where
  total : ks.length ≤ 128
  ofLink : ∀ l, (ks.countP fun k => k.origin == l) ≤ 64
  distinct : ks.Nodup

theorem keys_ofLink (s : State) (l : Link) :
    ((s.table.map (·.key)).countP fun k => k.origin == l) = s.table.countP fun e => e.key.origin == l := List.countP_map

theorem tableFits_iff {s : State} : s.tableFits ↔ KeysFit (s.table.map (·.key)) := by
  constructor
  · exact fun ⟨total, links, distinct⟩ => ⟨by rwa [List.length_map], fun l => keys_ofLink s l ▸ links l, distinct⟩
  · exact fun ⟨total, links, distinct⟩ => ⟨by rwa [List.length_map] at total, fun l => keys_ofLink s l ▸ links l, distinct⟩

theorem KeysFit.sublist {ks js : List Key} (h : KeysFit ks) (hj : js.Sublist ks) : KeysFit js where
  total := hj.length_le.trans h.total
  ofLink := fun l => (hj.countP_le).trans (h.ofLink l)
  distinct := hj.nodup h.distinct

namespace KeysKept
variable {s t u : State}

theorem of_same (h : t.table = s.table) : KeysKept s t := ⟨by rw [h]⟩

theorem refl (s : State) : KeysKept s s := of_same rfl

theorem trans (h : KeysKept s t) (g : KeysKept t u) : KeysKept s u := ⟨g.keys.trans h.keys⟩

theorem foldl {α : Type} {f : State → α → State} (h : ∀ s a, KeysKept s (f s a)) (l : List α) (s : State) :
    KeysKept s (l.foldl f s) := by
  induction l generalizing s with
  | nil => exact refl s
  | cons a l ih => exact (h s a).trans (ih (f s a))

/-- The same of a fold that carries something beside the state. -/
theorem foldl_fst {α β : Type} {f : State × β → α → State × β} (h : ∀ x a, KeysKept x.1 (f x a).1) (l : List α)
    (x : State × β) : KeysKept x.1 (l.foldl f x).1 := by
  induction l generalizing x with
  | nil => exact refl x.1
  | cons a l ih => exact (h x a).trans (ih (f x a))

theorem ite {c : Prop} [Decidable c] (ht : KeysKept s t) (hu : KeysKept s u) : KeysKept s (if c then t else u) := by
  split
  · exact ht
  · exact hu

/-- A further change where a condition holds. -/
theorem thenIf {c : Prop} [Decidable c] (ht : KeysKept s t) (hu : KeysKept t u) : KeysKept s (if c then u else t) :=
  .ite (ht.trans hu) ht

/-- A further change where a condition does not hold. -/
theorem ifElse {c : Prop} [Decidable c] (ht : KeysKept s t) (hu : KeysKept t u) : KeysKept s (if c then t else u) :=
  .ite ht (ht.trans hu)

theorem ite_fst {β : Type} {c : Prop} [Decidable c] {x y : State × β} (hx : KeysKept s x.1) (hy : KeysKept s y.1) :
    KeysKept s (if c then x else y).1 := by
  split
  · exact hx
  · exact hy

theorem mapTable {f : ReqEntry → ReqEntry} (hf : ∀ e, (f e).key = e.key) (ht : t.table = s.table.map f) : KeysKept s t :=
  have same : t.table.map (·.key) = s.table.map (·.key) := by
    rw [ht, List.map_map]
    exact List.map_congr_left fun e _ => hf e
  ⟨by rw [same]⟩

theorem modEntry {f : ReqEntry → ReqEntry} (hf : ∀ e, (f e).key = e.key) (s : State) (k : Key) : KeysKept s (s.modEntry k f) :=
  ⟨by rw [keys_modEntry hf]⟩

theorem modPut (s : State) (k : Key) (f : PutInfo → PutInfo) : KeysKept s (s.modPut k f) := .modEntry (by exact fun _ => rfl) s k

theorem dropEntry (s : State) (k : Key) : KeysKept s (s.dropEntry k) := ⟨List.filter_sublist.map _⟩

/-- R158, R160: a table that loses entries still keeps its sizes. -/
theorem fits (h : KeysKept s t) (hs : s.tableFits) : t.tableFits := tableFits_iff.mpr ((tableFits_iff.mp hs).sublist h.keys)

end KeysKept

namespace StagingKept
variable {s t u : State}

/-- A change of none of the table, the queues and the window. -/
theorem of_same (ht : t.table = s.table) (hq : t.queues = s.queues) (hw : t.window = s.window) :
    StagingKept s t where
  toKeysKept := .of_same ht
  records := fun q => by rw [State.queue_congr hq]
  mark := fun q => by rw [State.queue_congr hq]
  window := hw

theorem refl (s : State) : StagingKept s s := of_same rfl rfl rfl

theorem trans (h : StagingKept s t) (g : StagingKept t u) : StagingKept s u where
  toKeysKept := h.toKeysKept.trans g.toKeysKept
  records := fun q => (g.records q).trans (h.records q)
  mark := fun q => (g.mark q).trans (h.mark q)
  window := g.window.trans h.window

theorem foldl {α : Type} {f : State → α → State} (h : ∀ s a, StagingKept s (f s a)) (l : List α) (s : State) :
    StagingKept s (l.foldl f s) := by
  induction l generalizing s with
  | nil => exact refl s
  | cons a l ih => exact (h s a).trans (ih (f s a))

theorem ite {c : Prop} [Decidable c] (ht : StagingKept s t) (hu : StagingKept s u) : StagingKept s (if c then t else u) := by
  split
  · exact ht
  · exact hu

/-- A further change where a condition holds. -/
theorem thenIf {c : Prop} [Decidable c] (ht : StagingKept s t) (hu : StagingKept t u) : StagingKept s (if c then u else t) :=
  .ite (ht.trans hu) ht

/-- A change of the table alone. -/
theorem of_keys (h : KeysKept s t) (hq : t.queues = s.queues) (hw : t.window = s.window) : StagingKept s t where
  toKeysKept := h
  records := fun q => by rw [State.queue_congr hq]
  mark := fun q => by rw [State.queue_congr hq]
  window := hw

/-- A change of the queues that leaves records and marks. -/
theorem mapQueues {f : Fin 16 → Queue → Queue} (hr : ∀ q x, (f q x).records = x.records) (hm : ∀ q x, (f q x).mark = x.mark)
    (s : State) : StagingKept s (s.mapQueues f) where
  toKeysKept := .of_same (State.mapQueues_table s f)
  records := fun q => by rw [State.mapQueues_queue, hr]
  mark := fun q => by rw [State.mapQueues_queue, hm]
  window := State.mapQueues_window s f

theorem writeOrders (h : StagingKept s t) : t.writeOrders = s.writeOrders := writeOrders_congr h.window

theorem allPieces (h : StagingKept s t) : t.allPieces = s.allPieces := allPieces_congr h.window

theorem draining (h : StagingKept s t) (q : Fin 16) : t.draining q = s.draining q := by
  simp only [State.draining, State.ordersOf, h.records, h.writeOrders]

theorem marksStand (h : StagingKept s t) (hs : s.marksStand) : t.marksStand := fun q hq hm => by
  rw [h.draining]
  exact hs q hq (h.mark q ▸ hm)

end StagingKept

/-! ### Answers, notices and the operations of a step's settling -/

theorem stagingKept_pushFrame (s : State) (l : Link) (f : OutFrame) : StagingKept s (s.pushFrame l f) :=
  .of_same (by simp) (by simp) (by simp)

theorem stagingKept_modPort (s : State) (l : Link) (f : Port → Port) : StagingKept s (s.modPort l f) :=
  .of_same (by simp) (by simp) (by simp)

theorem stagingKept_raiseBoth (s : State) (k : Notice) (d : Nat) : StagingKept s (s.raiseBoth k d) := .of_same rfl rfl rfl

theorem stagingKept_answerEntry (s : State) (k : Key) (x : Status) (r : Result) : StagingKept s (s.answerEntry k x r) := by
  have answered : StagingKept s (s.modEntry k fun e => { e with answered := true }) :=
    .of_keys (.modEntry (by exact fun _ => rfl) s k) rfl rfl
  unfold State.answerEntry
  split
  · exact .refl s
  · exact .ite (.refl s) (.ite (.of_keys (.dropEntry s k) rfl rfl) (answered.trans (stagingKept_pushFrame _ _ _)))

theorem stagingKept_endRun (s : State) (x : Status) : StagingKept s (s.endRun x) := by
  have idle : StagingKept s { s with engine := { Engine.reset with deferred := s.engine.deferred } } := .of_same rfl rfl rfl
  unfold State.endRun
  dsimp only
  split
  · exact idle
  · exact idle.trans (stagingKept_answerEntry _ _ _ _)

theorem stagingKept_continueRun (s : State) : StagingKept s s.continueRun :=
  .ite (.of_same (by rfl) (by rfl) (by rfl)) (stagingKept_endRun s .ok)

theorem stagingKept_victimReleased (s : State) : StagingKept s s.victimReleased := by
  have undeferred : StagingKept s { s with engine := { s.engine with deferred := none } } := .of_same rfl rfl rfl
  exact undeferred.trans (.ite (stagingKept_endRun _ _) (stagingKept_continueRun _))

theorem stagingKept_releaseBand (s : State) (b : Nat) : StagingKept s (s.releaseBand b) := by
  have released : StagingKept s ((s.modBand b Band.released).raiseBoth .relocationDone b) := .of_same rfl rfl rfl
  exact .thenIf released (stagingKept_victimReleased _)

theorem stagingKept_releaseEmptied (s : State) : StagingKept s s.releaseEmptied := by
  refine .foldl (fun s x => ?_) _ s
  exact stagingKept_releaseBand s x.2

theorem stagingKept_clearReads (s : State) : StagingKept s s.clearReads := by
  have cleared : StagingKept s (s.mapBands fun b => { b with pendingReads := 0 }) := .of_same rfl rfl rfl
  exact cleared.trans (stagingKept_releaseEmptied _)

theorem stagingKept_enterService (s : State) : StagingKept s s.enterService := by
  have closed : ∀ t : State, StagingKept t { (t.mapBands fun b => b.skipRest.shut.uncleaned) with
      service := .inService, stage := .done, startWait := false } := fun _ => .of_same rfl rfl rfl
  exact .thenIf ((stagingKept_clearReads s).trans (closed _)) (stagingKept_raiseBoth _ _ _)

theorem stagingKept_nextFooter (s : State) : StagingKept s s.nextFooter := by
  unfold State.nextFooter
  split
  · exact stagingKept_enterService s
  · exact .of_same rfl rfl rfl

theorem stagingKept_advanceStartUp (s : State) : StagingKept s s.advanceStartUp :=
  .ite (.ite ((stagingKept_clearReads s).trans (stagingKept_nextFooter _)) (stagingKept_enterService s)) (.refl s)

theorem stagingKept_searchTrack (s : State) : StagingKept s s.searchTrack := by
  unfold State.searchTrack
  split
  · exact .refl s
  · split <;> exact .of_same rfl rfl rfl

theorem stagingKept_testGates (s : State) : StagingKept s s.testGates := by
  unfold State.testGates
  split
  · exact .ite (.of_same (by rfl) (by rfl) (by rfl)) (.refl s)
  · exact .refl s

theorem stagingKept_advanceEngine (s : State) : StagingKept s s.advanceEngine := by
  have dropped : StagingKept s (s.setHand none) := .of_same rfl rfl rfl
  unfold State.advanceEngine
  split
  · split
    · exact .ite ((dropped.trans (stagingKept_searchTrack _)).trans (stagingKept_testGates _)) (stagingKept_testGates s)
    · exact (stagingKept_searchTrack s).trans (stagingKept_testGates _)
  · exact .refl s

theorem stagingKept_modSlot (s : State) (i : Fin 16) (f : FetchSlot → FetchSlot) : StagingKept s (s.modSlot i f) :=
  .of_same rfl rfl rfl

theorem stagingKept_deliverSlot (s : State) (i : Fin 16) : StagingKept s (s.deliverSlot i) := by
  unfold State.deliverSlot
  dsimp only
  split
  · split
    · exact .refl s
    · exact .ite ((stagingKept_modPort s _ _).trans ((stagingKept_answerEntry _ _ _ _).trans (stagingKept_modSlot _ _ _)))
        ((stagingKept_modPort s _ _).trans (stagingKept_modSlot _ _ _))
  · exact .refl s

theorem stagingKept_deliverPattern (s : State) (e : ReqEntry) : StagingKept s (s.deliverPattern e) := by
  unfold State.deliverPattern
  split
  · next lsa count next _ =>
    have counted : StagingKept s (s.modEntry e.key fun e => { e with info := .patternGet lsa count (next + 1) }) :=
      .of_keys (.modEntry (by exact fun _ => rfl) s _) rfl rfl
    exact .ite (.refl s) (.thenIf (counted.trans (stagingKept_pushFrame _ _ _)) (stagingKept_answerEntry _ _ _ _))
  · exact .refl s

theorem stagingKept_deliver (s : State) : StagingKept s s.deliver :=
  (StagingKept.foldl stagingKept_deliverSlot _ s).trans (.foldl stagingKept_deliverPattern _ _)

theorem stagingKept_freeEnded (s : State) : StagingKept s s.freeEnded :=
  .of_same (by simp [State.freeEnded]) (by simp [State.freeEnded]) (by simp [State.freeEnded])

theorem stagingKept_finishReset (s : State) : StagingKept s s.finishReset := by
  have ended : StagingKept s { s with resetWaits := none } := .of_same rfl rfl rfl
  have answered : StagingKept s { s with resetWaits := none, resetRecord := none } := .of_same rfl rfl rfl
  unfold State.finishReset
  refine .ite ?_ (.refl s)
  dsimp only
  split
  · exact ended
  · exact .ite answered (answered.trans (stagingKept_pushFrame _ _ _))

theorem stagingKept_storeFills (s old : State) : StagingKept s (s.storeFills old) :=
  .mapQueues (fun q x => by split <;> rfl) (fun q x => by split <;> rfl) s

theorem stagingKept_release (s : State) : StagingKept s s.release := by
  unfold State.release State.startSpin
  split <;> exact .of_same rfl rfl rfl

theorem stagingKept_startRelocation (s old : State) (ended : Bool) : StagingKept s (s.startRelocation old ended) :=
  .ite (.thenIf (.of_same (by rfl) (by rfl) (by rfl)) (stagingKept_release _)) (.refl s)

theorem stagingKept_holdTimers (s : State) : StagingKept s s.holdTimers :=
  .mapQueues (f := fun q x => { x with timer := s.timerOf q }) (fun _ _ => rfl) (fun _ _ => rfl) s

theorem stagingKept_clearPoolStalls (s : State) : StagingKept s s.clearPoolStalls :=
  .mapQueues (f := fun _ x => { x with poolStall := false }) (fun _ _ => rfl) (fun _ _ => rfl) s

theorem stagingKept_settleWork (s old : State) (ended : Bool) : StagingKept s (s.settleWork old ended) := by
  have stalls : ∀ t : State, StagingKept t (t.clearStalls old) := fun t => .ite (stagingKept_clearPoolStalls t) (.refl t)
  have asked : ∀ t : State, StagingKept t (t.askRelease old) := fun t => .ite (stagingKept_release t) (.refl t)
  have raised : ∀ t : State, StagingKept t (t.raiseSpace old) := fun t => .foldl (fun s _ => stagingKept_raiseBoth s _ _) _ t
  exact ((((stagingKept_startRelocation s old ended).trans (stagingKept_holdTimers _)).trans (stalls _)).trans (asked _)).trans
    (raised _)

theorem stagingKept_storeStalls (s : State) : StagingKept s s.storeStalls :=
  .mapQueues (f := fun q x => { x with stall := s.stallOf q }) (fun _ _ => rfl) (fun _ _ => rfl) s

theorem stagingKept_beginSending (s : State) : StagingKept s s.beginSending := .of_same rfl rfl rfl

end Sys2Proof.Machine

namespace Sys2Proof.Machine

/-! PROOFS. No operation beside the entering of a request adds to the Request Table's keys: the operations of the engine, the
spindle, the Gets, placement, start-up, the media port, the Puts, the resets and the links (used for O10). -/

theorem keysKept_answerEntry (s : State) (k : Key) (x : Status) (r : Result) : KeysKept s (s.answerEntry k x r) :=
  (stagingKept_answerEntry s k x r).toKeysKept

theorem keysKept_answerAll (s : State) (ks : List Key) (x : Status) : KeysKept s (s.answerAll ks x) :=
  .foldl (fun s k => keysKept_answerEntry s k x .none) ks s

theorem keysKept_answerNow (s : State) (k : Key) (kind : Nat) (x : Status) (r : Result) : KeysKept s (s.answerNow k kind x r) :=
  .of_same (by simp)

theorem keysKept_raiseBoth (s : State) (k : Notice) (d : Nat) : KeysKept s (s.raiseBoth k d) := .of_same rfl

theorem keysKept_raise (s : State) (l : Link) (k : Notice) (d : Nat) : KeysKept s (s.raise l k d) := .of_same (by simp)

theorem keysKept_modPort (s : State) (l : Link) (f : Port → Port) : KeysKept s (s.modPort l f) := .of_same (by simp)

theorem keysKept_pushFrame (s : State) (l : Link) (f : OutFrame) : KeysKept s (s.pushFrame l f) := .of_same (by simp)

theorem keysKept_freeSlot (s : State) (l : Link) : KeysKept s (s.freeSlot l) := .of_same (by simp)

theorem keysKept_releaseRead (s : State) (b : Nat) : KeysKept s (s.releaseRead b) :=
  .thenIf (.of_same (by rfl) : KeysKept s (s.modBand b fun r => { r with pendingReads := r.pendingReads - 1 })) (.of_same (by rfl))

/-! ### Pieces (R80 to R86, R174) -/

theorem keysKept_movePieces (s : State) (o : Option Key) (n m : Nat) : KeysKept s (s.movePieces o n m) := by
  cases o
  · exact .refl s
  · exact .modPut s _ _

theorem keysKept_recordOutcome (s : State) (o : Option Key) (x : Outcome) : KeysKept s (s.recordOutcome o x) := by
  cases o
  · exact .refl s
  · exact .modPut s _ _

theorem PiecesKept.keysKept {s t : State} (h : PiecesKept s t) : KeysKept s t := ⟨by rw [h.keys]⟩

theorem keysKept_resolvePiece (place : Piece → Stretch → Option Location) (lostOf : Inserted → List (Nat × Nat)) (asLost : Bool)
    (acc : State × Nat) (p : Piece) : KeysKept acc.1 (resolvePiece place lostOf asLost acc p).1 := by
  have entered : ∀ acc st, KeysKept acc.1 (applyStretch place lostOf p acc st).1 := fun _ _ => .of_same (insertReleased_table _ _ _)
  exact (KeysKept.foldl_fst entered p.stretches (acc.1, acc.2, [])).trans
    (piecesKept_resolveHost _ _ _ _).keysKept

theorem keysKept_completeBand (s : State) (b : Nat) (failed : Bool) : KeysKept s (s.completeBand b failed) := .of_same rfl

theorem keysKept_writeDone (s : State) (w : WriteOrder) : KeysKept s (s.writeDone w) := by
  unfold State.writeDone
  rw [enterPiece_eq]
  exact (KeysKept.foldl_fst (keysKept_resolvePiece _ _ false) w.pieces (s, w.records)).trans (keysKept_completeBand _ _ _)

theorem keysKept_losePiece (acc : State × Nat) (p : Piece) : KeysKept acc.1 (losePiece acc p).1 := by
  rw [losePiece_eq]
  exact keysKept_resolvePiece _ _ _ acc p

theorem keysKept_failPiece (acc : State × Nat × List Fragment) (p : Piece) : KeysKept acc.1 (failPiece acc p).1 := by
  unfold failPiece
  dsimp only
  split
  · exact .refl _
  · split
    · exact .refl _
    · exact keysKept_losePiece (acc.1, acc.2.1) _

theorem keysKept_orphanPiece (acc : State × Nat) (p : Piece) : KeysKept acc.1 (orphanPiece acc p).1 := by
  unfold orphanPiece
  refine .ite_fst (.refl _) (.ite_fst (.refl _) (.ite_fst (keysKept_losePiece acc p) ?_))
  exact (keysKept_recordOutcome _ _ _).trans (keysKept_movePieces _ _ _ _)

theorem keysKept_writeFailed (s : State) (w : WriteOrder) : KeysKept s (s.writeFailed w) := by
  unfold State.writeFailed
  refine KeysKept.trans ?_ (keysKept_completeBand _ _ _)
  split
  · exact .foldl_fst keysKept_orphanPiece w.pieces (s, w.records)
  · exact (KeysKept.foldl_fst keysKept_failPiece w.pieces (s, w.records, [])).trans (.of_same (by rfl))

theorem keysKept_applyTrim (s : State) (a b : Nat) : KeysKept s (s.applyTrim a b) := by
  have cut : ∀ (t : State) f g m, KeysKept t (((t.mapQueues f).mapWrites g).setMap m) := fun _ _ _ _ => .of_same (by simp)
  have cleared : ∀ t : State, KeysKept t t.clearPoolStalls := fun _ => .of_same (by simp)
  have measured : ∀ t : State, KeysKept t (t.noteFalls s) := fun _ => .of_same (by simp)
  have moved := (KeysKept.foldl (fun t (r : Fragment) => keysKept_movePieces t r.origin 1 (Fragment.trim a b r).length)
    s.allRecords s).trans (KeysKept.foldl
      (fun t (p : Piece) => keysKept_movePieces t p.origin p.stretches.length (p.trim a b).stretches.length) s.allPieces _)
  unfold State.applyTrim
  exact .ite ((KeysKept.thenIf (moved.trans (cut _ _ _ _)) (cleared _)).trans (measured _)) (.refl s)

/-! ### The Relocation Engine (chapter 7) -/

theorem keysKept_endRun (s : State) (x : Status) : KeysKept s (s.endRun x) := (stagingKept_endRun s x).toKeysKept

theorem keysKept_releaseBand (s : State) (b : Nat) : KeysKept s (s.releaseBand b) := (stagingKept_releaseBand s b).toKeysKept

theorem keysKept_releaseEmptied (s : State) : KeysKept s s.releaseEmptied := (stagingKept_releaseEmptied s).toKeysKept

theorem keysKept_abandonVictim (s : State) : KeysKept s s.abandonVictim := by
  unfold State.abandonVictim
  split
  · exact .refl s
  · next b _ =>
    have back : KeysKept s { s.modBand b fun r => { r.uncleaned with suspect := true } with
        engine := { s.engine with victim := none, cursor := none, hand := none, deferred := some b } } := .of_same rfl
    exact back.trans (.ite (keysKept_endRun _ _) (stagingKept_continueRun _).toKeysKept)

theorem keysKept_resetEngine (s : State) : KeysKept s s.resetEngine := by
  have abandoned : ∀ t : State, KeysKept t
      { (State.endRun { t with window := t.window.map Order.staleRead } .aborted) with engine := Engine.reset } := fun t =>
    ((.of_same (by rfl) : KeysKept t { t with window := t.window.map Order.staleRead }).trans (keysKept_endRun _ .aborted)).trans
      (.of_same (by rfl))
  unfold State.resetEngine
  dsimp only
  split
  · exact abandoned s
  · next b _ => exact (.of_same (by rfl) : KeysKept s (s.modBand b Band.uncleaned)).trans (abandoned _)

theorem keysKept_grantReloc (s : State) : KeysKept s s.grantReloc.1 := by
  have claimed : ∀ b o h, KeysKept s (((s.claimRead b).issue o).setHand h) := fun _ _ _ => .of_same (by simp)
  unfold State.grantReloc
  split
  · exact .ite_fst (.of_same (by rfl)) (.ite_fst (.of_same (by rfl)) (claimed _ _ _))
  · exact .refl s

theorem keysKept_relocRead (s : State) (r : ReadOrder) (read : Nat → Bool) : KeysKept s (s.relocRead r read) := by
  refine (keysKept_releaseRead s r.band).trans ?_
  unfold State.relocRead
  dsimp only
  split
  · exact .refl _
  · exact .of_same rfl

theorem keysKept_relocTimedOut (s : State) (r : ReadOrder) : KeysKept s (s.relocTimedOut r) :=
  (keysKept_releaseRead s r.band).trans (.ite (.of_same (by rfl)) (.ite (keysKept_releaseBand _ _) (keysKept_abandonVictim _)))

theorem keysKept_selectVictim (s : State) : KeysKept s s.selectVictim := by
  unfold State.selectVictim
  split
  · split
    · exact keysKept_endRun s .ok
    · exact .of_same rfl
  · exact .refl s

theorem keysKept_makeRecords (s : State) : KeysKept s s.makeRecords := by
  unfold State.makeRecords
  split
  · exact .ite (.ite (.of_same (by simp)) (.refl s)) (.refl s)
  · exact .refl s

/-! ### Spindle Control (chapter 8) -/

theorem keysKept_startSpin (s : State) : KeysKept s s.startSpin := .of_same rfl

theorem keysKept_release (s : State) : KeysKept s s.release := (stagingKept_release s).toKeysKept

/-- A change of Spindle Control's own state. -/
theorem keysKept_spindle (s : State) (x : Spindle) : KeysKept s { s with spindle := x } := .of_same rfl

theorem keysKept_returnSpinning (s : State) (x : Status) : KeysKept s (s.returnSpinning x) := by
  unfold State.returnSpinning
  dsimp only
  split
  · exact (keysKept_spindle s _).trans (keysKept_answerAll _ _ _)
  · exact (keysKept_spindle s _).trans ((keysKept_answerEntry _ _ _ _).trans (keysKept_answerAll _ _ _))

theorem keysKept_comeToRest (s : State) : KeysKept s s.comeToRest := by
  unfold State.comeToRest
  dsimp only
  cases s.spindle.quiesce with
  | none => exact .thenIf (keysKept_spindle s _) (keysKept_startSpin _)
  | some k => exact .thenIf ((keysKept_spindle s _).trans (keysKept_answerEntry _ _ _ _)) (keysKept_startSpin _)

theorem keysKept_spunUp (s : State) : KeysKept s s.spunUp := by
  have answered : KeysKept s (State.answerAll { s with spindle := Spindle.turning } s.spindle.wakes .ok) :=
    (keysKept_spindle s _).trans (keysKept_answerAll _ _ _)
  have woken := KeysKept.thenIf (c := (State.answerAll { s with spindle := Spindle.turning } s.spindle.wakes .ok).service = .inService)
    answered (keysKept_raiseBoth _ .wake 0)
  unfold State.spunUp
  dsimp only
  split
  · exact woken.trans (.of_same (by rfl))
  · exact woken

theorem keysKept_spinFailed (s : State) : KeysKept s s.spinFailed := (keysKept_spindle s _).trans (keysKept_answerAll _ _ _)

theorem keysKept_motionTimedOut (s : State) (m : Motion) : KeysKept s (s.motionTimedOut m) :=
  .ite (.ite (keysKept_spindle s _) (.refl s)) (keysKept_returnSpinning s _)

theorem keysKept_spindleDown (s : State) : KeysKept s s.spindleDown := by
  unfold State.spindleDown
  split
  · exact keysKept_spinFailed s
  · exact keysKept_returnSpinning s _
  · exact keysKept_returnSpinning s _
  · exact .refl s

/-! ### The Fetch Unit (chapter 6) -/

theorem keysKept_failRead (s : State) (f : FetchRead) (left : List (Nat × Nat)) : KeysKept s (s.failRead f left) :=
  (.of_same (by rfl) : KeysKept s _).trans (keysKept_releaseRead _ _)

theorem keysKept_fetchCompleted (s : State) (f : FetchRead) (read : Nat → Bool) : KeysKept s (s.fetchCompleted f read) := by
  have settled : ∀ g, KeysKept s (s.modSlot f.slot g) := fun _ => .of_same rfl
  unfold State.fetchCompleted
  refine .ite (.ite ((settled _).trans (keysKept_releaseRead _ _)) ?_) (keysKept_releaseRead _ _)
  split
  · exact .of_same rfl
  · exact (settled _).trans (keysKept_failRead _ _ _)

theorem keysKept_downRead (s : State) (f : FetchRead) : KeysKept s (s.downRead f) :=
  (KeysKept.ite (.of_same (by rfl)) (.refl s)).trans (keysKept_releaseRead _ _)

theorem keysKept_fetchTimedOut (s : State) (f : FetchRead) (down : Bool) : KeysKept s (s.fetchTimedOut f down) :=
  .ite (keysKept_releaseRead _ _) (.ite (keysKept_failRead _ _ _) (.ite (keysKept_downRead _ _) (.of_same (by rfl))))

theorem keysKept_fetchDown (s : State) : KeysKept s s.fetchDown :=
  (.of_same (by rfl) : KeysKept s { s with fetchList := [] }).trans (.foldl keysKept_downRead _ _)

theorem keysKept_cancelSlot (s : State) (i : Fin 16) : KeysKept s (s.cancelSlot i) := by
  have listed : KeysKept s { s with fetchList := s.fetchList.filter fun r => r.slot != i } := .of_same rfl
  have ending : ∀ t : State, KeysKept t (t.modSlot i fun x => { x with state := .ending }) := fun _ => .of_same rfl
  exact .ite ((listed.trans (.foldl (fun s (r : FetchRead) => keysKept_releaseRead s r.band) _ _)).trans (ending _)) (.refl s)

/-! ### Placement (chapter 4) -/

theorem keysKept_issueWrite (s : State) (q : Fin 16) (b : Nat) (r : Band) (built : Build) (emergency : Bool) :
    KeysKept s (s.issueWrite q b r built emergency) := by
  unfold State.issueWrite
  dsimp only
  exact (keysKept_movePieces s (built.split.bind (·.origin)) 1 2).trans (.of_same (by simp))

theorem keysKept_serveBand (s : State) (q : Fin 16) (b : Nat) (emergency : Bool) : KeysKept s (s.serveBand q b emergency).1 := by
  unfold State.serveBand
  split
  · exact .refl s
  · dsimp only
    split
    · exact .of_same rfl
    · exact keysKept_issueWrite s q b _ _ emergency

theorem keysKept_serveQueue (s : State) (q : Fin 16) (emergency : Bool) : KeysKept s (s.serveQueue q emergency).1 := by
  unfold State.serveQueue
  split
  · exact keysKept_serveBand s q _ emergency
  · split
    · exact .refl s
    · next b _ =>
      have opened : KeysKept s (s.modBand b (Band.open_ q)) := .of_same rfl
      exact .ite_fst (opened.trans (keysKept_serveBand _ q b emergency)) opened

theorem keysKept_placementLoop (emergency : Bool) (n : Nat) (tried : List (Fin 16)) (last : Fin 16) (s : State) :
    KeysKept s (placementLoop emergency n tried last s).1 := by
  induction n generalizing tried last s with
  | zero => exact .refl s
  | succ n ih =>
    unfold placementLoop
    split
    · exact .refl s
    · next q _ =>
      have served := keysKept_serveQueue s q emergency
      exact .ite_fst served (served.trans (ih _ _ _))

/-! ### Start-up (R176 to R179) -/

theorem keysKept_insertFooterPiece (band base : Nat) (s : State) (p : FooterPiece) :
    KeysKept s (s.insertFooterPiece band base p) := by
  have inserted : ∀ (r : Inserted) x y, KeysKept s (((s.setMap r.entries).noteHeadroom x y).raiseLost r.dropped) := fun _ _ _ =>
    .of_same (by simp [raiseLost_table])
  exact (inserted _ _ _).trans (keysKept_releaseEmptied _)

theorem keysKept_footerRead (s : State) (band track : Nat) (footer : Option Sector) :
    KeysKept s (s.footerRead band track footer) := by
  have read : ∀ (t : State) f, KeysKept t (t.modBand band f) := fun _ _ => .of_same rfl
  unfold State.footerRead
  refine KeysKept.trans ?_ (stagingKept_nextFooter _).toKeysKept
  split
  · exact (KeysKept.foldl (keysKept_insertFooterPiece _ _) _ s).trans (read _ _)
  · exact read s _

theorem keysKept_startUpSpin (s : State) : KeysKept s s.startUpSpin := .of_same rfl

theorem keysKept_beginStartUp (s : State) : KeysKept s s.beginStartUp := by
  have recalled : KeysKept s s.readMapMemory := .ite (.of_same (by rfl)) (.of_same (by rfl))
  exact .ite (recalled.trans (.of_same (by rfl))) (.refl s)

/-! ### The Media Port (chapter 5) -/

/-- A profile's change, and the answer of the Load Profile that waits for it. -/
theorem keysKept_profileAnswered (s : State) (i : Nat) (f : Profile → Profile) (k : Key) (x : Status) :
    KeysKept s ((s.modProfile i f).answerEntry k x .none) :=
  (.of_same (by simp) : KeysKept s (s.modProfile i f)).trans (keysKept_answerEntry _ _ _ _)

theorem keysKept_geometryLost (s : State) (x : Status) (g : GeoOrder) : KeysKept s (s.geometryLost x g) := by
  unfold State.geometryLost
  split
  · exact keysKept_profileAnswered s _ _ _ _
  · exact .refl s
  · exact .refl s

theorem keysKept_footerTimedOut (s : State) (r : ReadOrder) : KeysKept s (s.footerTimedOut r) :=
  .ite (.of_same (by rfl)) (keysKept_footerRead s _ _ _)

theorem keysKept_failOrder (s : State) (down : Bool) (o : Order) : KeysKept s (s.failOrder down o) := by
  cases o with
  | write w => exact keysKept_writeFailed s w
  | read r =>
    unfold State.failOrder
    dsimp only
    split
    · exact keysKept_fetchTimedOut s _ down
    · exact .ite (keysKept_releaseRead s _) (keysKept_relocTimedOut s r)
    · exact keysKept_footerTimedOut s r
  | geometry g => exact keysKept_geometryLost s _ g
  | motion m => exact keysKept_motionTimedOut s m

theorem keysKept_orderLeft (s : State) : KeysKept s s.orderLeft := .of_same rfl

theorem keysKept_failOrders (down : Bool) (os : List Order) (s : State) : KeysKept s (failOrders down os s) := by
  induction os generalizing s with
  | nil => exact .refl s
  | cons o rest ih =>
    have left : KeysKept s { s with window := rest } := .of_same rfl
    rw [failOrders_cons]
    exact ((left.trans (keysKept_failOrder _ down o)).trans (keysKept_orderLeft _)).trans (ih _)

theorem keysKept_withdrawAll (s : State) : KeysKept s s.withdrawAll := by
  have fetches : KeysKept s (State.fetchDown { s with geometry := [] }) :=
    (.of_same (by rfl) : KeysKept s { s with geometry := [] }).trans (keysKept_fetchDown _)
  unfold State.withdrawAll
  exact (((fetches.trans (.foldl (fun s g => keysKept_geometryLost s .mediaDown g) _ _)).trans (keysKept_spindleDown _)).trans
    (.of_same (by rfl))).trans ((keysKept_raiseBoth _ _ _).trans (keysKept_answerAll _ _ _))

theorem keysKept_enterDown (s : State) : KeysKept s s.enterDown := by
  have down : KeysKept s { s with path := .down } := .of_same rfl
  exact .thenIf ((down.trans (keysKept_failOrders true s.window _)).trans (keysKept_withdrawAll _))
    (stagingKept_enterService _).toKeysKept

theorem keysKept_enterRecovering (s : State) : KeysKept s s.enterRecovering := by
  have recovering : KeysKept s { s with path := .recovering } := .of_same rfl
  exact .thenIf (((recovering.trans (keysKept_failOrders false s.window _)).trans (.of_same (by rfl))).trans
    (keysKept_raiseBoth _ _ _))
    (keysKept_enterDown _)

theorem keysKept_mediaFault (s : State) : KeysKept s s.mediaFault :=
  .ite (.ite (keysKept_enterDown s) (keysKept_enterRecovering s)) (.refl s)

theorem keysKept_motionCompleted (s : State) (m : Motion) (done : Bool) : KeysKept s (s.motionCompleted m done) := by
  unfold State.motionCompleted
  split
  · exact keysKept_spunUp s
  · exact keysKept_comeToRest s
  · exact keysKept_returnSpinning s _
  · exact .ite ((keysKept_spindle s _).trans (keysKept_enterRecovering _)) (keysKept_enterDown s)

theorem keysKept_geometryCompleted (s : State) (g : GeoOrder) (done : Bool) : KeysKept s (s.geometryCompleted g done) := by
  unfold State.geometryCompleted
  split
  · exact keysKept_profileAnswered s _ _ _ _
  · exact keysKept_geometryLost s _ g
  · exact .of_same rfl
  · exact keysKept_enterDown s

theorem keysKept_readCompleted (s : State) (r : ReadOrder) (c : Completion) : KeysKept s (s.readCompleted r c) := by
  unfold State.readCompleted
  split
  · exact keysKept_fetchCompleted s _ _
  · exact .ite (keysKept_releaseRead s _) (keysKept_relocRead s r _)
  · exact keysKept_footerRead s _ _ _

theorem keysKept_orderCompleted (s : State) (c : Completion) (o : Order) : KeysKept s (s.orderCompleted c o) := by
  cases o with
  | write w => exact .ite (keysKept_writeDone s w) (keysKept_writeFailed s w)
  | read r => exact keysKept_readCompleted s r c
  | geometry g => exact keysKept_geometryCompleted s g _
  | motion m => exact keysKept_motionCompleted s m _

theorem keysKept_takeCompletion (s : State) (kind : Nat) (c : Completion) : KeysKept s (s.takeCompletion kind c) := by
  have left : ∀ rest, KeysKept s (State.startDeadline { s with window := rest }).orderLeft := fun _ => .of_same rfl
  unfold State.takeCompletion
  refine .ite (.refl s) ?_
  split
  · exact keysKept_mediaFault s
  · exact .ite ((left _).trans (keysKept_orderCompleted _ c _)) (keysKept_mediaFault s)

theorem keysKept_landSector (s : State) (r : ReadOrder) (sector : Nat) (data : Sector) :
    KeysKept s (s.landSector r sector data) := by
  unfold State.landSector
  split
  · exact .ite (.of_same (by rfl)) (.refl s)
  · exact .ite (.refl s) (.of_same (by rfl))
  · split
    · exact .of_same rfl
    · exact .refl s

theorem keysKept_takeSector (s : State) (sector : Nat) (data : Sector) (check : BitVec 32) :
    KeysKept s (s.takeSector sector data check) := by
  have landed : ∀ os, KeysKept s { s with window := os } := fun _ => .of_same rfl
  unfold State.takeSector
  refine .ite (.refl s) ?_
  split
  · exact .ite ((landed _).trans (keysKept_landSector _ _ _ _)) (keysKept_mediaFault s)
  · exact keysKept_mediaFault s

theorem keysKept_sequencerReady (s : State) : KeysKept s s.sequencerReady := by
  have ready : KeysKept s { s with path := .ready, startWait := false } := .of_same rfl
  have recovered : ∀ g x, KeysKept s { s with
      path := .ready, recoveryWait := false, escalation := true, stage := x, geometry := g } := fun _ _ => .of_same rfl
  unfold State.sequencerReady
  split
  · exact .ite (.refl s) (.ite (ready.trans (keysKept_startUpSpin _)) ready)
  · exact (recovered _ _).trans (keysKept_answerAll _ _ _)
  · exact .refl s
  · exact .refl s

theorem keysKept_orTry {s : State} {r : State × Bool} {f : State → State × Bool} (hr : KeysKept s r.1)
    (hf : ∀ t, KeysKept t (f t).1) : KeysKept s (orTry r f).1 := .ite_fst hr (hr.trans (hf _))

theorem keysKept_grantFetch (emergency candidate : Bool) (s : State) : KeysKept s (State.grantFetch emergency candidate s).1 := by
  have ran : ∀ t : State, KeysKept t (t.ranFetch emergency candidate) := fun t => .ite (.refl t) (.of_same (by rfl))
  have issued : ∀ x rs o, KeysKept s (State.issue { s with stage := x, fetchList := rs } o) := fun _ _ _ => .of_same (by simp)
  unfold State.grantFetch
  split
  · exact (issued _ _ _).trans (ran _)
  · split
    · exact .refl s
    · exact (issued _ _ _).trans (ran _)

theorem keysKept_grantRelocRead (s : State) : KeysKept s s.grantRelocRead.1 := .ite_fst (keysKept_grantReloc s) (.refl s)

theorem keysKept_grantWrite (stands : Bool) (s : State) : KeysKept s (State.grantWrite stands s).1 :=
  .ite_fst (keysKept_placementLoop _ _ _ _ s) (.refl s)

theorem keysKept_grantTransfer (s : State) : KeysKept s s.grantTransfer.1 := by
  unfold State.grantTransfer
  refine .ite_fst ?_ (.ite_fst ?_ ?_)
  · exact keysKept_orTry (keysKept_orTry (keysKept_orTry (keysKept_grantRelocRead s) (keysKept_grantWrite _))
      (keysKept_grantFetch _ _)) (keysKept_grantWrite _)
  · exact keysKept_orTry (keysKept_orTry (keysKept_grantWrite _ s) (keysKept_grantFetch _ _)) keysKept_grantRelocRead
  · exact keysKept_orTry (keysKept_orTry (keysKept_grantFetch _ _ s) (keysKept_grantWrite _)) keysKept_grantRelocRead

theorem keysKept_grantMedia (s : State) : KeysKept s s.grantMedia := by
  have moved : ∀ x g o, KeysKept s (State.issue { s with spindle := x, geometry := g } o) := fun _ _ _ => .of_same (by simp)
  unfold State.grantMedia
  refine .ite (.refl s) ?_
  split
  · exact .ite (moved _ _ _) (.refl s)
  · split
    · exact moved _ _ _
    · exact .ite (keysKept_grantTransfer s) (.refl s)

/-! ### Puts and resets (R52, R53, R171 to R175) -/

theorem keysKept_answerPut (s : State) (k : Key) (p : PutInfo) : KeysKept s (s.answerPut k p) := by
  have acknowledged : KeysKept s (s.acknowledge k) := .of_same (by simp [State.acknowledge])
  exact (KeysKept.ite acknowledged (.refl s)).trans (keysKept_answerEntry _ _ _ _)

theorem keysKept_answerPutEntry (s : State) (e : ReqEntry) : KeysKept s (s.answerPutEntry e) := by
  unfold State.answerPutEntry
  split
  · exact .ite (keysKept_answerPut s _ _) (.refl s)
  · exact .refl s

theorem keysKept_answerPuts (s : State) : KeysKept s s.answerPuts := .foldl keysKept_answerPutEntry _ s

theorem keysKept_convertRecords (s : State) : KeysKept s s.convertRecords := by
  have converted : ∀ acc r, KeysKept acc.1 (convertRecord acc r).1 := fun acc r => by
    unfold convertRecord
    exact .of_same (by simp [raiseLost_table])
  exact .foldl_fst converted _ (s, 0)

theorem keysKept_resetPuts (s : State) : KeysKept s s.resetPuts :=
  ((keysKept_convertRecords s).trans (keysKept_releaseEmptied _)).trans
    (.mapTable (fun e => by unfold State.settleEntry; split <;> rfl) rfl)

theorem keysKept_resetQueues (s : State) : KeysKept s s.resetQueues := by
  have emptied : KeysKept s (((s.mapQueues fun _ q => q.emptied).mapWrites WriteOrder.orphan).mapBands Band.shut) :=
    .of_same (by simp)
  exact emptied.trans (keysKept_resetEngine _)

theorem keysKept_abortSlot (s : State) (i : Fin 16) : KeysKept s (s.abortSlot i) :=
  .ite ((keysKept_answerEntry s _ _ _).trans (keysKept_cancelSlot _ i)) (.refl s)

theorem keysKept_resetAnswers (flushes : List Key) (s : State) : KeysKept s (s.resetAnswers flushes) :=
  (KeysKept.foldl keysKept_abortSlot allQueues s).trans
    (((keysKept_answerAll _ _ _).trans (keysKept_answerAll _ _ _)).trans (keysKept_answerPuts _))

theorem keysKept_performReset (s : State) (one : Bool) : KeysKept s (s.performReset one) := by
  have defaults : ∀ t : State, KeysKept t t.defaults := fun t => by
    unfold State.defaults
    exact .of_same rfl
  have worked : KeysKept s s.resetWork :=
    ((keysKept_resetPuts s).trans (keysKept_resetQueues _)).trans (keysKept_resetAnswers _ _)
  rw [performReset_eq]
  exact (KeysKept.thenIf worked (defaults _)).trans (.of_same (by rfl))

/-! ### Link failures (R151 to R156) -/

theorem keysKept_abandonPut (s : State) (k : Key) : KeysKept s (s.abandonPut k) := by
  have dropped : ∀ f, KeysKept s (s.mapQueues f) := fun f => .of_same (State.mapQueues_table s f)
  exact (dropped _).trans (.modPut _ _ _)

theorem keysKept_abandonPuts (s : State) (l : Link) : KeysKept s (s.abandonPuts l) := .foldl keysKept_abandonPut _ s

theorem keysKept_answerAbandoned (s : State) (k : Key) : KeysKept s (s.answerAbandoned k) := by
  unfold State.answerAbandoned
  split
  · exact .ite (keysKept_answerPut s _ _) (.refl s)
  · exact .refl s

theorem keysKept_discardOwed (s : State) (l : Link) : KeysKept s (s.discardOwed l) := by
  have owed : KeysKept s { s with table := s.table.filter fun e => !(e.reply == l && (e.answered || e.info.isPattern)) } :=
    ⟨List.filter_sublist.map _⟩
  exact owed.trans (.mapTable (fun e => by unfold ReqEntry.discard; split <;> rfl) rfl)

theorem keysKept_failPart (s : State) (l : Link) : KeysKept s (s.failPart l) :=
  .ifElse (keysKept_discardOwed s l) (keysKept_performReset _ false)

theorem keysKept_failPaired (s : State) (l : Link) (x : LinkState) (frames : List OutFrame) :
    KeysKept s (s.failPaired l x frames) := by
  have redirected : ∀ r, KeysKept s { s with table := s.table.map (ReqEntry.redirect l), resetRecord := r } := fun _ =>
    .mapTable (fun e => by unfold ReqEntry.redirect; split <;> rfl) rfl
  exact ((((redirected _).trans (keysKept_abandonPuts _ l)).trans (.foldl keysKept_answerAbandoned _ _)).trans
    (keysKept_modPort _ _ _)).trans (keysKept_raise _ _ _ _)

theorem keysKept_dropGet (s : State) (i : Fin 16) : KeysKept s (s.dropGet i) :=
  .ite ((keysKept_cancelSlot s i).trans (.dropEntry _ _)) (.refl s)

theorem keysKept_failUnpaired (s : State) (l : Link) : KeysKept s (s.failUnpaired l) :=
  ((keysKept_discardOwed s l).trans (keysKept_abandonPuts _ l)).trans (.foldl keysKept_dropGet _ _)

theorem keysKept_linkFails (s : State) (l : Link) (x : LinkState) : KeysKept s (s.linkFails l x) :=
  (keysKept_modPort s l _).trans
    (.ite (.refl _) (.ite (keysKept_failPart _ l) (.ite (keysKept_failPaired _ l x _) (keysKept_failUnpaired _ l))))

/-! ### Units received and sent (R147 to R152, R167) -/

theorem keysKept_unitArrives (s : State) (l : Link) : KeysKept s (s.unitArrives l) :=
  .ite ((keysKept_modPort s l _).trans (keysKept_raise _ _ _ _)) (.refl s)

theorem keysKept_creditArrives (s : State) (l : Link) : KeysKept s (s.creditArrives l) :=
  (keysKept_unitArrives s l).trans (.ite (.ite (keysKept_linkFails _ l _) (keysKept_modPort _ l _)) (.refl _))

theorem keysKept_frameArrives (s : State) (l : Link) (good : Bool) (f : InFrame) : KeysKept s (s.frameArrives l good f) :=
  (keysKept_unitArrives s l).trans (.ite (.ite (keysKept_linkFails _ l _) (keysKept_modPort _ l _)) (.refl _))

theorem keysKept_holdLink (s : State) (l : Link) : KeysKept s (s.holdLink l) := by
  unfold State.holdLink
  split
  · exact keysKept_linkFails s l _
  · exact keysKept_modPort s l _
  · exact keysKept_modPort s l _
  · exact .refl s

theorem keysKept_frameGone (s : State) (l : Link) : KeysKept s (s.frameGone l) := by
  have released : ∀ (t : State) (f : OutFrame), KeysKept t (t.frameReleases l f) := by
    intro t f
    unfold State.frameReleases
    split
    · exact keysKept_freeSlot t l
    · exact keysKept_freeSlot t l
    · exact .dropEntry t _
    · exact .refl t
    · exact .refl t
  unfold State.frameGone
  split
  · exact (keysKept_modPort s l _).trans (released _ _)
  · exact .refl s

end Sys2Proof.Machine

namespace Sys2Proof.Machine

/-! PROOFS. Requests enter the Request Table within its sizes; what a step settles answers every Put whose response is due and
clears every mark whose drain set is empty; every step keeps both (O10). -/

/-! ### A request enters the table (R158 to R160) -/

/-- The requests that hold an entry in t hold one in s, but for one that has entered behind them. -/
structure Enters (k : Key) (s t : State) : Prop where
  keys : (t.table.map (·.key)).Sublist (s.table.map (·.key) ++ [k])

section
variable {s t u : State} {k : Key}

theorem KeysKept.enters (h : KeysKept s t) (k : Key) : Enters k s t := ⟨h.keys.trans (List.sublist_append_left _ _)⟩

/-- A change ahead of the entering. -/
theorem KeysKept.thenEnters (h : KeysKept s t) (g : Enters k t u) : Enters k s u :=
  ⟨g.keys.trans (h.keys.append (List.Sublist.refl _))⟩

/-- A change behind the entering. -/
theorem Enters.trans (h : Enters k s t) (g : KeysKept t u) : Enters k s u := ⟨g.keys.trans h.keys⟩

theorem Enters.ite {c : Prop} [Decidable c] (ht : Enters k s t) (hu : Enters k s u) : Enters k s (if c then t else u) := by
  split
  · exact ht
  · exact hu

theorem enters_enterTable (s : State) (k : Key) (i : EntryInfo) : Enters k s (s.enterTable k i) :=
  ⟨by rw [enterTable_table, List.map_append, List.map_singleton]⟩

/-- The entering behind a change of none of the table. -/
theorem Enters.entered {x : State} (hx : KeysKept s x) (i : EntryInfo) : Enters k s (x.enterTable k i) :=
  hx.thenEnters (enters_enterTable x k i)

theorem unused_of_tagInUse (h : s.tagInUse k = false) : k ∉ s.table.map (·.key) := by
  intro hk
  obtain ⟨e, he, rfl⟩ := List.mem_map.mp hk
  have unused : s.table.any (·.has e.key) = false := by
    simp only [State.tagInUse, Bool.or_eq_false_iff] at h
    exact h.1.1.1
  exact Bool.false_ne_true ((List.any_eq_false.mp unused e he (by simp [ReqEntry.has])).elim)

/-- A request that finds room and a tag not in use enters a table that still keeps its sizes. -/
theorem Enters.fits (h : Enters k s t) (hs : s.tableFits) (hu : s.tagInUse k = false) (hr : s.tableFull k.origin = false) :
    t.tableFits := by
  obtain ⟨_, links, distinct⟩ := tableFits_iff.mp hs
  simp only [State.tableFull, Bool.or_eq_false_iff, decide_eq_false_iff_not, not_le] at hr
  obtain ⟨total, ofLink⟩ := hr
  rw [← keys_ofLink] at ofLink
  refine tableFits_iff.mpr (KeysFit.sublist ⟨?_, fun l => ?_, ?_⟩ h.keys)
  · rw [List.length_append, List.length_map]
    exact total
  · rw [List.countP_append, List.countP_singleton]
    have := links l
    split
    · next hl =>
      rw [beq_iff_eq] at hl
      exact hl ▸ ofLink
    · simpa using this
  · rw [List.nodup_append]
    refine ⟨distinct, List.nodup_singleton k, fun a ha b hb => ?_⟩
    rintro rfl
    exact unused_of_tagInUse hu (List.mem_singleton.mp hb ▸ ha)

end

/-! ### Frames taken (R159, R182) -/

theorem frameReady_kept (s : State) (l : Link) (good : Bool) (f : InFrame) : KeysKept s (s.frameReady l good f) :=
  .ite (keysKept_frameArrives s l good f) (.refl s)

theorem frameTaken_kept {s p : State} {l : Link} {f : InFrame} (h : s.frameTaken l f = some p) : KeysKept s p := by
  unfold State.frameTaken at h
  split at h
  · cases h
  · split at h
    · rw [← Option.some.inj h]
      exact keysKept_modPort _ l _
    · cases h

theorem takeFrame_fits (s : State) (l : Link) (good : Bool) (f : InFrame) {meaning : State → State}
    (h : ∀ p : State, p.tableFits → (meaning p).tableFits) (hs : s.tableFits) : (s.takeFrame l good f meaning).tableFits := by
  have ready := (frameReady_kept s l good f).fits hs
  unfold State.takeFrame
  split
  · exact ready
  · next p hp => exact h p ((frameTaken_kept hp).fits ready)

theorem handOver_fits_of_kept {s : State} (k : Key) (r : Request) {owner : Key → State → State} (h : ∀ s, KeysKept s (owner k s))
    (hs : s.tableFits) : (s.handOver k r owner).tableFits := by
  unfold State.handOver
  split
  · exact (keysKept_answerNow s _ _ _ _).fits hs
  · exact (h s).fits hs

/-- A request passed to its owner has a tag not in use, and room where it is of a kind that waits (R159). -/
theorem requestRefusal_none {s : State} {k : Key} {r : Request} (h : s.requestRefusal k r = none) :
    s.tagInUse k = false ∧ ((r.isQuery || r.isReset) = false → s.tableFull k.origin = false) := by
  unfold State.requestRefusal at h
  split at h
  · cases h
  next unused =>
  split at h
  · cases h
  split at h
  · cases h
  next room =>
  exact ⟨by simpa using unused, fun hr => by simpa [hr] using room⟩

theorem handOver_fits_of_enters {s : State} {k : Key} {r : Request} (hr : (r.isQuery || r.isReset) = false)
    {owner : Key → State → State} (h : ∀ s, Enters k s (owner k s)) (hs : s.tableFits) : (s.handOver k r owner).tableFits := by
  unfold State.handOver
  split
  · exact (keysKept_answerNow s _ _ _ _).fits hs
  · next hnone =>
    obtain ⟨unused, room⟩ := requestRefusal_none hnone
    exact (h s).fits hs unused (room hr)

section
variable (s : State) (l : Link) (tag : Tag) (r : Request) {owner : Key → State → State}

theorem takeRequest_fits_of_kept (h : ∀ k s, KeysKept s (owner k s)) (hs : s.tableFits) : (s.takeRequest l tag r owner).tableFits :=
  takeFrame_fits s l true _ (fun _ => handOver_fits_of_kept _ r (h _)) hs

theorem takeRequest_fits_of_enters (hr : (r.isQuery || r.isReset) = false) (h : ∀ k s, Enters k s (owner k s)) (hs : s.tableFits) :
    (s.takeRequest l tag r owner).tableFits :=
  takeFrame_fits s l true _ (fun _ => handOver_fits_of_enters hr (h _)) hs

end

/-! ### Requests that wait, by kind -/

theorem enters_takePut (lsa count durability : Nat) (k : Key) (s : State) : Enters k s (State.takePut lsa count durability k s) := by
  have falls : ∀ t : State, KeysKept t (t.noteFalls s) := fun _ => .of_same (by simp)
  have refused : ∀ x r, Enters k s (s.answerNow k 1 x r) := fun _ _ => (keysKept_answerNow s _ _ _ _).enters k
  unfold State.takePut
  split
  · exact refused _ _
  · dsimp only
    split
    · exact refused _ _
    · exact .trans (.ite (.trans (.entered (.of_same (by rfl)) _) (keysKept_raise _ _ _ _)) (.entered (.of_same (by rfl)) _)) (falls _)

theorem enters_takeGet (lsa count : Nat) (k : Key) (s : State) : Enters k s (s.takeGet k lsa count) := by
  have refused : ∀ x, Enters k s (s.answerNow k 2 x .none) := fun _ => (keysKept_answerNow s _ _ _ _).enters k
  have claimed : ∀ (rs : List FetchRead) t, KeysKept t (rs.foldl (fun s r => s.claimRead r.band) t) :=
    KeysKept.foldl fun _ _ => .of_same rfl
  have started : ∀ i sectors reads, Enters k s (s.startGet k i lsa count sectors reads) := fun i sectors reads => by
    have slot : ∀ t : State, ∀ f, KeysKept t (t.modSlot i f) := fun _ _ => .of_same rfl
    have listed : ∀ fs, Enters k s { reads.foldl (fun s r => s.claimRead r.band) ((s.enterTable k .get).modSlot i fun _ =>
          { state := .active, key := k, lsa := lsa, count := count, next := 0, sectors := sectors, mediaDown := false }) with
        fetchList := fs } := fun _ =>
      (((enters_enterTable s k .get).trans (slot _ _)).trans (claimed reads _)).trans (.of_same (by rfl))
    unfold State.startGet
    exact .ite (listed _) ((listed _).trans (keysKept_release _))
  unfold State.takeGet
  split
  · exact refused _
  · split
    · exact refused _
    · dsimp only
      split
      · exact refused _
      · exact started _ _ _

theorem enters_takePatternGet (lsa count : Nat) (k : Key) (s : State) : Enters k s (s.takePatternGet k lsa count) := by
  have refused : ∀ x, Enters k s (s.answerNow k 2 x .none) := fun _ => (keysKept_answerNow s _ _ _ _).enters k
  exact .ite (refused _) (.ite (refused _) (enters_enterTable _ _ _))

theorem enters_takeFlush (queue : Nat) (k : Key) (s : State) : Enters k s (State.takeFlush queue k s) := by
  have answered : ∀ x, Enters k s (s.answerNow k 4 x .none) := fun _ => (keysKept_answerNow s _ _ _ _).enters k
  have marked : ∀ (t : State) q, KeysKept t (State.setMark k t q) := fun t q => by
    rw [setMark_eq]
    exact .of_same rfl
  unfold State.takeFlush
  refine .ite (answered _) ?_
  split
  · exact answered _
  · exact .ite (answered _) ((enters_enterTable s _ _).trans (.foldl marked _ _))

theorem enters_takeClean (band : Nat) (k : Key) (s : State) : Enters k s (State.takeClean band k s) := by
  unfold State.takeClean
  split
  · exact (keysKept_answerNow s _ _ _ _).enters k
  · exact .entered (.of_same (by rfl)) _

theorem enters_takeLoad (profile sectors tracks verify : Nat) (k : Key) (s : State) :
    Enters k s (State.takeLoad profile sectors tracks verify k s) := by
  have updated : ∀ f, KeysKept s (s.modProfile profile f) := fun _ => .of_same (by simp)
  unfold State.takeLoad
  split
  · exact (keysKept_answerNow s _ _ _ _).enters k
  · exact ((updated _).thenEnters (enters_enterTable _ k _)).trans (.of_same (by rfl))

theorem enters_takeFormat (logical bands : Nat) (ranges : List LayoutRange) (k : Key) (s : State) :
    Enters k s (State.takeFormat logical bands ranges k s) := by
  unfold State.takeFormat
  dsimp only
  split
  · exact (keysKept_answerNow s _ _ _ _).enters k
  · exact .entered (.of_same (by rfl)) _

theorem enters_takeQuiesce (target release interval : Nat) (k : Key) (s : State) :
    Enters k s (State.takeQuiesce target release interval k s) := by
  unfold State.takeQuiesce
  split
  · exact (keysKept_answerNow s _ _ _ _).enters k
  · exact .entered (.of_same (by rfl)) _

theorem enters_takeWake (k : Key) (s : State) : Enters k s (State.takeWake k s) := by
  have answered : ∀ x, Enters k s (s.answerNow k 12 x .none) := fun _ => (keysKept_answerNow s _ _ _ _).enters k
  exact .ite (answered _) (.ite (answered _) (.ite (answered _) (.trans (.entered (.of_same (by rfl)) _) (keysKept_release _))))

theorem enters_takeRestart (k : Key) (s : State) : Enters k s (State.takeRestart k s) :=
  .ite (((enters_enterTable s _ _).trans (keysKept_enterRecovering _)).trans (keysKept_release _))
    ((keysKept_answerNow s _ _ _ _).enters k)

/-! ### Requests answered at their taking, by kind -/

theorem keysKept_answerIf (s : State) (k : Key) (kind : Nat) (ok : Bool) (x : Status) {effect : State → State}
    (h : KeysKept s (effect s)) : KeysKept s (s.answerIf k kind ok x effect) :=
  .ite (h.trans (keysKept_answerNow _ _ _ _ _)) (keysKept_answerNow s _ _ _ _)

theorem keysKept_answerQuery (s : State) (k : Key) (r : Except Status (List Field)) : KeysKept s (s.answerQuery k r) := by
  cases r <;> exact keysKept_answerNow s _ _ _ _

theorem keysKept_countedQuery (s : State) (k : Key) (r : Except Status (List Field)) : KeysKept s (s.answerQuery k r).countRead :=
  (keysKept_answerQuery s k r).trans (.of_same (by rfl))

theorem keysKept_takeData (s : State) (l : Link) (f : DataFrame) : KeysKept s (s.takeData l f) := by
  have accepted : ∀ k p data, KeysKept s (s.acceptData k p data) := fun k p data =>
    (KeysKept.modPut s k fun p => { p with next := p.next + 1 }).trans (.of_same (by rfl))
  unfold State.takeData
  split
  · exact .ite (accepted _ _ _) (.refl s)
  · exact .refl s

theorem keysKept_takeTrim (lsa count : Nat) (k : Key) (s : State) : KeysKept s (State.takeTrim lsa count k s) := by
  have counted : KeysKept s { s with sequence := s.sequence + 1 } := .of_same rfl
  unfold State.takeTrim
  split
  · exact keysKept_answerNow s _ _ _ _
  · exact (counted.trans (keysKept_applyTrim _ _ _)).trans (keysKept_answerNow _ _ _ _ _)

theorem keysKept_takeSelect (queue : Nat) (k : Key) (s : State) : KeysKept s (State.takeSelect queue k s) := by
  unfold State.takeSelect
  split
  · exact (keysKept_modPort s _ _).trans (keysKept_answerNow _ _ _ _ _)
  · exact .ite ((keysKept_modPort s _ _).trans (keysKept_answerNow _ _ _ _ _)) (keysKept_answerNow s _ _ _ _)

theorem keysKept_takeDivision (depths : List Nat) (k : Key) (s : State) : KeysKept s (State.takeDivision depths k s) := by
  have divided : ∀ f g, KeysKept s ((s.mapQueues f).mapBands g) := fun _ _ => .of_same (by simp)
  exact .ite (keysKept_answerNow s _ _ _ _) (keysKept_answerIf s _ _ _ _ (divided _ _))

theorem keysKept_takeThresholds (v : Option (Nat × Nat × Nat)) (k : Key) (s : State) :
    KeysKept s (State.takeThresholds v k s) := by
  have set : ∀ q offset hold, KeysKept s (s.setThresholds q offset hold) := fun q offset hold => by
    rw [setThresholds_eq]
    exact .of_same rfl
  unfold State.takeThresholds
  split
  · exact keysKept_answerNow s _ _ _ _
  · split
    · exact keysKept_answerIf s _ _ _ _ (set _ _ _)
    · exact keysKept_answerNow s _ _ _ _

theorem keysKept_takeIntervals (v : Option (Nat × List Interval)) (k : Key) (s : State) :
    KeysKept s (State.takeIntervals v k s) := by
  unfold State.takeIntervals
  split
  · exact keysKept_answerNow s _ _ _ _
  · split
    · exact keysKept_answerIf s _ _ _ _ (.of_same (by rfl))
    · exact keysKept_answerNow s _ _ _ _

theorem keysKept_takeMarks (v : Option (Nat × Nat × Nat)) (k : Key) (s : State) : KeysKept s (State.takeMarks v k s) := by
  unfold State.takeMarks
  split
  · exact keysKept_answerNow s _ _ _ _
  · exact keysKept_answerIf s _ _ _ _ (.of_same (by rfl))

theorem keysKept_takeLinkMode (v : Option Nat) (k : Key) (s : State) : KeysKept s (State.takeLinkMode v k s) := by
  refine .ite (keysKept_answerNow s _ _ _ _) ?_
  split
  · exact keysKept_answerNow s _ _ _ _
  · exact keysKept_answerIf s _ _ _ _ (keysKept_modPort s _ _)

theorem keysKept_takeScope (v : Option (Nat × Nat)) (k : Key) (s : State) : KeysKept s (State.takeScope v k s) := by
  unfold State.takeScope
  split
  · exact keysKept_answerNow s _ _ _ _
  · exact keysKept_answerIf s _ _ _ _ (.of_same (by rfl))

theorem keysKept_takeKinds (v : Option (Nat × Nat)) (effect : List Notice → Port → Port) (k : Key) (s : State) :
    KeysKept s (State.takeKinds v k effect s) := by
  unfold State.takeKinds
  split
  · exact keysKept_answerNow s _ _ _ _
  · split
    · exact keysKept_answerNow s _ _ _ _
    · exact keysKept_answerIf s _ _ _ _ (keysKept_modPort s _ _)

theorem keysKept_takeOrderLimit (v : Option Nat) (k : Key) (s : State) : KeysKept s (State.takeOrderLimit v k s) := by
  unfold State.takeOrderLimit
  split
  · exact keysKept_answerNow s _ _ _ _
  · exact keysKept_answerIf s _ _ _ _ (.of_same (by rfl))

theorem keysKept_takeReset (s : State) (k : Key) (level : Nat) : KeysKept s (s.takeReset k level) := by
  have work := keysKept_performReset s (level = 1)
  have recorded : ∀ (t : State) r, KeysKept t (State.freeSlot { t with resetRecord := r } k.origin) := fun _ _ => .of_same (by simp)
  exact .ite (.ite (work.trans (keysKept_answerNow _ _ _ _ _)) (work.trans (recorded _ _))) (keysKept_answerNow s _ _ _ _)

theorem keysKept_takeHold (s : State) (k : Key) (named : Nat) : KeysKept s (s.takeHold k named) :=
  .ite ((keysKept_holdLink s _).trans (keysKept_answerNow _ _ _ _ _)) (keysKept_answerNow s _ _ _ _)

theorem keysKept_takeRelease (s : State) (k : Key) (named : Nat) : KeysKept s (s.takeRelease k named) :=
  .ite (.ite ((keysKept_modPort s _ _).trans (keysKept_answerNow _ _ _ _ _)) (keysKept_answerNow s _ _ _ _))
    (keysKept_answerNow s _ _ _ _)

theorem keysKept_completeFormat (s : State) : KeysKept s s.completeFormat := by
  have emptied : ∀ (t : State) f, KeysKept t (t.mapQueues f) := fun t f => .of_same (State.mapQueues_table t f)
  unfold State.completeFormat
  split
  · exact (KeysKept.trans (.of_same (by rfl)) (emptied _ _)).trans (keysKept_answerAll _ _ _)
  · exact .refl s

theorem takeMalformed_fits (s : State) (l : Link) (bytes : List Byte) (hs : s.tableFits) : (s.takeMalformed l bytes).tableFits := by
  unfold State.takeMalformed
  split
  · exact takeFrame_fits s l _ _ (fun p hp => (keysKept_pushFrame p _ _).fits hp) hs
  · exact takeFrame_fits s l _ _ (fun p hp => handOver_fits_of_kept _ _ (fun p => keysKept_answerNow p _ _ _ _) hp) hs
  · exact hs

theorem keysKept_wakeTimerExpires (s : State) : KeysKept s s.wakeTimerExpires :=
  .ite (.ifElse (keysKept_spindle s _) (keysKept_release _)) (.refl s)

end Sys2Proof.Machine

namespace Sys2Proof.Machine

/-! PROOFS. What a step settles: every Put whose response is due is answered, and every mark whose drain set is empty clears; so every
step keeps the Request Table's sizes, and leaves no Put and no mark behind (O10). -/

/-! ### Puts whose response is due (R52, R53, R173) -/

/-- The entry is of no Put whose response is due, or it is answered. -/
def ReqEntry.Served (e : ReqEntry) : Prop := ∀ p, e.info = .put p → p.due = true → e.answered = true

/-- An answer drops the entries of its request, or marks the one not answered yet, and leaves every other entry. -/
theorem answerEntry_served {s : State} {k : Key} (hn : (s.table.map (·.key)).Nodup) (x : Status) (r : Result) :
    ∀ e ∈ (s.answerEntry k x r).table, e ∈ s.table ∧ e.key ≠ k ∨ e.answered = true := by
  intro e he
  unfold State.answerEntry at he
  split at he
  · next hnone =>
    refine .inl ⟨he, fun hk => ?_⟩
    simpa [ReqEntry.has, hk] using List.find?_eq_none.mp hnone e he
  · next e' he' =>
    split at he
    · next ha =>
      by_cases hk : e.key = k
      · exact .inr (entry_unique hn he' he hk ▸ ha)
      · exact .inl ⟨he, hk⟩
    · split at he
      · obtain ⟨he, hk⟩ := List.mem_filter.mp he
        exact .inl ⟨he, by simpa [ReqEntry.has] using hk⟩
      · rw [State.pushFrame_table] at he
        obtain ⟨y, hy, rfl⟩ := List.mem_map.mp he
        by_cases hk : y.key = k
        · exact .inr (by simp [ReqEntry.has, hk])
        · exact .inl (by simp [ReqEntry.has, hk, hy])

/-- An answer answers no fewer requests than were. -/
theorem putsAnswered_answerEntry {s : State} (hn : (s.table.map (·.key)).Nodup) (hs : s.putsAnswered) (k : Key) (x : Status)
    (r : Result) : (s.answerEntry k x r).putsAnswered := fun e he p hi hd =>
  (answerEntry_served hn x r e he).elim (fun h => hs e h.1 p hi hd) id

/-- A Put's turn leaves the other entries, and its own answered where its response is due. -/
theorem answerPutEntry_served {s : State} (hn : (s.table.map (·.key)).Nodup) (x : ReqEntry) :
    ∀ e ∈ (s.answerPutEntry x).table, e ∈ s.table ∧ e ≠ x ∨ e.Served := by
  intro e he
  have served : ∀ e ∈ s.table, x.Served → e ∈ s.table ∧ e ≠ x ∨ e.Served := fun e he hx => by
    by_cases h : e = x
    · exact .inr (h ▸ hx)
    · exact .inl ⟨he, h⟩
  unfold State.answerPutEntry at he
  split at he
  · next p hi =>
    split at he
    · unfold State.answerPut at he
      dsimp only at he
      have acknowledged : (if !p.durable && !p.settling then s.acknowledge x.key else s).table = s.table := by
        split
        · simp [State.acknowledge]
        · rfl
      rcases answerEntry_served (acknowledged ▸ hn) _ _ e he with ⟨h, hk⟩ | ha
      · exact .inl ⟨acknowledged ▸ h, fun hx => hk (hx ▸ rfl)⟩
      · exact .inr fun _ _ _ => ha
    · next hdue =>
      refine served e he fun p' hi' hd => ?_
      rw [hi, EntryInfo.put.injEq] at hi'
      simpa [hi', hd] using hdue
  · next hno => exact served e he fun p hi => absurd hi (hno p)

/-- Once each of some entries has had its turn, the table holds served entries besides those still to come. -/
theorem answerPutEntries_served (l : List ReqEntry) {s : State} (hn : (s.table.map (·.key)).Nodup)
    (h : ∀ e ∈ s.table, e ∈ l ∨ e.Served) : (l.foldl State.answerPutEntry s).putsAnswered := by
  induction l generalizing s with
  | nil => exact fun e he => (h e he).elim (fun hm => absurd hm List.not_mem_nil) id
  | cons x l ih =>
    refine ih ((keysKept_answerPutEntry s x).keys.nodup hn) fun e he => ?_
    rcases answerPutEntry_served hn x e he with ⟨hs, hx⟩ | hserved
    · exact (h e hs).imp_left fun hm => (List.mem_cons.mp hm).resolve_left hx
    · exact .inr hserved

theorem answerPuts_putsAnswered {s : State} (hs : s.tableFits) : s.answerPuts.putsAnswered :=
  answerPutEntries_served s.table hs.distinct fun _ he => .inl he

/-! ### Marks whose drain sets are empty (R61) -/

/-- The marks whose drain sets are empty, cleared. -/
def State.unmarked (s : State) : State :=
  s.mapQueues fun q x => if s.markCleared q then { x with mark := false, waiting := [] } else x

theorem unmarked_queue (s : State) (q : Fin 16) : (s.unmarked.queue q).records = (s.queue q).records ∧
    (s.unmarked.queue q).mark = ((s.queue q).mark && s.draining q) := by
  rw [State.unmarked, State.mapQueues_queue]
  split
  · next h => simp_all [State.markCleared]
  · next h =>
    refine ⟨rfl, ?_⟩
    cases hm : (s.queue q).mark
    · rfl
    · simpa [State.markCleared, hm] using h

theorem unmarked_window (s : State) : s.unmarked.window = s.window := by
  rw [State.unmarked, State.mapQueues_window]

theorem unmarked_table (s : State) : s.unmarked.table = s.table := by
  rw [State.unmarked, State.mapQueues_table]

theorem unmarked_marksStand (s : State) : s.unmarked.marksStand := by
  intro q _ hm
  have orders : s.unmarked.ordersOf q = s.ordersOf q := by
    rw [State.ordersOf, State.ordersOf, writeOrders_congr (unmarked_window s)]
  have draining : s.unmarked.draining q = s.draining q := by
    rw [State.draining, (unmarked_queue s q).1, orders, State.draining]
  rw [(unmarked_queue s q).2, Bool.and_eq_true] at hm
  exact draining.trans hm.2

/-- The Flushes that wait on no mark any longer, answered. -/
def State.answerFlushes (s : State) (ks : List Key) : State :=
  ks.foldl (fun s k => if s.flushWaits k then s else s.answerEntry k .ok .none) s

theorem clearMarks_eq (s : State) : s.clearMarks =
    s.unmarked.answerFlushes ((hostQueues.filter s.markCleared).flatMap fun q => (s.queue q).waiting) := rfl

theorem stagingKept_answerFlushes (s : State) (ks : List Key) : StagingKept s (s.answerFlushes ks) :=
  .foldl (fun s k => .ite (.refl s) (stagingKept_answerEntry s k _ _)) ks s

theorem keysKept_unmarked (s : State) : KeysKept s s.unmarked := .of_same (unmarked_table s)

theorem keysKept_clearMarks (s : State) : KeysKept s s.clearMarks :=
  clearMarks_eq s ▸ (keysKept_unmarked s).trans (stagingKept_answerFlushes _ _).toKeysKept

theorem clearMarks_marksStand (s : State) : s.clearMarks.marksStand :=
  clearMarks_eq s ▸ (stagingKept_answerFlushes _ _).marksStand (unmarked_marksStand s)

/-! ### The parts of the settling -/

theorem keysKept_resolveLostrels (s : State) : KeysKept s s.resolveLostrels :=
  .foldl (fun s r => .of_same (by simp [State.resolveLostrel])) _ s

theorem keysKept_settleRecords (s : State) : KeysKept s s.settleRecords :=
  ((((stagingKept_advanceStartUp s).toKeysKept.trans (keysKept_resolveLostrels _)).trans (keysKept_releaseEmptied _)).trans
    (stagingKept_advanceEngine _).toKeysKept).trans
    ((stagingKept_deliver _).toKeysKept.trans (stagingKept_freeEnded _).toKeysKept)

/-- What follows the marks in a step's settling leaves records, marks and window. -/
theorem stagingKept_settleRest (s old : State) (ended : Bool) :
    StagingKept s ((((s.storeFills old).finishReset).settleWork old ended).storeStalls.beginSending) :=
  (((stagingKept_storeFills s old).trans (stagingKept_finishReset _)).trans (stagingKept_settleWork _ old _)).trans
    ((stagingKept_storeStalls _).trans (stagingKept_beginSending _))

theorem settle_eq (s old : State) : s.settle old =
    ((((s.settleRecords.answerPuts.clearMarks.storeFills old).finishReset).settleWork old
    (s.settleRecords.resetWaits == some 0)).storeStalls.beginSending) := rfl

theorem settle_marksStand (s old : State) : (s.settle old).marksStand :=
  settle_eq s old ▸ (stagingKept_settleRest _ old _).marksStand (clearMarks_marksStand _)

theorem release_table (s : State) : s.release.table = s.table := by
  unfold State.release State.startSpin
  split <;> rfl

theorem finishReset_table (s : State) : s.finishReset.table = s.table := by
  unfold State.finishReset State.answerReset
  dsimp only
  split
  · split
    · rfl
    · split
      · rfl
      · exact State.pushFrame_table _ _ _
  · rfl

theorem startRelocation_table (s old : State) (ended : Bool) : (s.startRelocation old ended).table = s.table := by
  unfold State.startRelocation
  dsimp only
  split
  · split
    · exact release_table _
    · rfl
  · rfl

theorem clearStalls_table (s old : State) : (s.clearStalls old).table = s.table := by
  unfold State.clearStalls
  split
  · exact State.clearPoolStalls_table s
  · rfl

theorem askRelease_table (s old : State) : (s.askRelease old).table = s.table := by
  unfold State.askRelease
  split
  · exact release_table s
  · rfl

theorem raiseSpace_table (s old : State) : (s.raiseSpace old).table = s.table := by
  have raised : ∀ (l : List (Fin 16)) (t : State), (l.foldl (fun s _ => s.raiseBoth .spaceLow s.freeBands) t).table = t.table := by
    intro l
    induction l with
    | nil => exact fun _ => rfl
    | cons q l ih => exact fun t => (ih _).trans (State.raiseBoth_table _ _ _)
  exact raised _ s

/-- What follows the marks in a step's settling leaves the Request Table. -/
theorem settleRest_table (s old : State) (ended : Bool) :
    (((((s.storeFills old).finishReset).settleWork old ended).storeStalls.beginSending)).table = s.table := by
  have sending : ∀ t : State, t.beginSending.table = t.table := fun _ => rfl
  have stalls : ∀ t : State, t.storeStalls.table = t.table := fun t => by rw [State.storeStalls, State.mapQueues_table]
  have timers : ∀ t : State, t.holdTimers.table = t.table := fun t => by rw [State.holdTimers, State.mapQueues_table]
  rw [sending, stalls, State.settleWork, raiseSpace_table, askRelease_table, clearStalls_table, timers, startRelocation_table,
    finishReset_table, State.storeFills_table]

theorem answerFlushes_putsAnswered (ks : List Key) {s : State} (hn : (s.table.map (·.key)).Nodup) (hs : s.putsAnswered) :
    (s.answerFlushes ks).putsAnswered := by
  induction ks generalizing s with
  | nil => exact hs
  | cons k ks ih =>
    rw [State.answerFlushes, List.foldl_cons]
    split
    · exact ih hn hs
    · exact ih ((keysKept_answerEntry s k _ _).keys.nodup hn) (putsAnswered_answerEntry hn hs k _ _)

theorem clearMarks_putsAnswered {s : State} (hn : (s.table.map (·.key)).Nodup) (hs : s.putsAnswered) : s.clearMarks.putsAnswered := by
  rw [clearMarks_eq]
  refine answerFlushes_putsAnswered _ ?_ fun e he => ?_
  · rwa [unmarked_table]
  · rw [unmarked_table] at he
    exact hs e he

theorem settle_putsAnswered {s : State} (hs : s.tableFits) (old : State) : (s.settle old).putsAnswered := by
  have records := (keysKept_settleRecords s).fits hs
  have marks := clearMarks_putsAnswered ((keysKept_answerPuts _).fits records).distinct (answerPuts_putsAnswered records)
  intro e he
  rw [settle_eq, settleRest_table] at he
  exact marks e he

theorem keysKept_settle (s old : State) : KeysKept s (s.settle old) :=
  settle_eq s old ▸ (((keysKept_settleRecords s).trans (keysKept_answerPuts _)).trans (keysKept_clearMarks _)).trans
    (stagingKept_settleRest _ old _).toKeysKept

/-! ### Commands and steps -/

/-- t is what settling a command's effect on s leaves, and the effect keeps the Request Table's sizes. -/
structure Settled (s t : State) : Prop where
  settled : ∃ X : State, t = X.settle s ∧ (s.tableFits → X.tableFits)

section
variable {s X t : State}

theorem settled_of_fits (h : s.tableFits → X.tableFits) (ht : finish s X = .next t) : Settled s t := by
  cases ht
  exact ⟨X, rfl, h⟩

theorem settled_of_kept (h : KeysKept s X) (ht : finish s X = .next t) : Settled s t := settled_of_fits h.fits ht

variable {l : Link} {tag : Tag} {r : Request} {owner : Key → State → State}

theorem settled_of_enters (h : ∀ k s, Enters k s (owner k s)) (ht : finish s (s.takeRequest l tag r owner) = .next t)
    (hr : (r.isQuery || r.isReset) = false) : Settled s t :=
  settled_of_fits (takeRequest_fits_of_enters s l tag r hr h) ht

/-- A request answered at its taking enters nothing. -/
theorem settled_of_answers (h : ∀ k s, KeysKept s (owner k s)) (ht : finish s (s.takeRequest l tag r owner) = .next t) : Settled s t :=
  settled_of_fits (takeRequest_fits_of_kept s l tag r h) ht

end

theorem exec_settled {c : Instr} (hc : c ≠ .level0Reset) {s t : State} (h : exec c s = .next t) : Settled s t := by
  cases c with
  | level0Reset => exact absurd rfl hc
  | put l tag lsa count durability => exact settled_of_enters (enters_takePut lsa count durability) h rfl
  | dataFrame l f =>
    exact settled_of_fits (takeFrame_fits s l true _ fun p hp => ((keysKept_takeData p l f).trans (keysKept_freeSlot _ l)).fits hp) h
  | get l tag lsa count =>
    exact settled_of_enters (fun k p => .ite (enters_takePatternGet lsa count k p) (enters_takeGet lsa count k p)) h rfl
  | trim l tag lsa count => exact settled_of_answers (keysKept_takeTrim lsa count) h
  | flush l tag queue => exact settled_of_enters (enters_takeFlush queue) h rfl
  | select l tag queue => exact settled_of_answers (keysKept_takeSelect queue) h
  | clean l tag band => exact settled_of_enters (enters_takeClean band) h rfl
  | setQueueDivision l tag depths => exact settled_of_answers (keysKept_takeDivision depths) h
  | setQueueThresholds l tag v => exact settled_of_answers (keysKept_takeThresholds v) h
  | setIntervals l tag v => exact settled_of_answers (keysKept_takeIntervals v) h
  | setSpaceMarks l tag v => exact settled_of_answers (keysKept_takeMarks v) h
  | setLinkMode l tag v => exact settled_of_answers (keysKept_takeLinkMode v) h
  | setErrorScope l tag v => exact settled_of_answers (keysKept_takeScope v) h
  | setNoticeEnables l tag v => exact settled_of_answers (keysKept_takeKinds v Port.enable) h
  | setOrderLimit l tag v => exact settled_of_answers (keysKept_takeOrderLimit v) h
  | setClearPendingNotices l tag v => exact settled_of_answers (keysKept_takeKinds v Port.clearPending) h
  | queryBandRecord l tag band => exact settled_of_answers (fun k p => keysKept_answerQuery p k _) h
  | queryQueueRecord l tag queue => exact settled_of_answers (fun k p => keysKept_countedQuery p k _) h
  | queryMapLookup l tag lsa => exact settled_of_answers (fun k p => keysKept_answerQuery p k _) h
  | queryCounts l tag => exact settled_of_answers (fun k p => keysKept_answerQuery p k _) h
  | queryMediaAndSpindleState l tag => exact settled_of_answers (fun k p => keysKept_countedQuery p k _) h
  | queryRelocationState l tag => exact settled_of_answers (fun k p => keysKept_answerQuery p k _) h
  | queryLinkStatesAndTableUse l tag => exact settled_of_answers (fun k p => keysKept_answerQuery p k _) h
  | queryProfileRecord l tag profile => exact settled_of_answers (fun k p => keysKept_answerQuery p k _) h
  | querySetting l tag item => exact settled_of_answers (fun k p => keysKept_answerQuery p k _) h
  | loadProfile l tag profile sectors tracks verify => exact settled_of_enters (enters_takeLoad profile sectors tracks verify) h rfl
  | format l tag logical bands ranges => exact settled_of_enters (enters_takeFormat logical bands ranges) h rfl
  | formatComplete => exact settled_of_kept (keysKept_completeFormat s) h
  | quiesce l tag target release interval => exact settled_of_enters (enters_takeQuiesce target release interval) h rfl
  | wake l tag => exact settled_of_enters enters_takeWake h rfl
  | reset l tag level => exact settled_of_answers (fun k p => keysKept_takeReset p k level) h
  | holdLinkHold l tag named => exact settled_of_answers (fun k p => keysKept_takeHold p k named) h
  | holdLinkRelease l tag named => exact settled_of_answers (fun k p => keysKept_takeRelease p k named) h
  | mediaRestart l tag => exact settled_of_enters enters_takeRestart h rfl
  | malformed l bytes => exact settled_of_fits (takeMalformed_fits s l bytes) h
  | idleReceived l => exact settled_of_kept (keysKept_unitArrives s l) h
  | creditReceived l => exact settled_of_kept (keysKept_creditArrives s l) h
  | frameReceived l bytes => exact settled_of_kept (keysKept_frameArrives s l _ _) h
  | frameSent l => exact settled_of_kept (keysKept_frameGone s l) h
  | noticeSent l => exact settled_of_kept (keysKept_modPort s l _) h
  | linkSilenceTimeout l => exact settled_of_kept (.ite (keysKept_linkFails s l _) (.refl s)) h
  | quietIntervalEnd l => exact settled_of_kept (.ite (keysKept_modPort s l _) (.refl s)) h
  | startUp => exact settled_of_kept (keysKept_beginStartUp s) h
  | sequencerReady => exact settled_of_kept (keysKept_sequencerReady s) h
  | sequencerReadyWithdrawn => exact settled_of_kept (keysKept_mediaFault s) h
  | writeTrackCompletion c => exact settled_of_kept (keysKept_takeCompletion s 1 c) h
  | readTrackCompletion c => exact settled_of_kept (keysKept_takeCompletion s 2 c) h
  | geometryCompletion c => exact settled_of_kept (keysKept_takeCompletion s 3 c) h
  | motionCompletion kind c => exact settled_of_kept (.ite (keysKept_takeCompletion s kind c) (keysKept_mediaFault s)) h
  | sectorDelivery sector data check => exact settled_of_kept (keysKept_takeSector s sector data check) h
  | deadlineExpiry => exact settled_of_kept (.ite (keysKept_mediaFault s) (.refl s)) h
  | recoveryWaitEnd => exact settled_of_kept (.ite (keysKept_enterDown s) (.refl s)) h
  | startupWaitEnd => exact settled_of_kept (.ite (keysKept_enterDown s) (.refl s)) h
  | escalationTimerExpiry => exact settled_of_kept (X := { s with escalation := false }) (.of_same (by rfl)) h
  | holdTimerExpiry q => exact settled_of_kept (X := s.modQueue q fun x => { x with timer := x.timer.expire }) (.of_same (by rfl)) h
  | wakeTimerExpiry => exact settled_of_kept (keysKept_wakeTimerExpires s) h
  | mediaGrant => exact settled_of_kept (keysKept_grantMedia s) h
  | victimSelection => exact settled_of_kept (keysKept_selectVictim s) h
  | relocationRecords => exact settled_of_kept (keysKept_makeRecords s) h

/-- A level 0 reset leaves an empty Request Table and no mark (R176). -/
theorem level0Reset_clean {s t : State} (h : exec .level0Reset s = .next t) :
    t.tableFits ∧ t.putsAnswered ∧ ∀ q, (t.queue q).mark = false := by
  cases h
  have empty : s.level0.table = [] := rfl
  have fits : s.level0.tableFits := by
    constructor <;> simp [empty]
  refine ⟨fits, fun e he => absurd he (by simp [empty]), fun q => ?_⟩
  exact congrArg Queue.mark (Vector.getElem_replicate (a := Queue.reset) q.isLt)

/-- A step settles what it does, or leaves no request and no mark, or does nothing. -/
theorem step_cases {s t : State} (h : step s = .next t) : t = s ∨ (t.tableFits ∧ t.putsAnswered ∧ ∀ q, (t.queue q).mark = false) ∨
    ∃ rest, Settled { s with pending := rest } t := by
  unfold step at h
  split at h
  · cases h
    exact .inl rfl
  · next c rest _ =>
    by_cases hc : c = .level0Reset
    · subst hc
      exact .inr (.inl (level0Reset_clean h))
    · exact .inr (.inr ⟨rest, exec_settled hc h⟩)

/-- Settles O10: what a step settles leaves no such Put and no such mark, and no request enters beyond the table's sizes. -/
theorem dueAnswersAreGiven : Obligations.DueAnswersAreGiven := by
  refine ⟨fun s t ⟨hfits, hputs⟩ h => ?puts, fun s t hmarks h => ?marks⟩
  case puts =>
    obtain rfl | ⟨hfits, hputs, _⟩ | ⟨_, X, rfl, hX⟩ := step_cases h
    · exact ⟨hfits, hputs⟩
    · exact ⟨hfits, hputs⟩
    · have fits := hX ⟨hfits.total, hfits.ofLink, hfits.distinct⟩
      exact ⟨(keysKept_settle X _).fits fits, settle_putsAnswered fits _⟩
  case marks =>
    obtain rfl | ⟨_, _, hmark⟩ | ⟨_, X, rfl, _⟩ := step_cases h
    · exact hmarks
    · exact fun q _ hm => absurd ((hmark q).symm.trans hm) Bool.false_ne_true
    · exact settle_marksStand X _

end Sys2Proof.Machine

namespace Sys2Proof.Machine

/-! PROOFS. The records and the pieces in flight that name a Put, through the settling that answers it (O20). -/

/-! ### What names a request -/

/-- No record and no piece in flight names the request as origin. -/
structure Unnamed (k : Key) (s : State) : Prop where
  records : ∀ q, ∀ r ∈ (s.queue q).records, r.origin ≠ some k
  pieces : ∀ c ∈ s.allPieces, c.origin ≠ some k

/-- t has the host queues' records and the pieces of one origin that s has. -/
structure OriginKept (o : Option Key) (s t : State) : Prop where
  records : ∀ q : Fin 16, q.val < 15 → ∀ r ∈ (s.queue q).records, r.origin = o → r ∈ (t.queue q).records
  pieces : ∀ c ∈ s.allPieces, c.origin = o → c ∈ t.allPieces

/-- t has the records and pieces without an origin that s has, and names the request nowhere where s does not. -/
structure StaysUnnamed (k : Key) (s t : State) : Prop extends OriginKept none s t where
  unnamed : Unnamed k s → Unnamed k t

/-- What in s names the request is acknowledged in t, and names it no longer (R52). -/
structure Acknowledges (k : Key) (s t : State) : Prop where
  unnamed : Unnamed k t
  records : ∀ q : Fin 16, q.val < 15 → ∀ r ∈ (s.queue q).records, r.origin = some k →
    { r with acknowledged := true, origin := none } ∈ (t.queue q).records
  pieces : ∀ c ∈ s.allPieces, c.origin = some k → { c with acknowledged := true, origin := none } ∈ t.allPieces

section
variable {k : Key} {o : Option Key} {s t u : State}

theorem OriginKept.refl (o : Option Key) (s : State) : OriginKept o s s := ⟨fun _ _ _ hr _ => hr, fun _ hc _ => hc⟩

theorem OriginKept.trans (h : OriginKept o s t) (g : OriginKept o t u) : OriginKept o s u where
  records := fun q hq r hr ho => g.records q hq r (h.records q hq r hr ho) ho
  pieces := fun c hc ho => g.pieces c (h.pieces c hc ho) ho

/-- The same records and pieces. -/
theorem OriginKept.of_same (hr : ∀ q : Fin 16, q.val < 15 → (t.queue q).records = (s.queue q).records)
    (hp : t.allPieces = s.allPieces) : OriginKept o s t where
  records := fun q hq _ h _ => hr q hq ▸ h
  pieces := fun _ h _ => hp ▸ h

theorem StagingKept.originKept (h : StagingKept s t) (o : Option Key) : OriginKept o s t :=
  .of_same (fun q _ => h.records q) h.allPieces

theorem StaysUnnamed.refl (k : Key) (s : State) : StaysUnnamed k s s := ⟨.refl none s, id⟩

theorem StaysUnnamed.trans (h : StaysUnnamed k s t) (g : StaysUnnamed k t u) : StaysUnnamed k s u :=
  ⟨h.toOriginKept.trans g.toOriginKept, g.unnamed ∘ h.unnamed⟩

theorem StaysUnnamed.of_same (hr : ∀ q, (t.queue q).records = (s.queue q).records) (hp : t.allPieces = s.allPieces) :
    StaysUnnamed k s t where
  toOriginKept := .of_same (fun q _ => hr q) hp
  unnamed := fun h => ⟨fun q r hq => h.records q r (hr q ▸ hq), fun c hc => h.pieces c (hp ▸ hc)⟩

theorem StagingKept.staysUnnamed (h : StagingKept s t) (k : Key) : StaysUnnamed k s t := .of_same h.records h.allPieces

theorem OriginKept.thenAcknowledges (h : OriginKept (some k) s t) (g : Acknowledges k t u) : Acknowledges k s u where
  unnamed := g.unnamed
  records := fun q hq r hr ho => g.records q hq r (h.records q hq r hr ho) ho
  pieces := fun c hc ho => g.pieces c (h.pieces c hc ho) ho

theorem Acknowledges.trans (h : Acknowledges k s t) (g : StaysUnnamed k t u) : Acknowledges k s u where
  unnamed := g.unnamed h.unnamed
  records := fun q hq r hr ho => g.records q hq _ (h.records q hq r hr ho) rfl
  pieces := fun c hc ho => g.pieces _ (h.pieces c hc ho) rfl

end

/-! ### The acknowledgement (R52) -/

theorem Fragment.acknowledge_other {k : Key} {r : Fragment} (h : r.origin ≠ some k) : r.acknowledge k = r := if_neg h

theorem Fragment.acknowledge_named {k : Key} {r : Fragment} (h : r.origin = some k) :
    r.acknowledge k = { r with acknowledged := true, origin := none } := if_pos h

/-- An acknowledged record names the request no longer, and none it did not name. -/
theorem Fragment.acknowledge_origin {k x : Key} {r : Fragment} (h : r.origin ≠ some x ∨ k = x) :
    (r.acknowledge k).origin ≠ some x := by
  unfold Fragment.acknowledge
  split
  · simp
  · next hk => exact h.elim id fun hx => hx ▸ hk

theorem Piece.acknowledge_other {k : Key} {c : Piece} (h : c.origin ≠ some k) : c.acknowledge k = c := if_neg h

theorem Piece.acknowledge_named {k : Key} {c : Piece} (h : c.origin = some k) :
    c.acknowledge k = { c with acknowledged := true, origin := none } := if_pos h

theorem Piece.acknowledge_origin {k x : Key} {c : Piece} (h : c.origin ≠ some x ∨ k = x) : (c.acknowledge k).origin ≠ some x := by
  unfold Piece.acknowledge
  split
  · simp
  · next hk => exact h.elim id fun hx => hx ▸ hk

section
variable (s : State) (k : Key)

theorem acknowledge_records (q : Fin 16) :
    ((s.acknowledge k).queue q).records = (s.queue q).records.map (Fragment.acknowledge k) := by
  rw [State.acknowledge, State.queue_congr (State.mapWrites_queues _ _), State.mapQueues_queue]

theorem acknowledge_allPieces : (s.acknowledge k).allPieces = s.allPieces.map (Piece.acknowledge k) := by
  have orders : ∀ f, (s.mapQueues f).writeOrders = s.writeOrders := fun f => writeOrders_congr (State.mapQueues_window s f)
  rw [State.allPieces, State.acknowledge, writeOrders_mapWrites, orders, State.allPieces, List.flatMap_map, List.map_flatMap]

theorem acknowledge_acknowledges : Acknowledges k s (s.acknowledge k) where
  unnamed := by
    constructor
    · intro q r hr
      rw [acknowledge_records] at hr
      obtain ⟨_, _, rfl⟩ := List.mem_map.mp hr
      exact Fragment.acknowledge_origin (.inr rfl)
    · intro c hc
      rw [acknowledge_allPieces] at hc
      obtain ⟨_, _, rfl⟩ := List.mem_map.mp hc
      exact Piece.acknowledge_origin (.inr rfl)
  records := fun q _ r hr ho => by
    rw [acknowledge_records, ← Fragment.acknowledge_named ho]
    exact List.mem_map_of_mem hr
  pieces := fun c hc ho => by
    rw [acknowledge_allPieces, ← Piece.acknowledge_named ho]
    exact List.mem_map_of_mem hc

/-- The acknowledgement of a request leaves the records and pieces of another origin. -/
theorem originKept_acknowledge {o : Option Key} (h : o ≠ some k) : OriginKept o s (s.acknowledge k) where
  records := fun q _ r hr ho => by
    rw [acknowledge_records, ← Fragment.acknowledge_other (k := k) (r := r) (ho ▸ h)]
    exact List.mem_map_of_mem hr
  pieces := fun c hc ho => by
    rw [acknowledge_allPieces, ← Piece.acknowledge_other (k := k) (c := c) (ho ▸ h)]
    exact List.mem_map_of_mem hc

theorem staysUnnamed_acknowledge (x : Key) : StaysUnnamed x s (s.acknowledge k) where
  toOriginKept := originKept_acknowledge s k (by simp)
  unnamed := fun h => by
    constructor
    · intro q r hr
      rw [acknowledge_records] at hr
      obtain ⟨v, hv, rfl⟩ := List.mem_map.mp hr
      exact Fragment.acknowledge_origin (.inl (h.records q v hv))
    · intro c hc
      rw [acknowledge_allPieces] at hc
      obtain ⟨v, hv, rfl⟩ := List.mem_map.mp hc
      exact Piece.acknowledge_origin (.inl (h.pieces v hv))

end

/-! ### The answers of Puts -/

/-- A Put's turn may acknowledge its records, and may answer it. -/
theorem answerPutEntry_cases (s : State) (e : ReqEntry) : s.answerPutEntry e = s ∨
    ∃ t x r, (t = s ∨ t = s.acknowledge e.key) ∧ s.answerPutEntry e = t.answerEntry e.key x r := by
  unfold State.answerPutEntry
  split
  · next p _ =>
    split
    · refine .inr ⟨_, p.outcome.status, p.result, ?_, rfl⟩
      split
      · exact .inr rfl
      · exact .inl rfl
    · exact .inl rfl
  · exact .inl rfl

theorem originKept_answerPutEntry {o : Option Key} {e : ReqEntry} (h : o ≠ some e.key) (s : State) :
    OriginKept o s (s.answerPutEntry e) := by
  obtain hs | ⟨t, x, r, ht, hs⟩ := answerPutEntry_cases s e
  · rw [hs]
    exact .refl o s
  · have answered := (stagingKept_answerEntry t e.key x r).originKept o
    rcases ht with rfl | rfl
    · exact hs ▸ answered
    · exact hs ▸ (originKept_acknowledge s e.key h).trans answered

theorem staysUnnamed_answerPutEntry (k : Key) (s : State) (e : ReqEntry) : StaysUnnamed k s (s.answerPutEntry e) := by
  obtain hs | ⟨t, x, r, ht, hs⟩ := answerPutEntry_cases s e
  · rw [hs]
    exact .refl k s
  · have answered := (stagingKept_answerEntry t e.key x r).staysUnnamed k
    rcases ht with rfl | rfl
    · exact hs ▸ answered
    · exact hs ▸ (staysUnnamed_acknowledge s e.key k).trans answered

theorem originKept_answerPutEntries {o : Option Key} {l : List ReqEntry} (h : ∀ e ∈ l, o ≠ some e.key) (s : State) :
    OriginKept o s (l.foldl State.answerPutEntry s) := by
  induction l generalizing s with
  | nil => exact .refl o s
  | cons e l ih =>
    exact (originKept_answerPutEntry (h e List.mem_cons_self) s).trans (ih (fun x hx => h x (List.mem_cons_of_mem e hx)) _)

theorem staysUnnamed_answerPutEntries (k : Key) (l : List ReqEntry) (s : State) :
    StaysUnnamed k s (l.foldl State.answerPutEntry s) := by
  induction l generalizing s with
  | nil => exact .refl k s
  | cons e l ih => exact (staysUnnamed_answerPutEntry k s e).trans (ih _)

/-- The turn of a non-durable Put whose response is due (R52). -/
theorem answerPutEntry_acknowledges (s : State) {e : ReqEntry} {p : PutInfo} (hi : e.info = .put p) (ha : e.answered = false)
    (hdue : p.due = true) (hd : p.durable = false) (hs : p.settling = false) : Acknowledges e.key s (s.answerPutEntry e) := by
  have acknowledged : s.answerPutEntry e = (s.acknowledge e.key).answerEntry e.key p.outcome.status p.result := by
    simp [State.answerPutEntry, State.answerPut, hi, ha, hdue, hd, hs]
  rw [acknowledged]
  exact (acknowledge_acknowledges s e.key).trans ((stagingKept_answerEntry _ _ _ _).staysUnnamed _)

/-- The other Puts' turns leave what names the Put until its own, and what it has acknowledged after. -/
theorem answerPuts_acknowledges {s : State} {e : ReqEntry} {p : PutInfo} (hn : (s.table.map (·.key)).Nodup) (he : e ∈ s.table)
    (hi : e.info = .put p) (ha : e.answered = false) (hdue : p.due = true) (hd : p.durable = false) (hs : p.settling = false) :
    Acknowledges e.key s s.answerPuts := by
  obtain ⟨before, after, hsplit⟩ := List.append_of_mem he
  have others : ∀ x ∈ before, some e.key ≠ some x.key := by
    intro x hx hk
    rw [hsplit, List.map_append, List.map_cons] at hn
    exact (List.nodup_append.mp hn).2.2 _ (List.mem_map_of_mem hx) _ List.mem_cons_self (Option.some.inj hk).symm
  rw [State.answerPuts, hsplit, List.foldl_append, List.foldl_cons]
  exact (originKept_answerPutEntries others s).thenAcknowledges
    ((answerPutEntry_acknowledges _ hi ha hdue hd hs).trans (staysUnnamed_answerPutEntries _ after _))

/-! ### The rest of the settling -/

/-- The records of a host queue stand behind no LOSTREL record (R33). -/
theorem originKept_resolveLostrel (o : Option Key) (s : State) (r : Fragment) : OriginKept o s (s.resolveLostrel r) := by
  refine .of_same (fun q hq => ?_) rfl
  have host : (15 : Fin 16) ≠ q := fun h => absurd hq (by simp [← h])
  rw [State.resolveLostrel, clearPoolStalls_records, State.modQueue_queue, if_neg host]
  rfl

theorem originKept_resolveLostrels (o : Option Key) (s : State) : OriginKept o s s.resolveLostrels := by
  have resolved : ∀ (l : List Fragment) (t : State), OriginKept o t (l.foldl State.resolveLostrel t) := by
    intro l
    induction l with
    | nil => exact .refl o
    | cons r l ih => exact fun t => (originKept_resolveLostrel o t r).trans (ih _)
  exact resolved _ s

theorem originKept_settleRecords (o : Option Key) (s : State) : OriginKept o s s.settleRecords :=
  ((stagingKept_advanceStartUp s).originKept o).trans <| (originKept_resolveLostrels o _).trans <|
    ((((stagingKept_releaseEmptied _).trans (stagingKept_advanceEngine _)).trans (stagingKept_deliver _)).trans
      (stagingKept_freeEnded _)).originKept o

theorem staysUnnamed_clearMarks (k : Key) (s : State) : StaysUnnamed k s s.clearMarks := by
  have unmarked : StaysUnnamed k s s.unmarked :=
    .of_same (fun q => (unmarked_queue s q).1) (allPieces_congr (unmarked_window s))
  exact clearMarks_eq s ▸ unmarked.trans ((stagingKept_answerFlushes _ _).staysUnnamed k)

/-- A non-durable Put answered as a step is settled: what names it is acknowledged then, and names it no longer. -/
theorem settle_acknowledges {s : State} {e : ReqEntry} {p : PutInfo} (hn : (s.table.map (·.key)).Nodup) (hu : Unclaimed e.key s)
    (he : s.entry e.key = some e) (hi : e.info = .put p) (ha : e.answered = false) (hdue : p.due = true)
    (hd : p.durable = false) (hs : p.settling = false) (old : State) : Acknowledges e.key s (s.settle old) := by
  have spared := spares_settleRecords hu hn he (by simp [hi, EntryInfo.isPattern])
  have answered := answerPuts_acknowledges (spared.nodup hn) (entry_mem (spared.entry.trans he)) hi ha hdue hd hs
  rw [settle_eq]
  exact (originKept_settleRecords _ s).thenAcknowledges ((answered.trans (staysUnnamed_clearMarks _ _)).trans
    ((stagingKept_settleRest _ old _).staysUnnamed _))

/-! ### The data frame that fills a Put (R51, R52) -/

/-- A sector received changes what a record holds of its data, and no more. -/
theorem Fragment.receive_only (k : Key) (x : Nat) (data : Sector) (r : Fragment) :
    ∃ n d, r.receive k x data = { r with filling := n, data := d } := by
  unfold Fragment.receive
  split
  · exact ⟨_, _, rfl⟩
  · exact ⟨r.filling, r.data, rfl⟩

/-- A data frame accepted, and its receive slot freed. -/
def State.frameAccepted (s : State) (l : Link) (k : Key) (put : PutInfo) (data : Sector) : State :=
  (s.acceptData k put data).freeSlot l

/-- An entry whose Put has one data frame more. -/
def ReqEntry.received (e : ReqEntry) : ReqEntry := { e with info := e.info.modPut fun p => { p with next := p.next + 1 } }

section
variable (s : State) (l : Link) (k : Key) (put : PutInfo) (data : Sector)

theorem frameAccepted_only : ∃ x a b, s.frameAccepted l k put data =
    { s.modEntry k ReqEntry.received with queues := x, portA := a, portB := b } := by
  cases l <;> exact ⟨_, _, _, rfl⟩

/-- A record is there behind a data frame accepted, but for its data. -/
theorem frameAccepted_record {q : Fin 16} {r : Fragment} (h : r ∈ (s.queue q).records) :
    ∃ n d, { r with filling := n, data := d } ∈ ((s.frameAccepted l k put data).queue q).records := by
  have queues : ∀ f, (s.modPut k f).queue q = s.queue q := fun _ => rfl
  rw [State.frameAccepted, State.queue_congr (State.freeSlot_queues _ _), State.acceptData, State.modQueue_queue, queues]
  split
  · obtain ⟨n, d, only⟩ := Fragment.receive_only k (put.lsa + put.next) data r
    exact ⟨n, d, only ▸ List.mem_map_of_mem h⟩
  · exact ⟨r.filling, r.data, h⟩

theorem frameAccepted_entry : (s.frameAccepted l k put data).entry k = (s.entry k).map ReqEntry.received := by
  obtain ⟨x, a, b, only⟩ := frameAccepted_only s l k put data
  have table : (s.frameAccepted l k put data).entry k = (s.modEntry k ReqEntry.received).entry k := by
    rw [only]
    rfl
  rw [table, entry_modEntry (f := ReqEntry.received) (fun _ => rfl)]
  simp only [if_true]

theorem frameAccepted_keys : (s.frameAccepted l k put data).table.map (·.key) = s.table.map (·.key) := by
  obtain ⟨x, a, b, only⟩ := frameAccepted_only s l k put data
  rw [only]
  exact keys_modEntry (f := ReqEntry.received) (fun _ => rfl) s k

theorem frameAccepted_allPieces : (s.frameAccepted l k put data).allPieces = s.allPieces := by
  obtain ⟨x, a, b, only⟩ := frameAccepted_only s l k put data
  rw [only]
  rfl

theorem frameAccepted_unclaimed {x : Key} (h : Unclaimed x s) : Unclaimed x (s.frameAccepted l k put data) := by
  obtain ⟨y, a, b, only⟩ := frameAccepted_only s l k put data
  rw [only]
  exact h

end

theorem due_of_filled {put : PutInfo} (hd : put.durable = false) (hs : put.settling = false) (h : put.next = put.count) :
    put.due = true := by
  simp [PutInfo.due, PutInfo.filled, hd, hs, h]

/-- A data frame a filling Put expects. -/
theorem exec_dataFrame_accepts {s p : State} {l : Link} {f : DataFrame} {put : PutInfo} (h : Taken s l (.data f) p)
    (hp : p.putInfo (key l f.tag) = some put) (he : put.Expects f) :
    exec (.dataFrame l f) s = .next ((p.frameAccepted l (key l f.tag) put f.data).settle s) := by
  rw [State.frameAccepted, ← takeData_accepts hp he]
  exact congrArg (finish s) (takeFrame_taken h _)

/-- Settles O20: the frame fills the Put, whose response is due as the step is settled. -/
theorem filledNonDurablePutIsAnswered : Obligations.FilledNonDurablePutIsAnswered := by
  intro s l f p e put htaken he hi ha hd hdurable hsettling houtcome hfull hoffset hform hfits hclean hslots
  have exec := exec_dataFrame_accepts htaken (putInfo_of_entry he hi ha) ⟨by omega, hsettling, hoffset, hform⟩
  have hkey : e.key = key l f.tag := entry_key he
  rw [← hkey] at he hclean hslots exec ⊢
  have nodup := frameAccepted_keys p l e.key put f.data ▸ hfits.distinct
  have unclaimed := frameAccepted_unclaimed p l e.key put f.data ⟨hclean, hslots⟩
  have entry : (p.frameAccepted l e.key put f.data).entry e.received.key = some e.received := by
    rw [show e.received.key = e.key from rfl, frameAccepted_entry, he, Option.map_some]
  have info : e.received.info = .put { put with next := put.next + 1 } := by rw [ReqEntry.received, hi, EntryInfo.modPut]
  have due : PutInfo.due { put with next := put.next + 1 } = true := due_of_filled hdurable hsettling hfull
  have answered := settle_answers (e := e.received) nodup unclaimed entry info ha hd due s
  have acknowledged := settle_acknowledges (e := e.received) nodup unclaimed entry info ha due hdurable hsettling s
  refine ⟨_, exec, ?response, acknowledged.unnamed.records, acknowledged.unnamed.pieces, fun q hq r hr ho => ?records,
    fun c hc ho => ?pieces⟩
  case response => simpa only [ReqEntry.putAnswer, ReqEntry.received, hkey, houtcome, Outcome.status, PutInfo.result] using answered
  case records =>
    obtain ⟨n, d, hv⟩ := frameAccepted_record p l e.key put f.data hr
    exact ⟨_, acknowledged.records q hq _ hv ho, rfl, rfl, rfl, rfl, rfl, rfl⟩
  case pieces =>
    rw [← frameAccepted_allPieces p l e.key put f.data] at hc
    exact acknowledged.pieces c hc ho

end Sys2Proof.Machine

namespace Sys2Proof.Machine

/-! PROOFS. What a step settles: the stall reasons as they stand, and no CLEANING band that R17 lets leave; so every step keeps both
(O8). -/

/-! ### The stall reasons stored (R70) -/

/-- A stall reason rests on no stall reason. -/
theorem storeStalls_stallOf (s : State) (q : Fin 16) : s.storeStalls.stallOf q = s.stallOf q := by
  refine stallOf_alike (s := s) (x := s.storeStalls.queues) ?_
  change Alike (s.queue q) (s.storeStalls.queue q)
  rw [State.storeStalls, State.mapQueues_queue]
  exact ⟨rfl, rfl, rfl, rfl, rfl⟩

theorem storeStalls_stallsStand (s : State) : s.storeStalls.stallsStand := fun q => by
  rw [storeStalls_stallOf, State.storeStalls, State.mapQueues_queue]

theorem settle_stallsStand (s old : State) : (s.settle old).stallsStand := storeStalls_stallsStand _

/-- A level 0 reset leaves the path OFFLINE and every queue stalled for MEDIA (R67, R70, R100). -/
theorem level0_stallsStand (s : State) : s.level0.stallsStand := fun q => by
  simp [State.stallOf, State.level0, State.queue, Queue.reset]

/-! ### What leaves the Band Table -/

theorem foldl_bands {α : Type} {f : State → α → State} (h : ∀ s a, (f s a).bands = s.bands) (l : List α) (s : State) :
    (l.foldl f s).bands = s.bands := by
  induction l generalizing s with
  | nil => rfl
  | cons a l ih => exact (ih (f s a)).trans (h s a)

theorem answerEntry_bands (s : State) (k : Key) (x : Status) (r : Result) : (s.answerEntry k x r).bands = s.bands := by
  obtain ⟨_, _, _, only⟩ := answerEntry_only s k x r
  rw [only]

theorem endRun_bands (s : State) (x : Status) : (s.endRun x).bands = s.bands := by
  unfold State.endRun
  dsimp only
  split
  · rfl
  · exact answerEntry_bands _ _ _ _

theorem continueRun_bands (s : State) : s.continueRun.bands = s.bands := by
  unfold State.continueRun
  split
  · rfl
  · exact endRun_bands s .ok

theorem victimReleased_bands (s : State) : s.victimReleased.bands = s.bands := by
  unfold State.victimReleased
  dsimp only
  split
  · exact endRun_bands _ .ok
  · exact continueRun_bands _

theorem searchTrack_bands (s : State) : s.searchTrack.bands = s.bands := by
  unfold State.searchTrack
  split
  · rfl
  · split <;> rfl

theorem testGates_bands (s : State) : s.testGates.bands = s.bands := by
  unfold State.testGates
  split
  · split <;> rfl
  · rfl

theorem advanceEngine_bands (s : State) : s.advanceEngine.bands = s.bands := by
  unfold State.advanceEngine
  split
  · split
    · split
      · exact (testGates_bands _).trans (searchTrack_bands (s.setHand none))
      · exact testGates_bands s
    · exact (testGates_bands _).trans (searchTrack_bands s)
  · rfl

theorem deliverSlot_bands (s : State) (i : Fin 16) : (s.deliverSlot i).bands = s.bands := by
  unfold State.deliverSlot
  dsimp only
  split
  · split
    · rfl
    · split
      · rw [State.modSlot_bands, answerEntry_bands, State.modPort_bands]
      · rw [State.modSlot_bands, State.modPort_bands]
  · rfl

theorem deliverPattern_bands (s : State) (e : ReqEntry) : (s.deliverPattern e).bands = s.bands := by
  unfold State.deliverPattern
  dsimp only
  split
  · split
    · rfl
    · split
      · rw [answerEntry_bands, State.pushFrame_bands, State.modEntry_bands]
      · rw [State.pushFrame_bands, State.modEntry_bands]
  · rfl

theorem deliver_bands (s : State) : s.deliver.bands = s.bands :=
  (foldl_bands deliverPattern_bands _ _).trans (foldl_bands deliverSlot_bands _ s)

theorem answerPut_bands (s : State) (k : Key) (p : PutInfo) : (s.answerPut k p).bands = s.bands := by
  rw [State.answerPut, answerEntry_bands]
  split
  · rw [State.acknowledge, State.mapWrites_bands, State.mapQueues_bands]
  · rfl

theorem answerPutEntry_bands (s : State) (e : ReqEntry) : (s.answerPutEntry e).bands = s.bands := by
  unfold State.answerPutEntry
  split
  · split
    · exact answerPut_bands s _ _
    · rfl
  · rfl

theorem answerPuts_bands (s : State) : s.answerPuts.bands = s.bands := foldl_bands answerPutEntry_bands _ s

theorem clearMarks_bands (s : State) : s.clearMarks.bands = s.bands := by
  have answered : ∀ (t : State) (k : Key), (if t.flushWaits k then t else t.answerEntry k .ok .none).bands = t.bands := by
    intro t k
    split
    · rfl
    · exact answerEntry_bands t k _ _
  exact (foldl_bands answered _ _).trans (State.mapQueues_bands s _)

theorem finishReset_bands (s : State) : s.finishReset.bands = s.bands := by
  unfold State.finishReset State.answerReset
  dsimp only
  split
  · split
    · rfl
    · split
      · rfl
      · exact State.pushFrame_bands _ _ _
  · rfl

theorem release_bands (s : State) : s.release.bands = s.bands := by
  unfold State.release State.startSpin
  split <;> rfl

theorem startRelocation_bands (s old : State) (ended : Bool) : (s.startRelocation old ended).bands = s.bands := by
  unfold State.startRelocation
  dsimp only
  split
  · split
    · exact release_bands _
    · rfl
  · rfl

theorem clearStalls_bands (s old : State) : (s.clearStalls old).bands = s.bands := by
  unfold State.clearStalls
  split
  · exact State.clearPoolStalls_bands s
  · rfl

theorem askRelease_bands (s old : State) : (s.askRelease old).bands = s.bands := by
  unfold State.askRelease
  split
  · exact release_bands s
  · rfl

theorem raiseSpace_bands (s old : State) : (s.raiseSpace old).bands = s.bands :=
  foldl_bands (fun t _ => State.raiseBoth_bands t .spaceLow t.freeBands) _ s

theorem settleRequests_bands (s old : State) : (s.settleRequests old).bands = s.bands := by
  rw [State.settleRequests, finishReset_bands, State.storeFills_bands, clearMarks_bands, answerPuts_bands]

theorem settleWork_bands (s old : State) (ended : Bool) : (s.settleWork old ended).bands = s.bands := by
  rw [State.settleWork, raiseSpace_bands, askRelease_bands, clearStalls_bands, State.holdTimers, State.mapQueues_bands,
    startRelocation_bands]

/-- Nothing of a step's settling changes the Band Table behind the release of the emptied bands. -/
theorem settle_bands (s old : State) :
    (s.settle old).bands = s.advanceStartUp.resolveLostrels.releaseEmptied.bands := by
  have stored : ∀ t : State, t.storeStalls.bands = t.bands := fun t => State.mapQueues_bands t _
  have sending : ∀ t : State, t.beginSending.bands = t.bands := fun _ => rfl
  have ended : ∀ t : State, t.freeEnded.bands = t.bands := fun t => State.mapSlots_bands t _
  rw [State.settle, sending, stored, settleWork_bands, settleRequests_bands, State.settleRecords, ended, deliver_bands,
    advanceEngine_bands]

/-! ### Emptied bands (R17) -/

theorem released_emptied (b : Band) : b.released.emptied = false := by
  unfold Band.released Band.emptied
  split <;> rfl

theorem releaseBand_bands (s : State) (b : Nat) : (s.releaseBand b).bands = s.bands.modify b Band.released := by
  unfold State.releaseBand
  dsimp only
  split
  · exact victimReleased_bands _
  · rfl

/-- A band found emptied behind the release of some bands was so before, and is none of them. -/
theorem emptied_of_releaseBands {l : List (Band × Nat)} {s : State} {j : Nat} {c : Band}
    (hc : (l.foldl (fun s x => s.releaseBand x.2) s).bands[j]? = some c) (he : c.emptied = true) :
    s.bands[j]? = some c ∧ j ∉ l.map (·.2) := by
  induction l generalizing s with
  | nil => exact ⟨hc, List.not_mem_nil⟩
  | cons x l ih =>
    obtain ⟨hj, hl⟩ := ih hc
    rw [releaseBand_bands, List.getElem?_modify] at hj
    by_cases hx : x.2 = j
    · obtain ⟨b, _, rfl⟩ := Option.map_eq_some_iff.mp hj
      simp [hx, released_emptied] at he
    · refine ⟨by simpa [hx] using hj, ?_⟩
      exact List.not_mem_cons_of_ne_of_not_mem (Ne.symm hx) hl

theorem releaseEmptied_noneEmptied (s : State) : s.releaseEmptied.noneEmptied := by
  intro c hc
  by_contra he
  rw [Bool.not_eq_false] at he
  obtain ⟨j, hj⟩ := List.mem_iff_getElem?.mp hc
  obtain ⟨hs, hn⟩ := emptied_of_releaseBands hj he
  refine hn (List.mem_map.mpr ⟨(c, j), ?_, rfl⟩)
  exact List.mem_filter.mpr ⟨List.mem_zipIdx_iff_getElem?.mpr hs, he⟩

theorem settle_noneEmptied (s old : State) : (s.settle old).noneEmptied := by
  rw [State.noneEmptied, settle_bands]
  exact releaseEmptied_noneEmptied _

/-! ### Steps -/

/-- What every settling leaves, and a level 0 reset keeps, every step keeps. -/
theorem keptByStep_of_settle {inv : State → Prop} (hreset : ∀ s rest, inv s → inv (State.level0 { s with pending := rest }))
    (hsettle : ∀ X old : State, inv (X.settle old)) : KeptByStep inv := by
  intro s t hs h
  unfold step at h
  split at h
  · cases h
    exact hs
  · next c rest _ =>
    by_cases hc : c = .level0Reset
    · subst hc
      cases h
      exact hreset s rest hs
    · obtain ⟨X, rfl, _⟩ := exec_settled hc h
      exact hsettle X _

/-- Settles O8: the settling of a step ends with the stall reasons stored, and leaves the Band Table as it is once the emptied bands
have left CLEANING; a level 0 reset stalls every queue for MEDIA and keeps the Band Table. -/
theorem stallReasonsAndEmptiedBands : Obligations.StallReasonsAndEmptiedBands :=
  ⟨keptByStep_of_settle (fun _ _ _ => level0_stallsStand _) settle_stallsStand,
    keptByStep_of_settle (fun _ _ hs => hs) settle_noneEmptied⟩

end Sys2Proof.Machine

namespace Sys2Proof.Machine

/-! PROOFS. The walk that builds a track (O58): the records it passes, the pieces it makes of them, and how it ends. -/

/-! ### Records passed by a walk -/

/-- The total length of records. -/
def sectorsOf (rs : List Fragment) : Nat := (rs.map (·.length)).sum

/-- Of records passed by a walk, those it takes (R76). -/
def takenOf (rs : List Fragment) : List Fragment := rs.filter fun r => r.kind != .lostrel

/-- Of records passed by a walk, the LOSTREL ones, which stay (R79). -/
def keptOf (rs : List Fragment) : List Fragment := rs.filter fun r => r.kind == .lostrel

/-- Records taken as pieces one behind another, from an offset on (R77). -/
def piecesFrom (offset : Nat) : List Fragment → List Piece
  | [] => []
  | r :: rs => r.piece offset :: piecesFrom (offset + r.length) rs

theorem sectorsOf_append (rs rs' : List Fragment) : sectorsOf (rs ++ rs') = sectorsOf rs + sectorsOf rs' := by
  simp [sectorsOf]

theorem sectorsOf_cons (r : Fragment) (rs : List Fragment) : sectorsOf (r :: rs) = r.length + sectorsOf rs := by
  simp [sectorsOf]

theorem piecesFrom_length (offset : Nat) (rs : List Fragment) : (piecesFrom offset rs).length = rs.length := by
  induction rs generalizing offset with
  | nil => rfl
  | cons r rs ih => simp [piecesFrom, ih]

theorem piecesFrom_lengths (offset : Nat) (rs : List Fragment) :
    (piecesFrom offset rs).map (·.length) = rs.map (·.length) := by
  induction rs generalizing offset with
  | nil => rfl
  | cons r rs ih => simp [piecesFrom, ih, Fragment.piece]

/-- Each piece stands behind those of the records ahead of it. -/
theorem piecesFrom_eq_mapIdx (offset : Nat) (rs : List Fragment) :
    piecesFrom offset rs = rs.mapIdx fun i r => r.piece (offset + sectorsOf (rs.take i)) := by
  induction rs generalizing offset with
  | nil => rfl
  | cons r rs ih => simp [piecesFrom, ih, List.mapIdx_cons, sectorsOf, Nat.add_assoc]

theorem piecesFrom_zero (rs : List Fragment) :
    piecesFrom 0 rs = rs.mapIdx fun i r => r.piece (sectorsOf (rs.take i)) := by
  simp only [piecesFrom_eq_mapIdx, Nat.zero_add]

/-- The pieces of records taken ahead and of those taken behind them. -/
theorem piecesFrom_append (offset : Nat) (rs rs' : List Fragment) :
    piecesFrom offset (rs ++ rs') = piecesFrom offset rs ++ piecesFrom (offset + sectorsOf rs) rs' := by
  induction rs generalizing offset with
  | nil => rfl
  | cons r rs ih => simp [piecesFrom, ih, sectorsOf_cons, Nat.add_assoc]

/-- The pieces stand without a gap between them. -/
theorem piecesFrom_offset {rs : List Fragment} {offset i : Nat} {p : Piece} (h : (piecesFrom offset rs)[i]? = some p) :
    p.offset = offset + (((piecesFrom offset rs).take i).map (·.length)).sum := by
  rw [List.map_take, piecesFrom_lengths, ← List.map_take]
  rw [piecesFrom_eq_mapIdx, List.getElem?_mapIdx] at h
  obtain ⟨r, _, rfl⟩ := Option.map_eq_some_iff.mp h
  rfl

section
variable {r : Fragment} {rs : List Fragment}

theorem takenOf_all (h : ∀ r ∈ rs, r.kind ≠ .lostrel) : takenOf rs = rs := by
  simpa [takenOf, List.filter_eq_self] using h

theorem keptOf_none (h : ∀ r ∈ rs, r.kind ≠ .lostrel) : keptOf rs = [] := by
  simpa [keptOf, List.filter_eq_nil_iff] using h

theorem takenOf_cons_lostrel (h : r.kind = .lostrel) : takenOf (r :: rs) = takenOf rs := by simp [takenOf, h]

theorem takenOf_cons (h : r.kind ≠ .lostrel) : takenOf (r :: rs) = r :: takenOf rs := by simp [takenOf, h]

theorem keptOf_cons_lostrel (h : r.kind = .lostrel) : keptOf (r :: rs) = r :: keptOf rs := by simp [keptOf, h]

theorem keptOf_cons (h : r.kind ≠ .lostrel) : keptOf (r :: rs) = keptOf rs := by simp [keptOf, h]

end

/-! ### A record split (R44, R76) -/

/-- The first sectors of a record, which the split takes. -/
def Fragment.front (r : Fragment) (n : Nat) : Fragment := { r with length := n, data := r.data.take n }

/-- The record of the rest, which stands in its place. -/
def Fragment.back (r : Fragment) (n : Nat) : Fragment :=
  { r with
    lsa := r.lsa + n, length := r.length - n, data := (r.data.drop n).take (r.length - n)
    source := r.source.map fun d => ⟨d.band, d.index + n⟩ }

theorem part_front {r : Fragment} (h : r.filling = 0) (n : Nat) : r.part 0 n = r.front n := by
  cases hs : r.source <;> simp [Fragment.part, Fragment.front, h, hs, Location.plus]

theorem part_back {r : Fragment} (h : r.filling = 0) (n : Nat) : r.part n (r.length - n) = r.back n := by
  simp [Fragment.part, Fragment.back, h, Location.plus]

/-! ### How a walk ends (R76) -/

section
variable (canSplit : Bool) (space slots offset : Nat) (got kept rest : List Fragment) (t : Build)

/-- The walk that took the records got leaves the rest for a reason of R76. -/
def WalkStops : Prop := ∀ r, rest.head? = some r →
  sectorsOf got = space ∨ got.length = slots ∨
    (r.kind ≠ .lostrel ∧ (r.filling ≠ 0 ∨ (space < sectorsOf got + r.length ∧ canSplit = false)))

/-- The walk ended with whole records taken. -/
structure WalkEnds : Prop where
  split : t.split = none
  pieces : t.pieces = piecesFrom offset got
  left : t.left = kept ++ rest
  stops : WalkStops canSplit space slots got rest

/-- The walk ended with the split of the record r, ahead of the records behind. -/
structure WalkSplits (r : Fragment) (behind : List Fragment) : Prop where
  next : rest = r :: behind
  kind : r.kind ≠ .lostrel
  complete : r.filling = 0
  may : canSplit = true
  spare : got.length < slots
  below : sectorsOf got < space
  beyond : space < sectorsOf got + r.length
  split : t.split = some r
  pieces : t.pieces = piecesFrom offset got ++ [(r.front (space - sectorsOf got)).piece (offset + sectorsOf got)]
  left : t.left = kept ++ r.back (space - sectorsOf got) :: behind

/-- The build t of a walk that took the records got, passed over those kept, and left the rest. -/
structure Walked : Prop where
  complete : ∀ r ∈ got, r.filling = 0
  within : got.length ≤ slots
  fits : sectorsOf got ≤ space
  ending : WalkEnds canSplit space slots offset got kept rest t ∨
    ∃ r behind, WalkSplits canSplit space slots offset got kept rest t r behind

end

section
variable {canSplit : Bool} {space slots offset : Nat} {got kept rest : List Fragment} {r : Fragment} {t : Build}

/-- The walk ends before its first record. -/
theorem walked_stop (h : WalkStops canSplit space slots [] rest) :
    Walked canSplit space slots offset [] [] rest ⟨[], rest, none⟩ where
  complete := fun _ hr => absurd hr List.not_mem_nil
  within := Nat.zero_le _
  fits := Nat.zero_le _
  ending := .inl ⟨rfl, rfl, rfl, h⟩

/-- The walk splits its first record. -/
theorem walked_split (hk : r.kind ≠ .lostrel) (hf : r.filling = 0) (hspace : 0 < space) (hslots : 0 < slots)
    (hlong : space < r.length) :
    Walked true space slots offset [] [] (r :: rest) ⟨[(r.front space).piece offset], r.back space :: rest, some r⟩ where
  complete := fun _ hr => absurd hr List.not_mem_nil
  within := Nat.zero_le _
  fits := Nat.zero_le _
  ending := .inr ⟨r, rest, rfl, hk, hf, rfl, hslots, hspace, by simpa [sectorsOf] using hlong, rfl, rfl, rfl⟩

/-- A LOSTREL record is passed over and stays. -/
theorem Walked.cons_kept (h : Walked canSplit space slots offset got kept rest t) :
    Walked canSplit space slots offset got (r :: kept) rest { t with left := r :: t.left } where
  complete := h.complete
  within := h.within
  fits := h.fits
  ending := h.ending.imp (fun e => { e with left := congrArg (r :: ·) e.left })
    fun ⟨x, behind, e⟩ => ⟨x, behind, { e with left := congrArg (r :: ·) e.left }⟩

/-- A record that fits is taken. -/
theorem Walked.cons_got (hf : r.filling = 0) (hfits : r.length ≤ space) (hslots : 0 < slots)
    (h : Walked canSplit (space - r.length) (slots - 1) (offset + r.length) got kept rest t) :
    Walked canSplit space slots offset (r :: got) kept rest { t with pieces := r.piece offset :: t.pieces } := by
  have used := sectorsOf_cons r got
  have within := h.within
  have fits := h.fits
  refine ⟨List.forall_mem_cons.mpr ⟨hf, h.complete⟩, by rw [List.length_cons]; omega, by omega, ?_⟩
  obtain e | ⟨x, behind, e⟩ := h.ending
  · refine .inl ⟨e.split, congrArg (r.piece offset :: ·) e.pieces, e.left, fun x hx => ?_⟩
    obtain full | most | ⟨hk, hx⟩ := e.stops x hx
    · exact .inl (by omega)
    · exact .inr (.inl (by rw [List.length_cons]; omega))
    · exact .inr (.inr ⟨hk, hx.imp_right fun hx => ⟨by omega, hx.2⟩⟩)
  · have spare := e.spare
    have below := e.below
    have beyond := e.beyond
    have room : space - sectorsOf (r :: got) = space - r.length - sectorsOf got := by omega
    have place : offset + sectorsOf (r :: got) = offset + r.length + sectorsOf got := by omega
    have more : (r :: got).length < slots := by
      rw [List.length_cons]
      omega
    refine .inr ⟨x, behind, e.next, e.kind, e.complete, e.may, more, by omega, by omega, e.split, ?_, ?_⟩
    · rw [room, place]
      exact congrArg (r.piece offset :: ·) e.pieces
    · rw [room]
      exact e.left

end

/-! ### The walk (R76) -/

/-- The walk passes some records from the head, takes those that are not LOSTREL, and ends for a reason of R76 or with a split. -/
theorem buildWalk_walked (canSplit : Bool) (rs : List Fragment) (space slots offset : Nat) :
    ∃ n, Walked canSplit space slots offset (takenOf (rs.take n)) (keptOf (rs.take n)) (rs.drop n)
      (buildWalk canSplit space slots offset rs) := by
  induction rs generalizing space slots offset with
  | nil => exact ⟨0, walked_stop fun r hr => by simp at hr⟩
  | cons r rest ih =>
    rw [buildWalk]
    split
    · next h => exact ⟨0, walked_stop fun _ _ => h.imp Eq.symm fun h => .inl h.symm⟩
    split
    · next hk =>
      obtain ⟨n, h⟩ := ih space slots offset
      refine ⟨n + 1, ?_⟩
      rw [List.take_succ_cons, takenOf_cons_lostrel hk, keptOf_cons_lostrel hk]
      exact h.cons_kept
    split
    · next hk hf =>
      exact ⟨0, walked_stop fun x hx => by
        cases hx
        exact .inr (.inr ⟨hk, .inl hf⟩)⟩
    next hopen hk hf =>
    have hspace : 0 < space := by omega
    have hslots : 0 < slots := by omega
    rw [not_not] at hf
    split
    · next hfits =>
      obtain ⟨n, h⟩ := ih (space - r.length) (slots - 1) (offset + r.length)
      refine ⟨n + 1, ?_⟩
      rw [List.take_succ_cons, takenOf_cons hk, keptOf_cons hk]
      exact h.cons_got hf hfits hslots
    next hlong =>
    rw [Nat.not_le] at hlong
    split
    · next hs =>
      rw [hs, part_front hf, part_back hf]
      exact ⟨0, walked_split hk hf hspace hslots hlong⟩
    · next hs =>
      exact ⟨0, walked_stop fun x hx => by
        cases hx
        exact .inr (.inr ⟨hk, .inr ⟨by simpa [sectorsOf] using hlong, by simpa using hs⟩⟩)⟩

/-! ### A walk over complete records -/

section
variable {canSplit : Bool} {space slots offset : Nat} {got rest : List Fragment} {r : Fragment} {t : Build}

/-- The records the pieces are made of, the front of one split among them, and how their sectors and those left add up. -/
theorem Walked.pieces_eq (h : Walked canSplit space slots offset got [] rest t) : ∃ all, t.pieces = piecesFrom offset all ∧
    all.length ≤ slots ∧ sectorsOf all ≤ space ∧ sectorsOf all + sectorsOf t.left = sectorsOf got + sectorsOf rest := by
  obtain e | ⟨r, behind, e⟩ := h.ending
  · exact ⟨got, e.pieces, h.within, h.fits, by rw [e.left, List.nil_append]⟩
  · have spare := e.spare
    have below := e.below
    have beyond := e.beyond
    have one : ∀ x : Fragment, sectorsOf [x] = x.length := fun x => by simp [sectorsOf]
    have front : (r.front (space - sectorsOf got)).length = space - sectorsOf got := rfl
    have back : (r.back (space - sectorsOf got)).length = r.length - (space - sectorsOf got) := rfl
    refine ⟨got ++ [r.front (space - sectorsOf got)], ?_, by simpa using spare, ?_, ?_⟩
    · rw [e.pieces, piecesFrom_append]
      rfl
    · rw [sectorsOf_append, one]
      omega
    · rw [e.left, e.next, List.nil_append, sectorsOf_append, one, sectorsOf_cons, sectorsOf_cons]
      omega

/-- Where no split may be made the pieces are whole records. -/
theorem Walked.ends_of_whole {kept : List Fragment} (h : Walked false space slots offset got kept rest t) :
    WalkEnds false space slots offset got kept rest t := by
  obtain e | ⟨_, _, e⟩ := h.ending
  · exact e
  · exact absurd e.may Bool.false_ne_true

/-- A walk without a piece has stopped before it took a record. -/
theorem Walked.stops_of_no_piece {kept : List Fragment} (h : Walked canSplit space slots offset got kept rest t)
    (hp : t.pieces = []) : got = [] ∧ WalkStops canSplit space slots [] rest := by
  obtain e | ⟨_, _, e⟩ := h.ending
  · have none : got = [] :=
      List.eq_nil_of_length_eq_zero (by rw [← piecesFrom_length offset, ← e.pieces, hp, List.length_nil])
    exact ⟨none, none ▸ e.stops⟩
  · simp [e.pieces] at hp

end

/-- Complete records that fit leave the walk no reason to stop before the first of them. -/
theorem not_walkStops {canSplit : Bool} {space slots : Nat} {rs : List Fragment} (hslots : 0 < slots) (hne : rs ≠ [])
    (hrs : ∀ r ∈ rs, r.filling = 0 ∧ 0 < r.length ∧ r.length ≤ space) : ¬ WalkStops canSplit space slots [] rs := by
  intro h
  obtain ⟨r, rest, rfl⟩ := List.exists_cons_of_ne_nil hne
  obtain ⟨hf, hlong, hfits⟩ := hrs r List.mem_cons_self
  have none : sectorsOf [] = 0 := rfl
  have stop := h r rfl
  rw [none, List.length_nil] at stop
  omega

/-- R76 over complete records longer than 0, none LOSTREL. -/
theorem buildWalk_complete (canSplit : Bool) (space : Nat) {slots : Nat} (hslots : 0 < slots) {rs : List Fragment}
    (hrs : ∀ r ∈ rs, r.filling = 0 ∧ r.kind ≠ .lostrel ∧ 0 < r.length) :
    let t := buildWalk canSplit space slots 0 rs
    t.pieces.length ≤ slots ∧ (t.pieces.map (·.length)).sum ≤ space ∧
    (∀ i p, t.pieces[i]? = some p → p.offset = ((t.pieces.take i).map (·.length)).sum) ∧
    (t.pieces.map (·.length)).sum + (t.left.map (·.length)).sum = (rs.map (·.length)).sum ∧
    (canSplit = false → t.split = none ∧ t.left = rs.drop t.pieces.length) ∧
    (rs ≠ [] → (∀ r ∈ rs, r.length ≤ space) → t.pieces ≠ []) := by
  intro t
  obtain ⟨n, h⟩ := buildWalk_walked canSplit rs space slots 0
  have taken : ∀ r ∈ rs.take n, r.kind ≠ .lostrel := fun r hr => by
    obtain ⟨_, hk, _⟩ := hrs r (List.mem_of_mem_take hr)
    exact hk
  rw [takenOf_all taken, keptOf_none taken] at h
  obtain ⟨all, pieces, within, fits, sectors⟩ := h.pieces_eq
  have lengths : (t.pieces.map (·.length)).sum = sectorsOf all := by rw [pieces, piecesFrom_lengths, sectorsOf]
  refine ⟨by rwa [pieces, piecesFrom_length], lengths ▸ fits, fun i p hp => ?place, ?sectors, fun hs => ?whole,
    fun hne hfits hp => ?some⟩
  case place =>
    rw [pieces] at hp ⊢
    simpa using piecesFrom_offset hp
  case sectors => rw [lengths, ← sectorsOf, sectors, ← sectorsOf_append, List.take_append_drop, sectorsOf]
  case whole =>
    subst hs
    have e := h.ends_of_whole
    refine ⟨e.split, ?_⟩
    rw [e.left, e.pieces, piecesFrom_length, List.length_take, List.nil_append, List.drop_eq_drop_iff]
    omega
  case some =>
    obtain ⟨none, stops⟩ := h.stops_of_no_piece hp
    have unpassed : rs.drop n = rs := by rw [← List.nil_append (rs.drop n), ← none, List.take_append_drop]
    rw [unpassed] at stops
    refine not_walkStops hslots hne (fun r hr => ?_) stops
    obtain ⟨hf, _, hlong⟩ := hrs r hr
    exact ⟨hf, hlong, hfits r hr⟩

/-- Settles O58, from the records the walk passes and how it ends. -/
theorem trackBuilding : Obligations.TrackBuilding := by
  refine ⟨fun canSplit room rs hrs => buildWalk_complete canSplit room (by decide) hrs, fun canSplit room rs => ?_⟩
  obtain ⟨n, h⟩ := buildWalk_walked canSplit rs room 160 0
  refine ⟨n, h.complete, h.within, h.fits, ?_⟩
  obtain e | ⟨r, behind, e⟩ := h.ending
  · exact .inl ⟨e.split, e.pieces.trans (piecesFrom_zero _), e.left, fun r hr => e.stops r (by rwa [List.head?_drop])⟩
  · have zero : 0 + sectorsOf (takenOf (rs.take n)) = sectorsOf (takenOf (rs.take n)) := Nat.zero_add _
    have next : rs[n]? = some r := by rw [← List.head?_drop, e.next, List.head?_cons]
    have behind_eq : rs.drop (n + 1) = behind := by rw [← List.tail_drop, e.next, List.tail_cons]
    have pieces := e.pieces
    rw [piecesFrom_zero, zero] at pieces
    refine .inr ⟨r, next, e.kind, e.complete, e.may, e.spare, e.below, e.beyond, e.split, pieces, ?_⟩
    rw [behind_eq]
    exact e.left

end Sys2Proof.Machine

namespace Sys2Proof.Machine

/-! PROOFS. Records that match no oldest order (O49). -/

/-! ### Completions out of turn (R90, R91) -/

theorem takeCompletion_discarded {s : State} (hp : s.path ≠ .ready) (kind : Nat) (c : Completion) :
    s.takeCompletion kind c = s := if_pos hp

/-- A completion that the oldest order, if there is one, does not take as its own. -/
theorem takeCompletion_mismatch {s : State} {kind : Nat} {c : Completion} (hp : s.path = .ready)
    (h : ∀ o, s.window.head? = some o →
      ¬ (c.check = checkValue (completionBytes kind c) ∧ o.code = kind ∧ o.accepts c = true)) :
    s.takeCompletion kind c = s.mediaFault := by
  cases hw : s.window with
  | nil => simp [State.takeCompletion, hp, hw]
  | cons o rest => exact takeCompletion_fault hp hw (h o (by rw [hw, List.head?_cons]))

theorem takeCompletion_otherKind {s : State} {kind : Nat} {c : Completion} (hp : s.path = .ready)
    (h : ∀ o, s.window.head? = some o → o.code ≠ kind) : s.takeCompletion kind c = s.mediaFault :=
  takeCompletion_mismatch hp fun o ho ⟨_, hk, _⟩ => h o ho hk

/-- A status that no order of a kind returns, or a wrong check value. -/
theorem takeCompletion_wrong {s : State} {kind : Nat} {c : Completion} {bad : Prop} (hp : s.path = .ready)
    (h : c.check ≠ checkValue (completionBytes kind c) ∨ bad)
    (hbad : ∀ o : Order, bad → o.code = kind → o.accepts c = false) : s.takeCompletion kind c = s.mediaFault :=
  takeCompletion_mismatch hp fun o _ ⟨hc, hk, ha⟩ =>
    h.elim (fun hn => hn hc) fun hb => Bool.false_ne_true ((hbad o hb hk).symm.trans ha)

/-! ### The statuses of each kind (R92 to R96) -/

theorem write_status {c : Completion} {o : Order} (hk : o.code = 1) (hs : 3 < c.status) : o.accepts c = false := by
  cases o with
  | write w => simp [Order.accepts, hs]
  | motion m => cases m <;> cases hk
  | _ => cases hk

theorem read_status {c : Completion} {o : Order} (hk : o.code = 2) (hs : c.status ≠ 0 ∧ c.status ≠ 3) : o.accepts c = false := by
  cases o with
  | read r => simp [Order.accepts, hs]
  | motion m => cases m <;> cases hk
  | _ => cases hk

theorem geometry_status {c : Completion} {o : Order} (hk : o.code = 3) (hs : c.status ≠ 0 ∧ c.status ≠ 3) :
    o.accepts c = false := by
  cases o with
  | geometry g => simp [Order.accepts, hs]
  | motion m => cases m <;> cases hk
  | _ => cases hk

theorem motion_status {c : Completion} {o : Order} {kind : Nat} (hk : o.code = kind) (h4 : 4 ≤ kind)
    (hs : c.status ≠ 0 ∧ c.status ≠ 4) : o.accepts c = false := by
  subst hk
  cases o with
  | motion m => simp [Order.accepts, hs]
  | _ => simp [Order.code] at h4

/-! ### The records as commands -/

section
variable {s X : State} {c : Completion}

theorem gives_writeCompletion (h : s.takeCompletion 1 c = X) : Gives (.writeTrackCompletion c) s X := gives_of_finish (h ▸ rfl)

theorem gives_readCompletion (h : s.takeCompletion 2 c = X) : Gives (.readTrackCompletion c) s X := gives_of_finish (h ▸ rfl)

theorem gives_geometryRecord (h : s.takeCompletion 3 c = X) : Gives (.geometryCompletion c) s X := gives_of_finish (h ▸ rfl)

/-- R91: a kind that is no motion order's is a sequencer fault whatever the window holds. -/
theorem gives_motionRecord {kind : Nat} (hi : 4 ≤ kind → kind ≤ 7 → s.takeCompletion kind c = X)
    (ho : kind < 4 ∨ 7 < kind → s.mediaFault = X) : Gives (.motionCompletion kind c) s X := by
  refine gives_of_finish (congrArg (finish s) ?_)
  split
  · next h => exact hi h.1 h.2
  · exact ho (by omega)

end

/-! ### Sector deliveries (R91, R94) -/

theorem takeSector_discarded {s : State} (hp : s.path ≠ .ready) (sector : Nat) (data : Sector) (check : BitVec 32) :
    s.takeSector sector data check = s := if_pos hp

theorem takeSector_fault {s : State} {sector : Nat} {data : Sector} {check : BitVec 32} (hp : s.path = .ready)
    (h : ∀ r, s.window.head? = some (.read r) → ¬ (check = checkValue (deliveryBytes sector data) ∧ r.expects sector = true)) :
    s.takeSector sector data check = s.mediaFault := by
  unfold State.takeSector
  rw [if_neg (by simp [hp])]
  split
  · next r rest hw => exact if_neg (h r (by rw [hw, List.head?_cons]))
  · rfl

theorem gives_sectorDelivery {s X : State} {sector : Nat} {data : Sector} {check : BitVec 32}
    (h : s.takeSector sector data check = X) : Gives (.sectorDelivery sector data check) s X := gives_of_finish (h ▸ rfl)

/-- Settles O49, by what keeps the oldest order from taking a record: the path, its kind, its check value, its status. -/
theorem recordsOutOfTurn : Obligations.RecordsOutOfTurn := by
  intro s c sector data check
  refine ⟨fun hp => ?discarded, fun hp h => ?_, fun hp h => ?_, fun hp h => ?_, fun kind hp h => ?kind, fun hp h => ?_,
    fun hp h => ?_, fun hp h => ?_, fun hp h => ?_, fun kind hp h => ?status, fun hp h => ?_⟩
  case discarded =>
    exact ⟨gives_writeCompletion (takeCompletion_discarded hp 1 c), gives_readCompletion (takeCompletion_discarded hp 2 c),
      gives_geometryRecord (takeCompletion_discarded hp 3 c),
      fun kind => gives_motionRecord (fun _ _ => takeCompletion_discarded hp kind c) fun _ => mediaFault_idle hp,
      gives_sectorDelivery (takeSector_discarded hp sector data check)⟩
  case kind =>
    refine gives_motionRecord (fun h4 h7 => takeCompletion_otherKind hp ?_) fun _ => rfl
    exact (h.resolve_left (by omega)).resolve_left (by omega)
  case status =>
    exact gives_motionRecord (fun h4 _ => takeCompletion_wrong hp h fun o hs hk => motion_status hk h4 hs) fun _ => rfl
  · exact gives_writeCompletion (takeCompletion_otherKind hp h)
  · exact gives_readCompletion (takeCompletion_otherKind hp h)
  · exact gives_geometryRecord (takeCompletion_otherKind hp h)
  · exact gives_sectorDelivery (takeSector_fault hp fun r hr ⟨_, he⟩ => Bool.false_ne_true ((h r hr).symm.trans he))
  · exact gives_writeCompletion (takeCompletion_wrong hp h fun o hs hk => write_status hk hs)
  · exact gives_readCompletion (takeCompletion_wrong hp h fun o hs hk => read_status hk hs)
  · exact gives_geometryRecord (takeCompletion_wrong hp h fun o hs hk => geometry_status hk hs)
  · exact gives_sectorDelivery (takeSector_fault hp fun r _ ⟨hc, _⟩ => h hc)

end Sys2Proof.Machine

namespace Sys2Proof.Machine

/-! PROOFS. What a media grant issues first (O56). -/

/-! ### The issue of an order (R89, R99) -/

/-- An order goes behind the window's, and is the one the deadline runs for where it is the only one. -/
theorem issue_eq (s : State) (o : Order) : s.issue o = { s with
    window := s.window ++ [o], deadline := if s.window = [] then some (s.limitOf o) else s.deadline } := by
  cases h : s.window with
  | nil =>
    simp only [State.issue, h, List.isEmpty_nil, if_true]
    cases o with
    | motion m => cases m <;> rfl
    | _ => rfl
  | cons o' rest => simp [State.issue, h]

theorem limitOf_motion (s : State) (m : Motion) :
    s.limitOf (.motion m) = if m = .unpark ∨ m = .spinUp then 30000 else 5000 := by
  cases m <;> rfl

/-! ### What stands ahead of every transfer (R89, R96) -/

theorem any_isMotion {os : List Order} : os.any Order.isMotion = true ↔ ∃ m, Order.motion m ∈ os := by
  rw [List.any_eq_true]
  constructor
  · rintro ⟨o, ho, hm⟩
    cases o with
    | motion m => exact ⟨m, ho⟩
    | _ => cases hm
  · exact fun ⟨m, hm⟩ => ⟨_, hm, rfl⟩

theorem grantMedia_barred {s : State} (h : s.path ≠ .ready ∨ 4 ≤ s.window.length ∨ ∃ m, Order.motion m ∈ s.window) :
    s.grantMedia = s := by
  rw [← any_isMotion] at h
  exact if_pos h

theorem grantMedia_open {s : State} (hp : s.path = .ready) (hm : ∀ m, Order.motion m ∉ s.window) (hw : s.window.length < 4) :
    s.grantMedia = match s.spindle.motion with
      | some m =>
        if s.window.isEmpty then State.issue { s with spindle := { s.spindle with motion := none } } (.motion m) else s
      | none => match s.geometry with
        | g :: rest => State.issue { s with geometry := rest } (.geometry g)
        | [] => if s.spindle.state = .spinning then s.grantTransfer.1 else s := by
  have hnone : ¬ s.window.any Order.isMotion = true := fun h => (any_isMotion.mp h).elim hm
  refine if_neg ?_
  rintro (h | h | h)
  · exact h hp
  · exact absurd h (by simpa using hw)
  · exact hnone h

/-! ### The fetch reads and the start-up's footer read (R97, R98) -/

/-- The order of a read of a Get. -/
def FetchRead.order (f : FetchRead) : Order :=
  .read { owner := .fetch f, band := f.band, track := f.track, profile := f.profile, first := f.first, count := f.count
          timeouts := f.timeouts, delivered := [] }

/-- The fetch-run count behind a fetch read (R98; log 23). -/
def runAfter (emergency candidate : Bool) (n : Nat) : Nat := if emergency then n else if candidate then min 8 (n + 1) else 0

theorem ranFetch_eq (s : State) (emergency candidate : Bool) :
    s.ranFetch emergency candidate = { s with fetchRun := runAfter emergency candidate s.fetchRun } := by
  unfold State.ranFetch runAfter
  split <;> rfl

theorem grantFetch_head {s : State} {f : FetchRead} {rest : List FetchRead} (hst : s.stage = .done) (hf : s.fetchList = f :: rest)
    (emergency candidate : Bool) : s.grantFetch emergency candidate = ({ s with
      fetchList := rest, fetchRun := runAfter emergency candidate s.fetchRun, window := s.window ++ [f.order]
      deadline := if s.window = [] then some s.orderLimit else s.deadline }, true) := by
  simp only [State.grantFetch, hst, hf, ranFetch_eq, issue_eq]
  rfl

theorem grantFetch_footer {s : State} {b n k : Nat} {f : Sector} (hst : s.stage = .reconcile b n k false f)
    (emergency candidate : Bool) : s.grantFetch emergency candidate = ({ s with
      stage := .reconcile b n k true f, fetchRun := runAfter emergency candidate s.fetchRun
      window := s.window ++ [.read { owner := .startUp, band := b, track := n, profile := ((s.bands[b]?).map (·.profile)).getD 0
                                     first := (s.shapeOf b).sectors - 1, count := 1, timeouts := k, delivered := [] }]
      deadline := if s.window = [] then some s.orderLimit else s.deadline }, true) := by
  simp only [State.grantFetch, hst, ranFetch_eq, issue_eq]
  rfl

/-! ### A grant that placement declines (R75) -/

/-- t differs from s in its bands and queues alone. -/
def PlacementOnly (s t : State) : Prop := ∃ bs qs, t = { s with bands := bs, queues := qs }

theorem PlacementOnly.trans {s t u : State} (h : PlacementOnly s t) (g : PlacementOnly t u) : PlacementOnly s u := by
  obtain ⟨_, _, rfl⟩ := h
  obtain ⟨_, _, rfl⟩ := g
  exact ⟨_, _, rfl⟩

theorem serveBand_declined {s : State} {q : Fin 16} {b : Nat} {emergency : Bool} (h : (s.serveBand q b emergency).2 = false) :
    PlacementOnly s (s.serveBand q b emergency).1 := by
  unfold State.serveBand at h ⊢
  split at h
  · exact ⟨_, _, rfl⟩
  · dsimp only at h ⊢
    split at h
    · next hp => exact ⟨_, _, by rw [if_pos hp]; rfl⟩
    · cases h

theorem serveQueue_declined {s : State} {q : Fin 16} {emergency : Bool} (h : (s.serveQueue q emergency).2 = false) :
    PlacementOnly s (s.serveQueue q emergency).1 := by
  cases hb : s.boundBand q with
  | some b =>
    rw [serveQueue_bound hb] at h ⊢
    exact serveBand_declined h
  | none =>
    cases hg : s.grantable q with
    | none => exact ⟨_, _, by simp [State.serveQueue, hb, hg]; rfl⟩
    | some b =>
      have opened : PlacementOnly s (s.opening q b) := ⟨_, _, rfl⟩
      rw [serveQueue_opens hb hg] at h ⊢
      split at h
      · next hr => exact if_pos hr ▸ opened.trans (serveBand_declined h)
      · next hr => exact if_neg hr ▸ opened

theorem placementLoop_declined {emergency : Bool} {n : Nat} {tried : List (Fin 16)} {last : Fin 16} {s : State}
    (h : (placementLoop emergency n tried last s).2 = false) : PlacementOnly s (placementLoop emergency n tried last s).1 := by
  induction n generalizing tried last s with
  | zero => exact ⟨_, _, rfl⟩
  | succ n ih =>
    cases hq : s.chooseQueue tried last with
    | none =>
      rw [placementLoop_none hq]
      exact ⟨_, _, rfl⟩
    | some q =>
      rw [placementLoop_succ hq] at h ⊢
      split at h
      · next hs => exact absurd h (by simp [hs])
      · next hs =>
        rw [if_neg hs]
        exact (serveQueue_declined (by simpa using hs)).trans (ih h)

/-! ### The relocation read (R130) -/

/-- The track in hand once a grant has looked at it: its live set, fixed or found. -/
def State.handLive (s : State) (v : Nat) (h : TrackInHand) : List LiveSector :=
  if h.fixed then h.live else liveSectors (s.piecesOn v h.track)

section
variable {s : State} {v : Nat} {h : TrackInHand}

theorem grantRelocRead_presented (hs : s.engine.state = .reading) (hh : s.engine.hand = some h) (hp : h.phase = .presented)
    (hw : h.claimWait = false) : s.grantRelocRead = s.grantReloc := if_pos (by simp [State.relocPresented, hs, hh, hp, hw])

/-- R130: both gates hold, or the live set is fixed already. -/
def State.passesGates (s : State) (v : Nat) (h : TrackInHand) : Prop :=
  h.fixed = true ∨
    (pieceSectors (s.piecesOn v h.track) ≤ s.space 15 ∧ 2 * (s.piecesOn v h.track).length ≤ s.poolFree)

theorem barred_iff : (!h.fixed) = true ∧ (!s.gates (s.piecesOn v h.track)) = true ↔ ¬ s.passesGates v h := by
  simp only [State.passesGates, State.gates, Bool.not_eq_true', Bool.and_eq_false_iff, decide_eq_false_iff_not, not_or,
    not_and_or, Bool.not_eq_true]

variable (hv : s.engine.victim = some v) (hh : s.engine.hand = some h)
include hv hh

/-- A grant to the track in hand, by the tests it meets. -/
theorem grantReloc_hand : s.grantReloc =
    if (!h.fixed) = true ∧ (!s.gates (s.piecesOn v h.track)) = true then
      (s.setHand (some { h with phase := .gate, live := [] }), false)
    else if (!s.claimable v 1) = true then
      (s.setHand (some { h with claimWait := true, live := if h.fixed then h.live else [] }), false)
    else (((s.claimRead v).issue (.read (s.handRead v { h with live := s.handLive v h }))).setHand
      (some { h with phase := .inWindow, fixed := true, live := s.handLive v h }), true) := by
  unfold State.grantReloc State.handLive
  simp only [hv, hh]
  obtain ⟨_, _, _, _, fixed, _, _⟩ := h
  cases fixed <;> simp

theorem grantReloc_issues (hg : s.passesGates v h) (hc : s.claimable v 1 = true) :
    s.grantReloc = ({ s.claimRead v with
      engine := { s.engine with hand := some { h with phase := .inWindow, fixed := true, live := s.handLive v h } }
      window := s.window ++ [.read (s.handRead v { h with live := s.handLive v h })]
      deadline := if s.window = [] then some s.orderLimit else s.deadline }, true) := by
  rw [grantReloc_hand hv hh, if_neg (mt barred_iff.mp (not_not_intro hg)), if_neg (by simp [hc]), issue_eq]
  rfl

theorem grantReloc_gated (hg : ¬ s.passesGates v h) :
    s.grantReloc = ({ s with engine := { s.engine with hand := some { h with phase := .gate, live := [] } } }, false) := by
  rw [grantReloc_hand hv hh, if_pos (barred_iff.mpr hg)]
  rfl

theorem grantReloc_unclaimed (hg : s.passesGates v h) (hc : s.claimable v 1 = false) :
    s.grantReloc = ({ s with engine := { s.engine with
      hand := some { h with claimWait := true, live := if h.fixed then h.live else [] } } }, false) := by
  rw [grantReloc_hand hv hh, if_neg (mt barred_iff.mp (not_not_intro hg)), if_pos (by simp [hc])]
  rfl

end

/-! ### The classes of a grant (R97, R98) -/

section
variable {s t : State}

/-- A fetch read, or the footer read, goes first outside an emergency below the count, or with no candidate. -/
theorem grantTransfer_fetch (he : s.emergency = false) (hr : ¬ (s.fetchRun = 8 ∧ s.candidate = true))
    (hX : s.grantFetch false s.candidate = (t, true)) : s.grantTransfer.1 = t := by
  unfold State.grantTransfer
  simp only [he, Bool.false_eq_true, if_false, if_neg hr, hX, orTry, if_true]

theorem grantTransfer_fetch_declined {y : State} (he : s.emergency = false) (hr : s.fetchRun = 8) (hc : s.candidate = true)
    (hy : s.placementGrant = (y, false)) (hX : y.grantFetch false true = (t, true)) : s.grantTransfer.1 = t := by
  simp [State.grantTransfer, he, hr, hc, orTry, State.grantWrite, hy, hX]

theorem grantTransfer_fetch_emergency (he : s.emergency = true) (hr : s.relocPresented = false)
    (hq : (s.candidate && s.candidateQ15) = false) (hX : s.grantFetch true s.candidate = (t, true)) : s.grantTransfer.1 = t := by
  simp [State.grantTransfer, he, hq, orTry, State.grantWrite, grantRelocRead_none hr, hX]

theorem grantTransfer_reloc (he : s.emergency = true) (hX : s.grantRelocRead = (t, true)) : s.grantTransfer.1 = t := by
  simp [State.grantTransfer, he, orTry, hX]

/-- With nothing else to grant the relocation read's class is the only one, in an emergency and outside. -/
theorem grantTransfer_last {issued : Bool} (hst : s.stage = .done) (hc : s.candidate = false) (hf : s.fetchList = [])
    (hX : s.grantRelocRead = (t, issued)) (ht : t.stage = .done) (hl : t.fetchList = []) : s.grantTransfer.1 = t := by
  cases he : s.emergency with
  | false => simp [State.grantTransfer, he, hc, orTry, State.grantWrite, grantFetch_none hst hf, hX]
  | true => cases issued <;> simp [State.grantTransfer, he, hc, orTry, State.grantWrite, grantFetch_none ht hl, hX]

end

/-- Settles O56, class by class: what bars a grant, the orders ahead of the transfers, the fetch reads, and the relocation read. -/
theorem grantsInRank : Obligations.GrantsInRank := by
  refine ⟨fun s => ⟨fun h => gives_mediaGrant (grantMedia_barred h), fun hp hm hw => ?ahead⟩, fun s hp hw hm hmo hg ht => ?transfers⟩
  case ahead =>
    have granted := grantMedia_open hp hm hw
    refine ⟨fun m hmo hne => ?_, fun m hmo he => ?_, fun g rest hmo hg => ?_, fun hmo hg ht => ?_⟩ <;>
      refine gives_mediaGrant (granted.trans ?_)
    · simp [hmo, hne]
    · simp [hmo, he, issue_eq, limitOf_motion]
    · simp only [hmo, hg, issue_eq]
      rfl
    · simp [hmo, hg, ht]
  have granted : ∀ X, s.grantTransfer.1 = X → Gives .mediaGrant s X := fun X hX =>
    gives_mediaGrant ((grantMedia_transfer hp hw hm hmo hg ht).trans hX)
  refine ⟨fun f rest hst hf => ⟨fun he hr h8 => ?_, fun y he hr hc hy => ?_, fun he hr hq => ?_⟩, fun b n k f hst hr hc => ?footer,
    fun v h hs hv hh hph hcw => ⟨fun hrank hgates hclaim => ?_, fun hlast hgates => ?_, fun hlast hgates hclaim => ?_⟩⟩
  · have below : ¬ (s.fetchRun = 8 ∧ s.candidate = true) := fun ⟨h, hc⟩ => by
      rcases hr with hr | hr
      · omega
      · exact Bool.false_ne_true (hr.symm.trans hc)
    have count : runAfter false s.candidate s.fetchRun = if s.candidate then s.fetchRun + 1 else 0 := by
      cases hc : s.candidate
      · rfl
      · simp only [hc, Bool.true_eq_false, or_false] at hr
        simp [runAfter]
        omega
    exact granted _ (grantTransfer_fetch he below (by rw [grantFetch_head hst hf, count]; rfl))
  · have declined := placementLoop_declined (congrArg Prod.snd hy)
    rw [show placementLoop s.emergency 16 [] s.lastServed s = (y, false) from hy] at declined
    obtain ⟨bs, qs, rfl⟩ := declined
    refine granted _ (grantTransfer_fetch_declined he hr hc hy ?_)
    rw [grantFetch_head (s := { s with bands := bs, queues := qs }) hst hf, hr]
    rfl
  · have noWrite : (s.candidate && s.candidateQ15) = false := by simp [State.candidateQ15, hq]
    exact granted _ (grantTransfer_fetch_emergency he hr noWrite (grantFetch_head hst hf _ _))
  case footer =>
    cases he : s.emergency with
    | false =>
      exact granted _ (grantTransfer_fetch he (by simp [hc]) (by rw [grantFetch_footer hst, hc]; rfl))
    | true =>
      exact granted _ (grantTransfer_fetch_emergency he hr (by simp [hc]) (by rw [grantFetch_footer hst, hc]; rfl))
  · have issues := (grantRelocRead_presented hs hh hph hcw).trans (grantReloc_issues hv hh hgates hclaim)
    rcases hrank with he | ⟨hst, hc, hf⟩
    · exact granted _ (grantTransfer_reloc he issues)
    · exact granted _ (grantTransfer_last hst hc hf issues hst hf)
  · obtain ⟨hst, hc, hf⟩ := hlast
    exact granted _ (grantTransfer_last hst hc hf
      ((grantRelocRead_presented hs hh hph hcw).trans (grantReloc_gated hv hh hgates)) hst hf)
  · obtain ⟨hst, hc, hf⟩ := hlast
    exact granted _ (grantTransfer_last hst hc hf
      ((grantRelocRead_presented hs hh hph hcw).trans (grantReloc_unclaimed hv hh hgates hclaim)) hst hf)

end Sys2Proof.Machine

namespace Sys2Proof.Machine

/-! PROOFS. What answers, notices, pieces, the engine, the spindle, the Gets and start-up leave of the order window, the media path,
the counters, the credits and the fill states (used for O7, O45 and O47). -/

/-! ### The relation -/

/-- t leaves the order window, the media path, the fetch-run count, the sequence counter, the recovery wait, the reset in progress,
the fill states and the credits held as s has them; and start-up too, unless start-up has begun in t. -/
structure Stays (s t : State) : Prop where
  window : t.window = s.window
  path : t.path = s.path
  fetchRun : t.fetchRun = s.fetchRun
  sequence : t.sequence = s.sequence
  recoveryWait : t.recoveryWait = s.recoveryWait
  resetWaits : t.resetWaits = s.resetWaits
  fills : ∀ q, (t.queue q).almostFull = (s.queue q).almostFull
  creditsA : t.portA.creditsHeld = s.portA.creditsHeld
  creditsB : t.portB.creditsHeld = s.portB.creditsHeld
  start : (t.stage = s.stage ∧ t.service = s.service ∧ t.startWait = s.startWait) ∨ t.stage ≠ .held

namespace Stays
variable {s t u : State}

/-- A change of other fields than those a Stays is about. -/
theorem of_same (window : t.window = s.window := by rfl) (path : t.path = s.path := by rfl)
    (fetchRun : t.fetchRun = s.fetchRun := by rfl) (sequence : t.sequence = s.sequence := by rfl)
    (recoveryWait : t.recoveryWait = s.recoveryWait := by rfl) (resetWaits : t.resetWaits = s.resetWaits := by rfl)
    (queues : t.queues = s.queues := by rfl) (creditsA : t.portA.creditsHeld = s.portA.creditsHeld := by rfl)
    (creditsB : t.portB.creditsHeld = s.portB.creditsHeld := by rfl) (stage : t.stage = s.stage := by rfl)
    (service : t.service = s.service := by rfl) (startWait : t.startWait = s.startWait := by rfl) : Stays s t :=
  ⟨window, path, fetchRun, sequence, recoveryWait, resetWaits, fun q => by rw [State.queue_congr queues], creditsA, creditsB,
    .inl ⟨stage, service, startWait⟩⟩

theorem refl (s : State) : Stays s s := of_same

theorem trans (h : Stays s t) (g : Stays t u) : Stays s u where
  window := g.window.trans h.window
  path := g.path.trans h.path
  fetchRun := g.fetchRun.trans h.fetchRun
  sequence := g.sequence.trans h.sequence
  recoveryWait := g.recoveryWait.trans h.recoveryWait
  resetWaits := g.resetWaits.trans h.resetWaits
  fills := fun q => (g.fills q).trans (h.fills q)
  creditsA := g.creditsA.trans h.creditsA
  creditsB := g.creditsB.trans h.creditsB
  start := by
    obtain ⟨stage, service, startWait⟩ | hu := g.start
    · exact h.start.imp (fun ⟨x, y, z⟩ => ⟨stage.trans x, service.trans y, startWait.trans z⟩) fun ht => stage ▸ ht
    · exact .inr hu

theorem foldl {α : Type} {f : State → α → State} (h : ∀ s a, Stays s (f s a)) (l : List α) (s : State) :
    Stays s (l.foldl f s) := by
  induction l generalizing s with
  | nil => exact refl s
  | cons a l ih => exact (h s a).trans (ih (f s a))

/-- The same of a fold that carries something beside the state. -/
theorem foldl_fst {α β : Type} {f : State × β → α → State × β} (h : ∀ x a, Stays x.1 (f x a).1) (l : List α)
    (x : State × β) : Stays x.1 (l.foldl f x).1 := by
  induction l generalizing x with
  | nil => exact refl x.1
  | cons a l ih => exact (h x a).trans (ih (f x a))

theorem ite {c : Prop} [Decidable c] (ht : Stays s t) (hu : Stays s u) : Stays s (if c then t else u) := by
  split
  · exact ht
  · exact hu

/-- A further change where a condition holds. -/
theorem thenIf {c : Prop} [Decidable c] (ht : Stays s t) (hu : Stays t u) : Stays s (if c then u else t) :=
  .ite (ht.trans hu) ht

theorem ite_fst {β : Type} {c : Prop} [Decidable c] {x y : State × β} (hx : Stays s x.1) (hy : Stays s y.1) :
    Stays s (if c then x else y).1 := by
  split
  · exact hx
  · exact hy

theorem engine (s : State) (e : Engine) : Stays s { s with engine := e } := of_same

theorem spindle (s : State) (x : Spindle) : Stays s { s with spindle := x } := of_same

theorem fetchList (s : State) (fs : List FetchRead) : Stays s { s with fetchList := fs } := of_same

theorem table (s : State) (es : List ReqEntry) : Stays s { s with table := es } := of_same

/-- Start-up goes on. -/
theorem started {s : State} {x : Service} {g : StartStage} {w : Bool} {os : List GeoOrder} (h : g ≠ .held) :
    Stays s { s with service := x, stage := g, startWait := w, geometry := os } :=
  ⟨rfl, rfl, rfl, rfl, rfl, rfl, fun _ => rfl, rfl, rfl, .inr h⟩

/-- A change of a port that leaves its credits. -/
theorem modPort {f : Port → Port} (hf : ∀ p, (f p).creditsHeld = p.creditsHeld) (s : State) (l : Link) :
    Stays s (s.modPort l f) := by
  cases l
  · exact .of_same (creditsA := hf _)
  · exact .of_same (creditsB := hf _)

/-- A change of the queues that leaves the fill states. -/
theorem mapQueues {f : Fin 16 → Queue → Queue} (hf : ∀ q x, (f q x).almostFull = x.almostFull) (s : State) :
    Stays s (s.mapQueues f) := by
  refine ⟨?_, ?_, ?_, ?_, ?_, ?_, fun q => ?_, ?_, ?_, .inl ⟨?_, ?_, ?_⟩⟩
  case refine_7 => rw [State.mapQueues_queue, hf]
  all_goals simp

theorem mapSlots (s : State) (f : Fin 16 → FetchSlot → FetchSlot) : Stays s (s.mapSlots f) := by
  refine ⟨?_, ?_, ?_, ?_, ?_, ?_, fun q => ?_, ?_, ?_, .inl ⟨?_, ?_, ?_⟩⟩
  case refine_7 => rw [State.queue_congr (State.mapSlots_queues s f)]
  all_goals simp

theorem modQueue {f : Queue → Queue} (hf : ∀ x, (f x).almostFull = x.almostFull) (s : State) (q : Fin 16) :
    Stays s (s.modQueue q f) := by
  refine ⟨rfl, rfl, rfl, rfl, rfl, rfl, fun p => ?_, rfl, rfl, .inl ⟨rfl, rfl, rfl⟩⟩
  rw [State.modQueue_queue]
  split
  · exact hf _
  · rfl

end Stays

/-! ### Answers, notices and pending reads -/

theorem stays_raise (s : State) (l : Link) (k : Notice) (d : Nat) : Stays s (s.raise l k d) := .modPort (by exact fun _ => rfl) s l

theorem stays_raiseBoth (s : State) (k : Notice) (d : Nat) : Stays s (s.raiseBoth k d) := .of_same

theorem stays_noteHeadroom (s : State) (a b : Nat) : Stays s (s.noteHeadroom a b) := .thenIf (.refl s) (stays_raiseBoth s _ _)

theorem stays_notePool (s : State) (a b : Nat) : Stays s (s.notePool a b) := .thenIf (.refl s) (stays_raiseBoth s _ _)

theorem stays_noteFalls (s old : State) : Stays s (s.noteFalls old) :=
  (stays_noteHeadroom s _ _).trans (stays_notePool _ _ _)

theorem stays_pushFrame (s : State) (l : Link) (f : OutFrame) : Stays s (s.pushFrame l f) := .modPort (by exact fun _ => rfl) s l

theorem stays_freeSlot (s : State) (l : Link) : Stays s (s.freeSlot l) := .modPort (by exact fun _ => rfl) s l

theorem stays_answerNow (s : State) (k : Key) (kind : Nat) (x : Status) (r : Result) : Stays s (s.answerNow k kind x r) :=
  stays_pushFrame s _ _

theorem stays_answerEntry (s : State) (k : Key) (x : Status) (r : Result) : Stays s (s.answerEntry k x r) := by
  unfold State.answerEntry
  split
  · exact .refl s
  · exact .ite (.refl s) (.ite (.table s _) ((Stays.table s _).trans (stays_pushFrame _ _ _)))

theorem stays_answerAll (s : State) (ks : List Key) (x : Status) : Stays s (s.answerAll ks x) :=
  .foldl (fun s k => stays_answerEntry s k x .none) ks s

theorem stays_enterTable (s : State) (k : Key) (i : EntryInfo) : Stays s (s.enterTable k i) :=
  (Stays.table s _).trans (stays_freeSlot _ _)

theorem stays_releaseRead (s : State) (b : Nat) : Stays s (s.releaseRead b) :=
  .thenIf (.of_same : Stays s (s.modBand b fun r => { r with pendingReads := r.pendingReads - 1 })) (.engine _ _)

/-! ### Pieces (R80 to R86, R174) -/

theorem stays_movePieces (s : State) (o : Option Key) (n m : Nat) : Stays s (s.movePieces o n m) := by
  cases o
  · exact .refl s
  · exact .table s _

theorem stays_recordOutcome (s : State) (o : Option Key) (x : Outcome) : Stays s (s.recordOutcome o x) := by
  cases o
  · exact .refl s
  · exact .table s _

theorem stays_raiseLost (s : State) (lost : List (Nat × Nat)) : Stays s (s.raiseLost lost) := by
  unfold State.raiseLost
  split
  · exact .refl s
  · exact stays_raiseBoth s _ _

theorem stays_insertReleased (s : State) (held : Nat) (r : Inserted) : Stays s (s.insertReleased held r) :=
  (.of_same : Stays s (s.setMap r.entries)).trans (stays_noteHeadroom _ _ _)

theorem stays_resolveHost (s : State) (p : Piece) (asLost : Bool) (lost : List (Nat × Nat)) :
    Stays s (s.resolveHost p asLost lost) :=
  .ite (.refl s) (.ite (.thenIf (stays_movePieces s _ _ _) (stays_recordOutcome _ _ _))
    ((stays_movePieces s _ _ _).trans (stays_raiseLost _ _)))

theorem stays_resolvePiece (place : Piece → Stretch → Option Location) (lostOf : Inserted → List (Nat × Nat)) (asLost : Bool)
    (acc : State × Nat) (p : Piece) : Stays acc.1 (resolvePiece place lostOf asLost acc p).1 := by
  have entered : ∀ acc st, Stays acc.1 (applyStretch place lostOf p acc st).1 := fun acc _ => stays_insertReleased acc.1 _ _
  exact (Stays.foldl_fst entered p.stretches (acc.1, acc.2, [])).trans (stays_resolveHost _ _ _ _)

theorem stays_completeBand (s : State) (b : Nat) (failed : Bool) : Stays s (s.completeBand b failed) := .of_same

theorem stays_writeDone (s : State) (w : WriteOrder) : Stays s (s.writeDone w) := by
  unfold State.writeDone
  rw [enterPiece_eq]
  exact (Stays.foldl_fst (stays_resolvePiece _ _ false) w.pieces (s, w.records)).trans (stays_completeBand _ _ _)

theorem stays_losePiece (acc : State × Nat) (p : Piece) : Stays acc.1 (losePiece acc p).1 := by
  rw [losePiece_eq]
  exact stays_resolvePiece _ _ _ acc p

theorem stays_failPiece (acc : State × Nat × List Fragment) (p : Piece) : Stays acc.1 (failPiece acc p).1 := by
  unfold failPiece
  dsimp only
  split
  · exact .refl _
  · split
    · exact .refl _
    · exact stays_losePiece (acc.1, acc.2.1) _

theorem stays_orphanPiece (acc : State × Nat) (p : Piece) : Stays acc.1 (orphanPiece acc p).1 := by
  unfold orphanPiece
  refine .ite_fst (.refl _) (.ite_fst (.refl _) (.ite_fst (stays_losePiece acc p) ?_))
  exact (stays_recordOutcome _ _ _).trans (stays_movePieces _ _ _ _)

theorem stays_writeFailed (s : State) (w : WriteOrder) : Stays s (s.writeFailed w) := by
  unfold State.writeFailed
  refine Stays.trans ?_ (stays_completeBand _ _ _)
  split
  · exact .foldl_fst stays_orphanPiece w.pieces (s, w.records)
  · exact (Stays.foldl_fst stays_failPiece w.pieces (s, w.records, [])).trans (.modQueue (by exact fun _ => rfl) _ _)

theorem stays_clearPoolStalls (s : State) : Stays s s.clearPoolStalls :=
  .mapQueues (f := fun _ x => { x with poolStall := false }) (fun _ _ => rfl) s

theorem stays_resolveLostrels (s : State) : Stays s s.resolveLostrels := by
  refine .foldl (fun s r => ?_) _ s
  exact ((.of_same : Stays s (s.setMap _)).trans (.modQueue (by exact fun _ => rfl) _ 15)).trans (stays_clearPoolStalls _)

/-! ### The Relocation Engine (chapter 7) -/

theorem stays_endRun (s : State) (x : Status) : Stays s (s.endRun x) := by
  unfold State.endRun
  dsimp only
  split
  · exact .engine s _
  · exact (Stays.engine s _).trans (stays_answerEntry _ _ _ _)

theorem stays_continueRun (s : State) : Stays s s.continueRun := .ite (.engine s _) (stays_endRun s .ok)

theorem stays_victimReleased (s : State) : Stays s s.victimReleased :=
  (Stays.engine s { s.engine with deferred := none }).trans (.ite (stays_endRun _ _) (stays_continueRun _))

theorem stays_releaseBand (s : State) (b : Nat) : Stays s (s.releaseBand b) :=
  .thenIf (.of_same : Stays s ((s.modBand b Band.released).raiseBoth .relocationDone b)) (stays_victimReleased _)

theorem stays_releaseEmptied (s : State) : Stays s s.releaseEmptied := by
  refine .foldl (fun s x => ?_) _ s
  exact stays_releaseBand s x.2

theorem stays_abandonVictim (s : State) : Stays s s.abandonVictim := by
  unfold State.abandonVictim
  split
  · exact .refl s
  · next b _ =>
    have back : Stays s (s.modBand b fun r => { r.uncleaned with suspect := true }) := .of_same
    exact back.trans ((Stays.engine _ _).trans (.ite (stays_endRun _ _) (stays_continueRun _)))

theorem stays_searchTrack (s : State) : Stays s s.searchTrack := by
  unfold State.searchTrack
  split
  · exact .refl s
  · split <;> exact .engine s _

theorem stays_testGates (s : State) : Stays s s.testGates := by
  unfold State.testGates
  split
  · exact .ite (.engine s _) (.refl s)
  · exact .refl s

theorem stays_advanceEngine (s : State) : Stays s s.advanceEngine := by
  unfold State.advanceEngine
  split
  · split
    · have dropped : Stays s (s.setHand none) := .engine s _
      exact .ite ((dropped.trans (stays_searchTrack _)).trans (stays_testGates _)) (stays_testGates s)
    · exact (stays_searchTrack s).trans (stays_testGates _)
  · exact .refl s

theorem stays_relocRead (s : State) (r : ReadOrder) (read : Nat → Bool) : Stays s (s.relocRead r read) := by
  refine (stays_releaseRead s r.band).trans ?_
  unfold State.relocRead
  dsimp only
  split
  · exact .refl _
  · exact .engine _ _

theorem stays_relocTimedOut (s : State) (r : ReadOrder) : Stays s (s.relocTimedOut r) :=
  (stays_releaseRead s r.band).trans (.ite (.engine _ _) (.ite (stays_releaseBand _ _) (stays_abandonVictim _)))

theorem stays_selectVictim (s : State) : Stays s s.selectVictim := by
  unfold State.selectVictim
  split
  · split
    · exact stays_endRun s .ok
    · exact (.of_same : Stays s (s.modBand _ Band.cleaned)).trans (.engine _ _)
  · exact .refl s

theorem stays_makeRecords (s : State) : Stays s s.makeRecords := by
  unfold State.makeRecords
  split
  · split
    · refine .ite ?_ (.refl s)
      exact ((Stays.modQueue (by exact fun _ => rfl) s 15).trans (.engine _ _)).trans (stays_noteFalls _ s)
    · exact .refl s
  · exact .refl s

/-! ### Spindle Control (chapter 8) -/

theorem stays_startSpin (s : State) : Stays s s.startSpin := .spindle s _

theorem stays_release (s : State) : Stays s s.release := by
  unfold State.release
  split
  · exact stays_startSpin s
  · exact stays_startSpin s
  · exact .spindle s _
  · exact .spindle s _
  · exact .refl s
  · exact .refl s

theorem stays_returnSpinning (s : State) (x : Status) : Stays s (s.returnSpinning x) := by
  unfold State.returnSpinning
  dsimp only
  split
  · exact (Stays.spindle s _).trans (stays_answerAll _ _ _)
  · exact (Stays.spindle s _).trans ((stays_answerEntry _ _ _ _).trans (stays_answerAll _ _ _))

theorem stays_comeToRest (s : State) : Stays s s.comeToRest := by
  unfold State.comeToRest
  dsimp only
  cases s.spindle.quiesce with
  | none => exact .thenIf (.spindle s _) (stays_startSpin _)
  | some k => exact .thenIf ((Stays.spindle s _).trans (stays_answerEntry _ _ _ _)) (stays_startSpin _)

theorem stays_spunUp (s : State) : Stays s s.spunUp := by
  have answered : Stays s (State.answerAll { s with spindle := Spindle.turning } s.spindle.wakes .ok) :=
    (Stays.spindle s _).trans (stays_answerAll _ _ _)
  unfold State.spunUp
  dsimp only
  split
  · exact (Stays.thenIf answered (stays_raiseBoth _ _ _)).trans (.started StartStage.noConfusion)
  · exact .thenIf answered (stays_raiseBoth _ _ _)

theorem stays_spinFailed (s : State) : Stays s s.spinFailed := (Stays.spindle s _).trans (stays_answerAll _ _ _)

theorem stays_motionTimedOut (s : State) (m : Motion) : Stays s (s.motionTimedOut m) :=
  .ite (.ite (.spindle s _) (.refl s)) (stays_returnSpinning s _)

theorem stays_spindleDown (s : State) : Stays s s.spindleDown := by
  unfold State.spindleDown
  split
  · exact stays_spinFailed s
  · exact stays_returnSpinning s _
  · exact stays_returnSpinning s _
  · exact .refl s

/-! ### The Fetch Unit (chapter 6) -/

theorem stays_modSlot (s : State) (i : Fin 16) (f : FetchSlot → FetchSlot) : Stays s (s.modSlot i f) := .of_same

theorem stays_startGet (s : State) (k : Key) (i : Fin 16) (lsa count : Nat) (sectors : List SlotSector)
    (reads : List FetchRead) : Stays s (s.startGet k i lsa count sectors reads) := by
  have claimed : ∀ t, Stays t (reads.foldl (fun s r => s.claimRead r.band) t) := Stays.foldl (fun _ _ => .of_same) reads
  have taken : ∀ x, Stays s (reads.foldl (fun s r => s.claimRead r.band) ((s.enterTable k .get).modSlot i x)) := fun x =>
    ((stays_enterTable s k .get).trans (stays_modSlot _ i x)).trans (claimed _)
  exact .ite ((taken _).trans (.fetchList _ _)) (((taken _).trans (.fetchList _ _)).trans (stays_release _))

theorem stays_takeGet (s : State) (k : Key) (lsa count : Nat) : Stays s (s.takeGet k lsa count) := by
  unfold State.takeGet
  split
  · exact stays_answerNow _ _ _ _ _
  · split
    · exact stays_answerNow _ _ _ _ _
    · dsimp only
      split
      · exact stays_answerNow _ _ _ _ _
      · exact stays_startGet _ _ _ _ _ _ _

theorem stays_takePatternGet (s : State) (k : Key) (lsa count : Nat) : Stays s (s.takePatternGet k lsa count) :=
  .ite (stays_answerNow _ _ _ _ _) (.ite (stays_answerNow _ _ _ _ _) (stays_enterTable _ _ _))

theorem stays_failRead (s : State) (f : FetchRead) (left : List (Nat × Nat)) : Stays s (s.failRead f left) :=
  (.of_same : Stays s ((s.modSlot f.slot (FetchSlot.settle (left.map (·.2)) .mediaError)).setSuspect f.band)).trans
    (stays_releaseRead _ _)

theorem stays_fetchCompleted (s : State) (f : FetchRead) (read : Nat → Bool) : Stays s (s.fetchCompleted f read) := by
  unfold State.fetchCompleted
  refine .ite (.ite ((stays_modSlot s _ _).trans (stays_releaseRead _ _)) ?_) (stays_releaseRead _ _)
  split
  · exact (stays_modSlot s _ _).trans (.fetchList _ _)
  · exact (stays_modSlot s _ _).trans (stays_failRead _ _ _)

theorem stays_downRead (s : State) (f : FetchRead) : Stays s (s.downRead f) :=
  (Stays.ite (stays_modSlot s _ _) (.refl s)).trans (stays_releaseRead _ _)

theorem stays_fetchTimedOut (s : State) (f : FetchRead) (down : Bool) : Stays s (s.fetchTimedOut f down) :=
  .ite (stays_releaseRead _ _) (.ite (stays_failRead _ _ _) (.ite (stays_downRead _ _) (.fetchList _ _)))

theorem stays_fetchDown (s : State) : Stays s s.fetchDown := (Stays.fetchList s []).trans (.foldl stays_downRead _ _)

theorem stays_deliverSlot (s : State) (i : Fin 16) : Stays s (s.deliverSlot i) := by
  have sent : ∀ l fs, Stays s (s.modPort l fun p => { p with txq := p.txq ++ fs }) := fun l _ => .modPort (by exact fun _ => rfl) s l
  unfold State.deliverSlot
  dsimp only
  split
  · split
    · exact .refl s
    · exact .ite ((sent _ _).trans ((stays_answerEntry _ _ _ _).trans (stays_modSlot _ _ _)))
        ((sent _ _).trans (stays_modSlot _ _ _))
  · exact .refl s

theorem stays_deliverPattern (s : State) (e : ReqEntry) : Stays s (s.deliverPattern e) := by
  unfold State.deliverPattern
  split
  · have sent : ∀ es f, Stays s (State.pushFrame { s with table := es } e.reply f) := fun es f =>
      (Stays.table s es).trans (stays_pushFrame _ _ f)
    exact .ite (.refl s) (.thenIf (sent _ _) (stays_answerEntry _ _ _ _))
  · exact .refl s

theorem stays_deliver (s : State) : Stays s s.deliver :=
  (Stays.foldl stays_deliverSlot _ s).trans (.foldl stays_deliverPattern _ _)

theorem stays_cancelSlot (s : State) (i : Fin 16) : Stays s (s.cancelSlot i) := by
  have released : ∀ (l : List FetchRead) (t : State), Stays t (l.foldl (fun s r => s.releaseRead r.band) t) :=
    Stays.foldl fun s (r : FetchRead) => stays_releaseRead s r.band
  exact .ite (((Stays.fetchList s _).trans (released _ _)).trans (stays_modSlot _ _ _)) (.refl s)

theorem stays_freeEnded (s : State) : Stays s s.freeEnded := .mapSlots s _

theorem stays_fetchDelivered (s : State) (f : FetchRead) (position : Nat) (data : Sector) :
    Stays s (s.fetchDelivered f position data) := .ite (stays_modSlot s _ _) (.refl s)

/-! ### Start-up (R176 to R179) -/

theorem stays_clearReads (s : State) : Stays s s.clearReads :=
  (.of_same : Stays s (s.mapBands fun b => { b with pendingReads := 0 })).trans (stays_releaseEmptied _)

theorem stays_enterService (s : State) : Stays s s.enterService := by
  have closed : ∀ t : State, Stays t (t.mapBands fun b => b.skipRest.shut.uncleaned) := fun _ => .of_same
  exact .thenIf (((stays_clearReads s).trans (closed _)).trans (.started StartStage.noConfusion)) (stays_raiseBoth _ _ _)

theorem stays_nextFooter (s : State) : Stays s s.nextFooter := by
  unfold State.nextFooter
  split
  · exact stays_enterService s
  · exact .started StartStage.noConfusion

theorem stays_advanceStartUp (s : State) : Stays s s.advanceStartUp :=
  .ite (.ite ((stays_clearReads s).trans (stays_nextFooter _)) (stays_enterService s)) (.refl s)

theorem stays_insertFooterPiece (band base : Nat) (s : State) (p : FooterPiece) : Stays s (s.insertFooterPiece band base p) := by
  have inserted : ∀ (r : Inserted) x y, Stays s ((((s.setMap r.entries).noteHeadroom x y).raiseLost r.dropped).releaseEmptied) :=
    fun r x y => (((.of_same : Stays s (s.setMap r.entries)).trans (stays_noteHeadroom _ x y)).trans (stays_raiseLost _ _)).trans
      (stays_releaseEmptied _)
  exact inserted _ _ _

theorem stays_footerRead (s : State) (band track : Nat) (footer : Option Sector) : Stays s (s.footerRead band track footer) := by
  have counted : ∀ (t : State) f, Stays t (t.modBand band f) := fun _ _ => .of_same
  unfold State.footerRead
  refine Stays.trans ?_ (stays_nextFooter _)
  split
  · exact (Stays.foldl (stays_insertFooterPiece _ _) _ s).trans (counted _ _)
  · exact counted s _

/-! ### Orders failed (R101, R102, R105) -/

theorem stays_modProfile (s : State) (n : Nat) (f : Profile → Profile) : Stays s (s.modProfile n f) := by
  unfold State.modProfile
  split
  · exact .of_same
  · exact .refl s

theorem stays_geometryLost (s : State) (x : Status) (g : GeoOrder) : Stays s (s.geometryLost x g) := by
  unfold State.geometryLost
  split
  · exact (stays_modProfile s _ _).trans (stays_answerEntry _ _ _ _)
  · exact .refl s
  · exact .refl s

theorem stays_footerTimedOut (s : State) (r : ReadOrder) : Stays s (s.footerTimedOut r) :=
  .ite (.started StartStage.noConfusion) (stays_footerRead s _ _ _)

/-- What an order that has left the window leaves, when it is failed: the window, and the path, among others. -/
theorem stays_failOrder (s : State) (down : Bool) (o : Order) : Stays s (s.failOrder down o) := by
  cases o with
  | write w => exact stays_writeFailed s w
  | read r =>
    unfold State.failOrder
    dsimp only
    split
    · exact stays_fetchTimedOut s _ down
    · exact .ite (stays_releaseRead s _) (stays_relocTimedOut s r)
    · exact stays_footerTimedOut s r
  | geometry g => exact stays_geometryLost s _ g
  | motion m => exact stays_motionTimedOut s m

end Sys2Proof.Machine

namespace Sys2Proof.Machine

/-! PROOFS. What the entries into RECOVERING and DOWN leave, and how the orders they fail go to their owners (O47). -/

/-! ### The window emptied -/

/-- The orders of a list that is the window leave it empty. -/
theorem failOrders_window (down : Bool) (os : List Order) (s : State) (h : os = [] → s.window = []) :
    (failOrders down os s).window = [] := by
  induction os generalizing s with
  | nil => exact h rfl
  | cons o rest ih =>
    rw [failOrders_cons]
    refine ih _ fun hr => ?_
    exact (stays_failOrder { s with window := rest } down o).window.trans hr

theorem failOrders_path (down : Bool) (os : List Order) (s : State) : (failOrders down os s).path = s.path := by
  induction os generalizing s with
  | nil => rfl
  | cons o rest ih =>
    rw [failOrders_cons]
    exact (ih _).trans (stays_failOrder { s with window := rest } down o).path

/-! ### Notices through answers and the work of the engine -/

theorem pendingOnBoth_congr {s t : State} {k : Notice} (h : PendingOnBoth s k) (ha : t.portA = s.portA := by rfl)
    (hb : t.portB = s.portB := by rfl) : PendingOnBoth t k := fun l => by
  rw [State.port_congr ha hb]
  exact h l

theorem PendingOnBoth.modPort {s : State} {k : Notice} (h : PendingOnBoth s k) (l : Link) {f : Port → Port}
    (hf : ∀ p, (f p).pending = p.pending) : PendingOnBoth (s.modPort l f) k := by
  intro m
  obtain ⟨n, hn, hk⟩ := h m
  refine ⟨n, ?_, hk⟩
  cases l <;> cases m
  case a.a | b.b => exact (hf _).symm ▸ hn
  all_goals exact hn

theorem PendingOnBoth.answerEntry {s : State} {k : Notice} (h : PendingOnBoth s k) (x : Key) (st : Status) (r : Result) :
    PendingOnBoth (s.answerEntry x st r) k := by
  unfold State.answerEntry
  split
  · exact h
  · split
    · exact h
    · split
      · exact pendingOnBoth_congr h
      · exact PendingOnBoth.modPort (s := s.modEntry x _) (pendingOnBoth_congr h) _ fun _ => rfl

theorem PendingOnBoth.answerAll {s : State} {k : Notice} (h : PendingOnBoth s k) (xs : List Key) (st : Status) :
    PendingOnBoth (s.answerAll xs st) k := by
  induction xs generalizing s with
  | nil => exact h
  | cons x xs ih => exact ih (h.answerEntry x st .none)

/-- t differs from s in the bands, the engine, the Request Table and the link ports alone, and takes no notice out of a pending
set on both links. -/
structure EngineWork (s t : State) : Prop where
  only : ∃ bs e tb a b, t = { s with bands := bs, engine := e, table := tb, portA := a, portB := b }
  notices : ∀ k, PendingOnBoth s k → PendingOnBoth t k

namespace EngineWork
variable {s t u : State}

theorem refl (s : State) : EngineWork s s := ⟨⟨_, _, _, _, _, rfl⟩, fun _ h => h⟩

theorem trans (h : EngineWork s t) (g : EngineWork t u) : EngineWork s u where
  only := by
    obtain ⟨_, _, _, _, _, rfl⟩ := h.only
    obtain ⟨_, _, _, _, _, rfl⟩ := g.only
    exact ⟨_, _, _, _, _, rfl⟩
  notices := fun k hk => g.notices k (h.notices k hk)

/-- A change of the bands and the engine. -/
theorem records (s : State) (bs : List Band) (e : Engine) : EngineWork s { s with bands := bs, engine := e } :=
  ⟨⟨_, _, _, _, _, rfl⟩, fun _ h => pendingOnBoth_congr h⟩

theorem foldl {α : Type} {f : State → α → State} (h : ∀ s a, EngineWork s (f s a)) (l : List α) (s : State) :
    EngineWork s (l.foldl f s) := by
  induction l generalizing s with
  | nil => exact refl s
  | cons a l ih => exact (h s a).trans (ih (f s a))

theorem ite {c : Prop} [Decidable c] (ht : EngineWork s t) (hu : EngineWork s u) : EngineWork s (if c then t else u) := by
  split
  · exact ht
  · exact hu

end EngineWork

theorem engineWork_answerEntry (s : State) (k : Key) (x : Status) (r : Result) : EngineWork s (s.answerEntry k x r) := by
  obtain ⟨_, _, _, only⟩ := answerEntry_only s k x r
  exact ⟨⟨_, _, _, _, _, only⟩, fun _ h => h.answerEntry k x r⟩

theorem engineWork_endRun (s : State) (x : Status) : EngineWork s (s.endRun x) := by
  unfold State.endRun
  dsimp only
  split
  · exact .records s s.bands _
  · exact (EngineWork.records s s.bands _).trans (engineWork_answerEntry _ _ _ _)

theorem engineWork_continueRun (s : State) : EngineWork s s.continueRun := .ite (.records s s.bands _) (engineWork_endRun s .ok)

theorem engineWork_victimReleased (s : State) : EngineWork s s.victimReleased :=
  (EngineWork.records s s.bands { s.engine with deferred := none }).trans
    (.ite (engineWork_endRun _ _) (engineWork_continueRun _))

theorem engineWork_raiseBoth (s : State) (k : Notice) (d : Nat) : EngineWork s (s.raiseBoth k d) :=
  ⟨⟨_, _, _, _, _, rfl⟩, fun _ h => h.raiseBoth k d⟩

theorem engineWork_releaseBand (s : State) (b : Nat) : EngineWork s (s.releaseBand b) := by
  have released : EngineWork s ((s.modBand b Band.released).raiseBoth .relocationDone b) :=
    (EngineWork.records s _ s.engine).trans (engineWork_raiseBoth _ _ _)
  exact .ite (released.trans (engineWork_victimReleased _)) released

theorem engineWork_releaseEmptied (s : State) : EngineWork s s.releaseEmptied := by
  refine .foldl (fun s x => ?_) _ s
  exact engineWork_releaseBand s x.2

theorem engineWork_clearReads (s : State) : EngineWork s s.clearReads :=
  (EngineWork.records s _ s.engine).trans (engineWork_releaseEmptied _)

/-! ### Service entered (R179) -/

/-- The entry into service, behind the work of the engine and the bands. -/
theorem enterService_only (s : State) : ∃ t, EngineWork s t ∧
    s.enterService = { t with service := .inService, stage := .done, startWait := false } := by
  have closed : EngineWork s (s.clearReads.mapBands fun b => b.skipRest.shut.uncleaned) :=
    (engineWork_clearReads s).trans (.records _ _ s.clearReads.engine)
  unfold State.enterService
  dsimp only
  split
  · exact ⟨_, closed.trans (engineWork_raiseBoth _ .mapLow _), rfl⟩
  · exact ⟨_, closed, rfl⟩

/-! ### The entry into DOWN (R105) -/

/-- What an entry into DOWN leaves of the media path and of what waited for it. -/
structure LeftDown (s : State) : Prop where
  path : s.path = .down
  window : s.window = []
  deadline : s.deadline = none
  recoveryWait : s.recoveryWait = false
  startWait : s.startWait = false
  escalation : s.escalation = false
  mediaReset : s.mediaReset = true
  fetchList : s.fetchList = []
  geometry : s.geometry = []
  spindle : s.spindle.state ≠ .starting
  notice : PendingOnBoth s .mediaDown

theorem LeftDown.enterService {s : State} (h : LeftDown s) : LeftDown s.enterService := by
  obtain ⟨t, work, he⟩ := enterService_only s
  have notice : PendingOnBoth { t with service := .inService, stage := .done, startWait := false } .mediaDown :=
    pendingOnBoth_congr (work.notices _ h.notice)
  rw [he]
  obtain ⟨_, _, _, _, _, rfl⟩ := work.only
  exact ⟨h.path, h.window, h.deadline, h.recoveryWait, rfl, h.escalation, h.mediaReset, h.fetchList, h.geometry, h.spindle, notice⟩

theorem releaseRead_only (s : State) (b : Nat) : ∃ bs e, s.releaseRead b = { s with bands := bs, engine := e } := by
  unfold State.releaseRead
  dsimp only
  split
  · exact ⟨_, _, rfl⟩
  · exact ⟨_, _, rfl⟩

theorem downRead_only (s : State) (f : FetchRead) : ∃ xs bs e, s.downRead f = { s with slots := xs, bands := bs, engine := e } := by
  unfold State.downRead
  dsimp only
  split
  all_goals
    obtain ⟨_, _, only⟩ := releaseRead_only _ f.band
    exact ⟨_, _, _, only⟩

theorem downReads_only (fs : List FetchRead) (s : State) :
    ∃ xs bs e, fs.foldl State.downRead s = { s with slots := xs, bands := bs, engine := e } := by
  induction fs generalizing s with
  | nil => exact ⟨_, _, _, rfl⟩
  | cons f fs ih =>
    obtain ⟨_, _, _, first⟩ := downRead_only s f
    obtain ⟨_, _, _, rest⟩ := ih (s.downRead f)
    rw [List.foldl_cons, rest, first]
    exact ⟨_, _, _, rfl⟩

theorem modProfile_only (s : State) (n : Nat) (f : Profile → Profile) : ∃ ps, s.modProfile n f = { s with profiles := ps } := by
  unfold State.modProfile
  split
  · exact ⟨_, rfl⟩
  · exact ⟨_, rfl⟩

theorem geometryLost_only (s : State) (x : Status) (g : GeoOrder) :
    ∃ ps tb a b, s.geometryLost x g = { s with profiles := ps, table := tb, portA := a, portB := b } := by
  unfold State.geometryLost
  split
  · next k _ =>
    obtain ⟨_, profiled⟩ := modProfile_only s g.profile Profile.back
    obtain ⟨_, _, _, answered⟩ := answerEntry_only (s.modProfile g.profile Profile.back) k x .none
    rw [answered, profiled]
    exact ⟨_, _, _, _, rfl⟩
  · exact ⟨_, _, _, _, rfl⟩
  · exact ⟨_, _, _, _, rfl⟩

theorem geometriesLost_only (x : Status) (gs : List GeoOrder) (s : State) :
    ∃ ps tb a b, gs.foldl (fun s g => s.geometryLost x g) s = { s with profiles := ps, table := tb, portA := a, portB := b } := by
  induction gs generalizing s with
  | nil => exact ⟨_, _, _, _, rfl⟩
  | cons g gs ih =>
    obtain ⟨_, _, _, _, first⟩ := geometryLost_only s x g
    obtain ⟨_, _, _, _, rest⟩ := ih (s.geometryLost x g)
    rw [List.foldl_cons, rest, first]
    exact ⟨_, _, _, _, rfl⟩

theorem returnSpinning_only (s : State) (x : Status) :
    ∃ tb a b, s.returnSpinning x = { s with spindle := Spindle.turning, table := tb, portA := a, portB := b } := by
  unfold State.returnSpinning
  dsimp only
  split
  · exact answerAll_only _ _ _
  · next k _ =>
    obtain ⟨_, _, _, quiesce⟩ := answerEntry_only { s with spindle := Spindle.turning } k x .none
    obtain ⟨_, _, _, wakes⟩ :=
      answerAll_only (State.answerEntry { s with spindle := Spindle.turning } k x .none) s.spindle.wakes .ok
    rw [wakes, quiesce]
    exact ⟨_, _, _, rfl⟩

theorem spindleDown_only (s : State) : ∃ x tb a b, s.spindleDown = { s with spindle := x, table := tb, portA := a, portB := b } ∧
    x.state ≠ .starting := by
  unfold State.spindleDown
  split
  · unfold State.spinFailed
    obtain ⟨_, _, _, only⟩ := answerAll_only { s with spindle := { s.spindle with
      state := if s.spindle.resting = some .parked then .parked else .stopped
      wakeTimer := none, attempts := none, wakes := [], motion := none } } s.spindle.wakes .mediaDown
    refine ⟨_, _, _, _, only, ?_⟩
    dsimp only
    split <;> exact SpindleState.noConfusion
  · obtain ⟨_, _, _, only⟩ := returnSpinning_only s .mediaDown
    exact ⟨_, _, _, _, only, SpindleState.noConfusion⟩
  · obtain ⟨_, _, _, only⟩ := returnSpinning_only s .mediaDown
    exact ⟨_, _, _, _, only, SpindleState.noConfusion⟩
  · next h _ _ => exact ⟨_, _, _, _, rfl, h⟩

/-- The reads listed, the GEOMETRY orders waiting and the spindle's motion, withdrawn at an entry into DOWN. -/
def State.withdrawn (s : State) : State :=
  (s.geometry.foldl (fun s g => s.geometryLost .mediaDown g) (State.fetchDown { s with geometry := [] })).spindleDown

/-- The end of an entry into DOWN: the path's timers stop, media reset is asserted, and the notice and the Media Restarts follow. -/
def State.downEnds (s : State) : State :=
  (State.raiseBoth { s with
    deadline := none, recoveryWait := false, startWait := false, escalation := false, mediaReset := true } .mediaDown 0).answerAll
      s.mediaRestarts .mediaDown

theorem withdrawAll_eq (s : State) : s.withdrawAll = s.withdrawn.downEnds := rfl

theorem withdrawn_only (s : State) : ∃ xs bs e ps tb a b x, s.withdrawn = { s with
    geometry := [], fetchList := [], slots := xs, bands := bs, engine := e, profiles := ps, table := tb, portA := a, portB := b
    spindle := x } ∧ x.state ≠ .starting := by
  obtain ⟨_, _, _, reads⟩ := downReads_only s.fetchList { s with geometry := [], fetchList := [] }
  obtain ⟨_, _, _, _, loads⟩ := geometriesLost_only .mediaDown s.geometry (State.fetchDown { s with geometry := [] })
  obtain ⟨x, _, _, _, spun, hx⟩ := spindleDown_only
    (s.geometry.foldl (fun s g => s.geometryLost .mediaDown g) (State.fetchDown { s with geometry := [] }))
  rw [State.withdrawn, spun, loads]
  generalize hy : State.fetchDown { s with geometry := [] } = y
  obtain rfl := hy.symm.trans reads
  exact ⟨_, _, _, _, _, _, _, x, rfl, hx⟩

theorem downEnds_only (s : State) : ∃ tb a b, s.downEnds = { s with
    deadline := none, recoveryWait := false, startWait := false, escalation := false, mediaReset := true
    table := tb, portA := a, portB := b } := by
  obtain ⟨_, _, _, answered⟩ := answerAll_only (State.raiseBoth { s with
    deadline := none, recoveryWait := false, startWait := false, escalation := false, mediaReset := true } .mediaDown 0)
    s.mediaRestarts .mediaDown
  exact ⟨_, _, _, answered⟩

theorem leftDown_withdrawAll {s : State} (hp : s.path = .down) (hw : s.window = []) : LeftDown s.withdrawAll := by
  have notice : PendingOnBoth s.withdrawn.downEnds .mediaDown := (pendingOnBoth_raiseBoth _ _ _).answerAll _ _
  obtain ⟨_, _, _, ended⟩ := downEnds_only s.withdrawn
  obtain ⟨_, _, _, _, _, _, _, x, withdrawn, hx⟩ := withdrawn_only s
  rw [withdrawAll_eq]
  rw [ended, withdrawn] at notice ⊢
  exact ⟨hp, hw, rfl, rfl, rfl, rfl, rfl, rfl, rfl, hx, notice⟩

theorem leftDown_enterDown (s : State) : LeftDown s.enterDown := by
  have down : LeftDown (failOrders true s.window { s with path := .down }).withdrawAll :=
    leftDown_withdrawAll (failOrders_path true s.window { s with path := .down })
      (failOrders_window true s.window { s with path := .down } fun h => h)
  unfold State.enterDown
  dsimp only
  split
  · exact down.enterService
  · exact down

/-! ### The entry into RECOVERING (R101) -/

/-- The entry into RECOVERING, but for an entry into DOWN that follows a second failure of a spin-up. -/
def State.recovering (s : State) : State :=
  State.raiseBoth { s with
    deadline := none, mediaReset := false, recoveryWait := true, geometry := s.geometry.filter GeoOrder.forLoad } .mediaRecovering 0

theorem enterRecovering_first {s : State} (h : s.secondSpinFailure = false) :
    s.enterRecovering = (failOrders false s.window { s with path := .recovering }).recovering := if_neg (by simp [h])

theorem enterRecovering_second {s : State} (h : s.secondSpinFailure = true) :
    s.enterRecovering = (failOrders false s.window { s with path := .recovering }).recovering.enterDown := if_pos h

/-- What an entry into RECOVERING leaves of the media path and of what waited for it. -/
theorem enterRecovering_leaves {s : State} (h : s.secondSpinFailure = false) :
    s.enterRecovering.path = .recovering ∧ s.enterRecovering.window = [] ∧ s.enterRecovering.deadline = none ∧
      s.enterRecovering.recoveryWait = true ∧ (∀ g ∈ s.enterRecovering.geometry, g.forLoad = true) ∧
      PendingOnBoth s.enterRecovering .mediaRecovering := by
  rw [enterRecovering_first h]
  exact ⟨failOrders_path false s.window { s with path := .recovering },
    failOrders_window false s.window { s with path := .recovering } fun h => h, rfl, rfl,
    fun g hg => (List.mem_filter.mp hg).2, pendingOnBoth_raiseBoth _ _ _⟩

/-! ### One order after another -/

/-- An order, out of the window already, failed and handed to its owner; the reset in progress waits for one order less. -/
theorem enterDown_cons {s : State} {o : Order} {rest : List Order} (h : s.window = o :: rest) :
    s.enterDown = State.enterDown (State.failOrder { s with window := rest, path := .down } true o).orderLeft := by
  have stays := stays_failOrder { s with window := rest, path := .down } true o
  generalize hy : State.failOrder { s with window := rest, path := .down } true o = y at stays
  have same : { y.orderLeft with path := .down } = y.orderLeft := by
    rw [← show y.orderLeft.path = .down from stays.path]
  have left : y.orderLeft.window = rest := stays.window
  unfold State.enterDown
  rw [h, failOrders_cons, hy, same, left]

theorem enterRecovering_cons {s : State} {o : Order} {rest : List Order} (h : s.window = o :: rest)
    (hs : s.secondSpinFailure = false) (hm : ∀ m, Order.motion m ∉ rest) :
    s.enterRecovering = State.enterRecovering (State.failOrder { s with window := rest, path := .recovering } false o).orderLeft := by
  have stays := stays_failOrder { s with window := rest, path := .recovering } false o
  generalize hy : State.failOrder { s with window := rest, path := .recovering } false o = y at stays
  have same : { y.orderLeft with path := .recovering } = y.orderLeft := by
    rw [← show y.orderLeft.path = .recovering from stays.path]
  have left : y.orderLeft.window = rest := stays.window
  have first : y.orderLeft.secondSpinFailure = false := by
    rw [State.secondSpinFailure, left, Bool.and_eq_false_iff, List.any_eq_false]
    refine .inr fun x hx => ?_
    cases x with
    | motion m => exact absurd hx (hm m)
    | _ => exact Bool.false_ne_true
  rw [enterRecovering_first hs, enterRecovering_first first, h, failOrders_cons, hy, same, left]

end Sys2Proof.Machine

namespace Sys2Proof.Machine

/-! PROOFS. What the hand-over of a failed order to its owner leaves, and the orders failed and withdrawn at the entries into RECOVERING
and DOWN (O47). -/

/-! ### The bands as start-up leaves them (R178, R179) -/

/-- The release of some bands, each named once. -/
theorem releaseBands_bands {l : List (Band × Nat)} {s : State} (hl : (l.map (·.2)).Nodup) (j : Nat) :
    (l.foldl (fun s x => s.releaseBand x.2) s).bands[j]? =
      (s.bands[j]?).map fun c => if j ∈ l.map (·.2) then c.released else c := by
  induction l generalizing s with
  | nil => simp
  | cons x l ih =>
    obtain ⟨hx, hl⟩ := List.nodup_cons.mp hl
    rw [List.foldl_cons, ih hl, releaseBand_bands, List.getElem?_modify, Option.map_eq_map, Option.map_map]
    congr 1
    funext c
    by_cases hj : x.2 = j
    · subst hj
      simp [hx]
    · simp only [Function.comp_apply, if_neg hj, List.map_cons, List.mem_cons, Ne.symm hj, false_or]

/-- A band behind the release of the emptied ones (R17). -/
def Band.leftCleaning (b : Band) : Band := if b.emptied then b.released else b

theorem releaseEmptied_bands (s : State) : s.releaseEmptied.bands = s.bands.map Band.leftCleaning := by
  have once : ((s.bands.zipIdx.filter fun x => x.1.emptied).map (·.2)).Nodup := by
    refine List.Nodup.sublist (List.filter_sublist.map _) ?_
    rw [List.zipIdx_map_snd]
    exact List.nodup_range'
  refine List.ext_getElem? fun j => ?_
  rw [State.releaseEmptied, releaseBands_bands once, List.getElem?_map]
  cases hb : s.bands[j]? with
  | none => rfl
  | some b =>
    have named : j ∈ (s.bands.zipIdx.filter fun x => x.1.emptied).map (·.2) ↔ b.emptied = true := by
      simp [List.mem_zipIdx_iff_getElem?, hb]
    simp [Band.leftCleaning, named]

/-- A band as the entry into service leaves it. -/
def Band.served (b : Band) : Band := (Band.leftCleaning { b with pendingReads := 0 }).skipRest.shut.uncleaned

theorem enterService_bands (s : State) : s.enterService.bands = s.bands.map Band.served := by
  have closed : (s.clearReads.mapBands fun b => b.skipRest.shut.uncleaned).bands = s.bands.map Band.served := by
    rw [State.clearReads, State.mapBands, releaseEmptied_bands, State.mapBands, List.map_map, List.map_map]
    rfl
  unfold State.enterService
  dsimp only
  split
  · exact closed
  · exact closed

theorem Band.skipRest_counts (b : Band) : b.skipRest.issued = b.issued ∧ b.issued ≤ b.skipRest.completed ∧
    b.skipRest.state = b.state ∧ b.skipRest.prior = b.prior ∧ b.skipRest.pendingReads = b.pendingReads := by
  unfold Band.skipRest
  split
  · exact ⟨rfl, Nat.le_refl _, rfl, rfl, rfl⟩
  · exact ⟨rfl, by omega, rfl, rfl, rfl⟩

/-- A band shut and taken out of CLEANING keeps its counts, its flags and its pending reads. -/
theorem Band.shut_uncleaned_counts (b : Band) : b.shut.uncleaned.issued = b.issued ∧ b.shut.uncleaned.completed = b.completed ∧
    b.shut.uncleaned.skipped = b.skipped ∧ b.shut.uncleaned.retire = b.retire ∧
      b.shut.uncleaned.pendingReads = b.pendingReads := by
  unfold Band.shut Band.uncleaned
  split <;> split <;> exact ⟨rfl, rfl, rfl, rfl, rfl⟩

/-- A band shut and taken out of CLEANING is neither OPEN nor CLEANING. -/
theorem Band.shut_uncleaned_state {b : Band} (ho : b.prior ≠ some .opened) (hc : b.prior ≠ some .cleaning) :
    b.shut.uncleaned.state ≠ .opened ∧ b.shut.uncleaned.state ≠ .cleaning := by
  have prior : ∀ p, p ≠ some .opened → p ≠ some .cleaning → p.getD BandState.full ≠ .opened ∧ p.getD .full ≠ .cleaning := by
    rintro (_ | p) ho hc
    · decide
    · exact ⟨fun h => ho (congrArg some h), fun h => hc (congrArg some h)⟩
  by_cases hs : b.state = .opened
  · simp [Band.shut, Band.uncleaned, hs]
  · by_cases hk : b.state = .cleaning
    · simpa [Band.shut, Band.uncleaned, hk] using prior _ ho hc
    · simp [Band.shut, Band.uncleaned, hs, hk]

theorem Band.leftCleaning_pendingReads (b : Band) : b.leftCleaning.pendingReads = b.pendingReads := by
  unfold Band.leftCleaning
  split
  · rfl
  · rfl

theorem Band.leftCleaning_prior {b : Band} {x : BandState} (h : b.prior ≠ some x) : b.leftCleaning.prior ≠ some x := by
  unfold Band.leftCleaning
  split
  · exact nofun
  · exact h

/-- In service no band has a track in flight. -/
theorem Band.served_settled (b : Band) : b.served.issued ≤ b.served.completed := by
  obtain ⟨issued, completed, _, _, _⟩ := (Band.leftCleaning { b with pendingReads := 0 }).skipRest.shut_uncleaned_counts
  obtain ⟨same, reached, _, _, _⟩ := (Band.leftCleaning { b with pendingReads := 0 }).skipRest_counts
  unfold Band.served
  rw [issued, completed, same]
  exact reached

/-- In service no band is OPEN or CLEANING or has a pending read. -/
theorem Band.served_state {b : Band} (ho : b.prior ≠ some .opened) (hc : b.prior ≠ some .cleaning) :
    b.served.state ≠ .opened ∧ b.served.state ≠ .cleaning ∧ b.served.pendingReads = 0 := by
  obtain ⟨_, _, _, prior, reads⟩ := (Band.leftCleaning { b with pendingReads := 0 }).skipRest_counts
  obtain ⟨_, _, _, _, kept⟩ := (Band.leftCleaning { b with pendingReads := 0 }).skipRest.shut_uncleaned_counts
  obtain ⟨opened, cleaning⟩ := Band.shut_uncleaned_state
    (prior ▸ Band.leftCleaning_prior ho : (Band.leftCleaning { b with pendingReads := 0 }).skipRest.prior ≠ _)
    (prior ▸ Band.leftCleaning_prior hc)
  exact ⟨opened, cleaning, kept.trans (reads.trans (Band.leftCleaning_pendingReads _))⟩

/-- A band not CLEANING, with no track in flight, keeps its counts and its flags at the entry into service. -/
theorem Band.served_counts {b : Band} (hs : b.state ≠ .cleaning) (hc : b.issued ≤ b.completed) :
    b.served.issued = b.issued ∧ b.served.completed = b.completed ∧ b.served.skipped = b.skipped ∧ b.served.retire = b.retire := by
  have stays : (Band.leftCleaning { b with pendingReads := 0 }).skipRest = { b with pendingReads := 0 } := by
    simp [Band.leftCleaning, Band.emptied, hs, Band.skipRest, Nat.not_lt.mpr hc]
  obtain ⟨issued, completed, skipped, retire, _⟩ := Band.shut_uncleaned_counts { b with pendingReads := 0 }
  rw [Band.served, stays]
  exact ⟨issued, completed, skipped, retire⟩

/-! ### The next footer, or service (R178, R179) -/

theorem nextFooter_none {s : State} (h : ∀ b ∈ s.bands, b.issued ≤ b.completed) : s.nextFooter = s.enterService := by
  have none : (s.bands.findIdx? fun b => b.completed < b.issued) = none := by
    rw [List.findIdx?_eq_none_iff]
    intro b hb
    simpa using h b hb
  simp [State.nextFooter, none]

/-- A band with a track in flight, the first, has the footer of that track read next. -/
theorem nextFooter_some {s : State} {i : Nat} {v : Band} (hi : s.bands[i]? = some v) (hv : v.completed < v.issued)
    (first : ∀ j u, j < i → s.bands[j]? = some u → u.issued ≤ u.completed) :
    s.nextFooter = { s with stage := .reconcile i v.completed 0 false [] } := by
  have found : (s.bands.findIdx? fun b => b.completed < b.issued) = some i := by
    rw [List.findIdx?_eq_some_iff_getElem]
    obtain ⟨hl, rfl⟩ := List.getElem?_eq_some_iff.mp hi
    refine ⟨hl, by simpa using hv, fun j hj => ?_⟩
    simpa using first j _ hj (List.getElem?_eq_getElem (by omega))
  simp [State.nextFooter, found, hi]

theorem enterService_headroom (s : State) (h : s.enterService.headroom < 65536) : PendingOnBoth s.enterService .mapLow := by
  unfold State.enterService at h ⊢
  dsimp only at h ⊢
  split
  · exact pendingOnBoth_raiseBoth _ _ _
  · next hl =>
    rw [if_neg hl] at h
    exact absurd h hl

/-- Either no band has a track in flight, or one is the first that has. -/
theorem settled_or_first (bs : List Band) : (∀ b ∈ bs, b.issued ≤ b.completed) ∨ ∃ (i : Nat) (v : Band),
    bs[i]? = some v ∧ v.completed < v.issued ∧ ∀ (j : Nat) (u : Band), j < i → bs[j]? = some u → u.issued ≤ u.completed := by
  cases h : bs.findIdx? fun b => b.completed < b.issued with
  | none =>
    rw [List.findIdx?_eq_none_iff] at h
    exact .inl fun b hb => by simpa using h b hb
  | some i =>
    rw [List.findIdx?_eq_some_iff_getElem] at h
    obtain ⟨hl, hv, first⟩ := h
    refine .inr ⟨i, bs[i], List.getElem?_eq_getElem hl, by simpa using hv, fun j u hj hu => ?_⟩
    obtain ⟨_, rfl⟩ := List.getElem?_eq_some_iff.mp hu
    simpa using first j hj

/-- A footer read that brought no footer, the part being in service behind it. -/
theorem footerTaken_served {s : State} {band track : Nat} {b : Band} (h : Reconciled s band b) :
    FooterTaken s band track b none (s.modBand band Band.skipRest).enterService := by
  obtain ⟨hb, hc, hi, hp⟩ := h
  have bands := enterService_bands (s.modBand band Band.skipRest)
  have settled : ∀ v ∈ (s.modBand band Band.skipRest).enterService.bands, v.issued ≤ v.completed := by
    rw [bands]
    intro v hv
    obtain ⟨c, _, rfl⟩ := List.mem_map.mp hv
    exact c.served_settled
  have prior : ∀ c ∈ (s.modBand band Band.skipRest).bands, c.prior ≠ some .opened ∧ c.prior ≠ some .cleaning := by
    intro c hm
    obtain ⟨j, hj⟩ := List.mem_iff_getElem?.mp hm
    rw [State.modBand, List.getElem?_modify] at hj
    obtain ⟨u, hu, rfl⟩ := Option.map_eq_some_iff.mp hj
    obtain ⟨_, _, _, same, _⟩ := u.skipRest_counts
    split
    · exact same ▸ hp u (List.mem_of_getElem? hu)
    · exact hp u (List.mem_of_getElem? hu)
  obtain ⟨y, work, entered⟩ := enterService_only (s.modBand band Band.skipRest)
  have fields : (s.modBand band Band.skipRest).enterService.map = s.map ∧
      (s.modBand band Band.skipRest).enterService.service = .inService ∧
      (s.modBand band Band.skipRest).enterService.stage = .done := by
    obtain ⟨_, _, _, _, _, rfl⟩ := work.only
    rw [entered]
    exact ⟨rfl, rfl, rfl⟩
  obtain ⟨map, service, stage⟩ := fields
  refine ⟨nofun, fun _ => ⟨map, fun v hv => ?_⟩, fun i v hv hlt => ?_, fun _ => ⟨service, stage, fun v hv => ?_,
    enterService_headroom _⟩⟩
  · rw [bands, List.getElem?_map, State.modBand, List.getElem?_modify_eq, hb] at hv
    obtain rfl := Option.some.inj hv
    obtain ⟨same, reached, state, _, _⟩ := b.skipRest_counts
    obtain ⟨issued, completed, skipped, retire⟩ := Band.served_counts (b := b.skipRest) (by rwa [state]) (by rwa [same])
    rw [issued, completed, skipped, retire]
    simp +contextual [Band.skipRest, hi]
  · exact absurd (settled v (List.mem_of_getElem? hv)) (Nat.not_le.mpr hlt)
  · rw [bands] at hv
    obtain ⟨c, hm, rfl⟩ := List.mem_map.mp hv
    exact Band.served_state (prior c hm).1 (prior c hm).2

/-- A footer read that brought no footer, a track being in flight behind it: the first such track is read next. -/
theorem footerTaken_next {s : State} {band track i : Nat} {b v : Band} (h : Reconciled s band b)
    (hi : (s.modBand band Band.skipRest).bands[i]? = some v) (hv : v.completed < v.issued)
    (first : ∀ j u, j < i → (s.modBand band Band.skipRest).bands[j]? = some u → u.issued ≤ u.completed) :
    FooterTaken s band track b none { s.modBand band Band.skipRest with stage := .reconcile i v.completed 0 false [] } := by
  obtain ⟨hb, _, hlt, _⟩ := h
  refine ⟨nofun, fun _ => ⟨rfl, fun u hu => ?_⟩, fun j u hj hu least => ?_, fun settled => ?_⟩
  · have here : (s.bands.modify band Band.skipRest)[band]? = some u := hu
    rw [List.getElem?_modify_eq, hb] at here
    obtain rfl := Option.some.inj here
    simp +contextual [Band.skipRest, hlt]
  · obtain hji | rfl | hij := Nat.lt_trichotomy j i
    · exact absurd (first j u hji hj) (Nat.not_le.mpr hu)
    · obtain rfl := Option.some.inj (hj.symm.trans hi)
      exact ⟨rfl, rfl⟩
    · exact absurd (least i v hij hi) (Nat.not_le.mpr hv)
  · exact absurd (settled v (List.mem_of_getElem? hi)) (Nat.not_le.mpr hv)

/-- A footer read that brought no footer (R178). -/
theorem footerTaken_none {s : State} {band track : Nat} {b : Band} (h : Reconciled s band b) :
    FooterTaken s band track b none (s.footerRead band track none) := by
  have skipped : s.footerRead band track none = (s.modBand band Band.skipRest).nextFooter := rfl
  rw [skipped]
  obtain hs | ⟨i, v, hi, hv, first⟩ := settled_or_first (s.modBand band Band.skipRest).bands
  · rw [nextFooter_none hs]
    exact footerTaken_served h
  · rw [nextFooter_some hi hv first]
    exact footerTaken_next h hi hv first

/-! ### A relocation read that timed out a second time (R134, R135) -/

theorem releaseBand_notice (s : State) (b : Nat) : PendingOnBoth (s.releaseBand b) .relocationDone := by
  have raised : PendingOnBoth ((s.modBand b Band.released).raiseBoth .relocationDone b) .relocationDone :=
    pendingOnBoth_raiseBoth _ _ _
  unfold State.releaseBand
  dsimp only
  split
  · exact (engineWork_victimReleased _).notices _ raised
  · exact raised

theorem flaggedCandidate_iff (s : State) : s.flaggedCandidate = true ↔ ∃ i u, s.bands[i]? = some u ∧ u.candidate = true ∧
    (u.retire = true ∨ u.suspect = true) ∧ s.engine.deferred ≠ some i := by
  simp only [State.flaggedCandidate, List.any_eq_true, List.mem_zipIdx_iff_getElem?, Bool.and_eq_true, Bool.or_eq_true,
    bne_iff_ne, and_assoc, Prod.exists]
  exact exists_comm

theorem goesOn_iff (s : State) :
    GoesOn s ↔ s.bands.any Band.candidate ∧ (s.freeBands < s.marks.high ∨ s.flaggedCandidate) := by
  rw [GoesOn, List.any_eq_true, flaggedCandidate_iff]

/-- The victim abandoned, before its run ends or goes on. -/
theorem abandonVictim_eq {s : State} {v : Nat} {b : Band} {prior : BandState} (hv : s.engine.victim = some v)
    (hb : s.bands[v]? = some b) (hs : b.state = .cleaning) (hp : b.prior = some prior) :
    s.abandonVictim =
      if s.engine.run = some .single then (s.abandoned v prior).endRun .mediaError else (s.abandoned v prior).continueRun := by
  have bands : (s.bands.modify v fun r => { r.uncleaned with suspect := true }) =
      s.bands.modify v fun u => { u with state := prior, prior := none, suspect := true } := by
    refine List.ext_getElem? fun j => ?_
    rw [List.getElem?_modify, List.getElem?_modify]
    by_cases hj : v = j
    · subst hj
      simp [hb, Band.uncleaned, hs, hp]
    · simp [hj]
  simp only [State.abandonVictim, hv, State.modBand, bands]
  rfl

theorem releaseRead_band {s : State} {v : Nat} {b : Band} (hb : s.bands[v]? = some b) :
    (s.releaseRead v).bands[v]? = some { b with pendingReads := b.pendingReads - 1 } := by
  have bands : (s.releaseRead v).bands = s.bands.modify v fun r => { r with pendingReads := r.pendingReads - 1 } := by
    unfold State.releaseRead
    dsimp only
    split
    · rfl
    · rfl
  simp [bands, hb]

/-- A pending read released leaves the engine's victim and its run. -/
theorem releaseRead_engine (s : State) (v : Nat) : (s.releaseRead v).engine.victim = s.engine.victim ∧
    (s.releaseRead v).engine.run = s.engine.run ∧ (s.releaseRead v).engine.clean = s.engine.clean := by
  unfold State.releaseRead
  dsimp only
  split
  · exact ⟨rfl, rfl, rfl⟩
  · exact ⟨rfl, rfl, rfl⟩

theorem emptied_of_release {b : Band} (hs : b.state = .cleaning) :
    Band.emptied { b with pendingReads := b.pendingReads - 1 } = true ↔ b.valid = 0 ∧ b.pendingReads ≤ 1 := by
  simp [Band.emptied, hs, Nat.sub_eq_zero_iff_le]

/-- A relocation read, timed out a second time, whose release empties its victim. -/
theorem relocTimedOut_emptied {s : State} {r : ReadOrder} {b : Band} (ht : r.timeouts ≠ 0) (hb : s.bands[r.band]? = some b)
    (hs : b.state = .cleaning) (he : b.valid = 0 ∧ b.pendingReads ≤ 1) :
    s.relocTimedOut r = (s.releaseRead r.band).releaseBand r.band := by
  simp only [State.relocTimedOut, if_neg ht, releaseRead_band hb, Option.any_some, (emptied_of_release hs).mpr he, if_true]

/-- A relocation read, timed out a second time, that does not empty its victim. -/
theorem relocTimedOut_second {s : State} {r : ReadOrder} {b : Band} {prior : BandState} (ht : r.timeouts ≠ 0)
    (hv : s.engine.victim = some r.band) (hb : s.bands[r.band]? = some b) (hs : b.state = .cleaning) (hp : b.prior = some prior)
    (he : ¬ (b.valid = 0 ∧ b.pendingReads ≤ 1)) :
    s.relocTimedOut r = if s.engine.run = some .single then ((s.releaseRead r.band).abandoned r.band prior).endRun .mediaError
      else ((s.releaseRead r.band).abandoned r.band prior).continueRun := by
  obtain ⟨victim, run, _⟩ := releaseRead_engine s r.band
  have waits := abandonVictim_eq (victim.trans hv) (releaseRead_band hb) hs hp
  simp only [State.relocTimedOut, if_neg ht, releaseRead_band hb, Option.any_some, Bool.eq_false_iff.mpr
    (mt (emptied_of_release hs).mp he), Bool.false_eq_true, if_false, waits, run]

/-! ### An order handed over (R102) -/

section
variable {s : State} {down : Bool} {r : ReadOrder} {f : FetchRead}

theorem failOrder_fetch (h : r.owner = .fetch f) : s.failOrder down (.read r) = s.fetchTimedOut f down := by
  simp [State.failOrder, h]

theorem failOrder_relocation {stale : Bool} (h : r.owner = .relocation stale) :
    s.failOrder down (.read r) = if stale then s.releaseRead r.band else s.relocTimedOut r := by
  simp [State.failOrder, h]

theorem failOrder_footer (h : r.owner = .startUp) : s.failOrder down (.read r) = s.footerTimedOut r := by
  simp [State.failOrder, h]

/-- The hand-over of a relocation read that timed out a second time. -/
theorem handedOver_relocation {b : Band} {prior : BandState} (ho : r.owner = .relocation false) (ht : r.timeouts ≠ 0)
    (hv : s.engine.victim = some r.band) (hb : s.bands[r.band]? = some b) (hs : b.state = .cleaning) (hp : b.prior = some prior) :
    let y := s.failOrder down (.read r)
    let z := (s.releaseRead r.band).abandoned r.band prior
    let idle := { z with engine := { Engine.reset with deferred := some r.band } }
    (b.valid = 0 → b.pendingReads ≤ 1 → PendingOnBoth y .relocationDone ∧
      ∃ u, y.bands[r.band]? = some u ∧ u.state = (if b.retire then .retired else .free)) ∧
    (¬ (b.valid = 0 ∧ b.pendingReads ≤ 1) →
      (∀ k, s.engine.run = some .single → s.engine.clean = some k → y = idle.answerEntry k .mediaError .none) ∧
      (s.engine.run = some .auto →
        (GoesOn z → y = { z with engine := { z.engine with state := .selecting } }) ∧
        (¬ GoesOn z → (s.engine.clean = none → y = idle) ∧ ∀ k, s.engine.clean = some k → y = idle.answerEntry k .ok .none))) := by
  intro y z idle
  have hy : y = s.relocTimedOut r := failOrder_relocation ho
  obtain ⟨_, _, clean⟩ := releaseRead_engine s r.band
  have clean : z.engine.clean = s.engine.clean := clean
  refine ⟨fun hz hr => ?_, fun he => ?_⟩
  · rw [hy, relocTimedOut_emptied ht hb hs ⟨hz, hr⟩]
    refine ⟨releaseBand_notice _ _, Band.released { b with pendingReads := b.pendingReads - 1 }, ?_, rfl⟩
    rw [releaseBand_bands, List.getElem?_modify_eq, releaseRead_band hb]
    rfl
  · rw [hy, relocTimedOut_second ht hv hb hs hp he]
    refine ⟨fun k hr hk => ?_, fun hr => ⟨fun goes => ?_, fun ends => ⟨fun hk => ?_, fun k hk => ?_⟩⟩⟩
    · rw [if_pos hr, endRun_of_some (clean.trans hk)]
      rfl
    · rw [if_neg (by simp [hr])]
      exact if_pos ((goesOn_iff z).mp goes)
    · rw [if_neg (by simp [hr]), State.continueRun, if_neg (mt (goesOn_iff z).mpr ends), endRun_of_none (clean.trans hk)]
      rfl
    · rw [if_neg (by simp [hr]), State.continueRun, if_neg (mt (goesOn_iff z).mpr ends), endRun_of_some (clean.trans hk)]
      rfl

end

/-- What the failure of an order leaves is its hand-over to its owner. -/
theorem handedOver (s : State) (down : Bool) (o : Order) : HandedOver s down o (s.failOrder down o) where
  write := by
    rintro w rfl
    exact failedWrite s w
  fetchEnded := by
    rintro r f rfl ho hs
    rw [failOrder_fetch ho]
    simp [State.fetchTimedOut, FetchSlot.isActive, hs]
  fetchFirst := by
    rintro r f rfl ho hs ht
    rw [failOrder_fetch ho, readDown_eq]
    simp [State.fetchTimedOut, FetchSlot.isActive, hs, ht]
  fetchSecond := by
    rintro r f rfl ho hs ht
    rw [failOrder_fetch ho]
    simp [State.fetchTimedOut, FetchSlot.isActive, hs, ht, State.failRead, State.failNeeded]
  relocStale := by
    rintro r rfl ho
    exact failOrder_relocation ho
  relocFirst := by
    rintro r rfl ho ht
    rw [failOrder_relocation ho]
    simp [State.relocTimedOut, ht, State.setHand]
  relocSecond := by
    rintro r b prior rfl ho ht hv hb hs hp
    exact handedOver_relocation ho ht hv hb hs hp
  footerFirst := by
    rintro r rfl ho ht
    rw [failOrder_footer ho]
    exact if_pos ht
  footerSecond := by
    rintro r b rfl ho ht hr
    rw [failOrder_footer ho, State.footerTimedOut, if_neg ht]
    exact footerTaken_none hr
  geometry := by
    rintro g rfl
    exact (loadEnds_eq s .mediaError g).symm
  rest := by
    rintro m k rfl hm hk
    have rests : m.up = false := by
      obtain rfl | rfl := hm
      · rfl
      · rfl
    simp [State.failOrder, State.motionTimedOut, rests, State.returnSpinning, hk]
  spin := by
    rintro m rfl hm
    have turns : m.up = true := by
      obtain rfl | rfl := hm
      · rfl
      · rfl
    simp only [State.failOrder, State.motionTimedOut, turns, if_true, State.spinAgain]

/-! ### An empty window (R101, R105) -/

/-- An entry into DOWN of a part in service whose window is empty. -/
theorem enterDown_empty {s : State} (hw : s.window = []) (hs : s.service = .inService) :
    s.enterDown = State.withdrawAll { s with path := .down } := by
  have service : (State.withdrawAll { s with path := .down }).service = .inService := by
    obtain ⟨_, _, _, ended⟩ := downEnds_only (State.withdrawn { s with path := .down })
    obtain ⟨_, _, _, _, _, _, _, _, withdrawn, _⟩ := withdrawn_only { s with path := .down }
    rw [withdrawAll_eq, ended, withdrawn]
    exact hs
  have failed : failOrders true s.window { s with path := .down } = { s with path := .down } := by rw [hw]; rfl
  simp only [State.enterDown, failed, service]
  rfl

/-- The reads and the Load Profiles waiting, withdrawn at an entry into DOWN. -/
def State.unloaded (s : State) : State :=
  s.geometry.foldl (State.loadEnds (status := .mediaDown))
    (s.fetchList.foldl State.readDown { s with path := .down, fetchList := [], geometry := [] })

theorem unloaded_eq (s : State) : s.unloaded =
    s.geometry.foldl (fun s g => s.geometryLost .mediaDown g)
      (s.fetchList.foldl State.downRead { s with path := .down, fetchList := [], geometry := [] }) := by
  have loads : State.loadEnds (status := .mediaDown) = fun s g => s.geometryLost .mediaDown g :=
    funext fun s => funext fun g => loadEnds_eq s .mediaDown g
  have reads : State.readDown = State.downRead := funext fun s => funext fun f => readDown_eq s f
  rw [State.unloaded, loads, reads]

theorem unloaded_spindle (s : State) : s.unloaded.spindle = s.spindle := by
  obtain ⟨_, _, _, reads⟩ := downReads_only s.fetchList { s with path := .down, fetchList := [], geometry := [] }
  obtain ⟨_, _, _, _, loads⟩ := geometriesLost_only .mediaDown s.geometry
    (s.fetchList.foldl State.downRead { s with path := .down, fetchList := [], geometry := [] })
  rw [unloaded_eq, loads, reads]

/-- An entry into DOWN of a part in service whose window is empty, by the withdrawal of the spindle's motion. -/
theorem enterDown_unloaded {s : State} (hw : s.window = []) (hs : s.service = .inService) :
    s.enterDown = s.unloaded.spindleDown.downEnds := by
  rw [enterDown_empty hw hs, withdrawAll_eq, unloaded_eq]
  rfl

/-- The motion of the spindle withdrawn. -/
theorem spindleDown_starting {s : State} (h : s.spindle.state = .starting) : s.spindleDown = s.spinFailed := by
  simp [State.spindleDown, h]

theorem spindleDown_resting {s : State} (h : s.spindle.state = .parking ∨ s.spindle.state = .stopping) :
    s.spindleDown = s.returnSpinning .mediaDown := by
  obtain h | h := h
  · simp [State.spindleDown, h]
  · simp [State.spindleDown, h]

theorem spindleDown_still {s : State} (h : s.spindle.state = .parked ∨ s.spindle.state = .stopped ∨ s.spindle.state = .spinning) :
    s.spindleDown = s := by
  obtain h | h | h := h
  · simp [State.spindleDown, h]
  · simp [State.spindleDown, h]
  · simp [State.spindleDown, h]

/-! ### The entries (R101 to R105) -/

theorem entries_leave (s : State) :
    (s.secondSpinFailure = false →
      s.enterRecovering.path = .recovering ∧ s.enterRecovering.window = [] ∧ s.enterRecovering.deadline = none ∧
      s.enterRecovering.recoveryWait = true ∧ (∀ g ∈ s.enterRecovering.geometry, g.forLoad = true) ∧
      PendingOnBoth s.enterRecovering .mediaRecovering) ∧
    (s.secondSpinFailure = true → s.enterRecovering.path = .down) ∧ LeftDown s.enterDown := by
  refine ⟨enterRecovering_leaves, fun second => ?_, leftDown_enterDown s⟩
  rw [enterRecovering_second second]
  exact (leftDown_enterDown _).path

/-- Settles O47: the entries fail the orders of the window one by one, oldest first, and what an order's failure leaves is its hand-over
to its owner. -/
theorem pathEntries : Obligations.PathEntries := by
  unfold Obligations.PathEntries
  refine ⟨fun s => ?_, fun s o rest hw => ⟨fun hs hm => ⟨_, handedOver _ _ _, enterRecovering_cons hw hs hm⟩,
    _, handedOver _ _ _, enterDown_cons hw⟩, fun s hw => ⟨?_, fun hs => ?_⟩⟩
  · obtain ⟨recovering, second, down⟩ := entries_leave s
    exact ⟨recovering, second, down.path, down.window, down.deadline, down.recoveryWait, down.startWait, down.escalation,
      down.mediaReset, down.fetchList, down.geometry, down.spindle, down.notice⟩
  · have first : s.secondSpinFailure = false := by simp [State.secondSpinFailure, hw]
    rw [enterRecovering_first first, hw]
    rfl
  · intro reads loads ended
    have entered : s.enterDown = ended s.unloaded.spindleDown := enterDown_unloaded hw hs
    have spindle : s.unloaded.spindle = s.spindle := unloaded_spindle s
    refine ⟨fun h => ?_, fun k h hk => ?_, fun h => ?_⟩
    · rw [entered, spindleDown_starting (spindle ▸ h), State.spinFailed, spindle]
      rfl
    · rw [entered, spindleDown_resting (spindle ▸ h), State.returnSpinning, spindle, hk]
      rfl
    · rw [entered, spindleDown_still (spindle ▸ h)]
      rfl

end Sys2Proof.Machine

namespace Sys2Proof.Machine

/-! PROOFS. What every operation keeps of the window's size, the fetch-run count, the credits, the sequence counter, the fill states and
the part held in reset (used for O7 and O45). The first part: the relation, and the operations that settle Puts, marks and resets. -/

/-! ### The relation -/

/-- t keeps the bounds of the fetch-run count and of the credits where s has them, and the sequence counter; it has no fill state at
ALMOST_FULL that s has not, begins no reset without leaving every fill state NORMAL, and leaves start-up as it is or has begun it. -/
structure CountsKept (s t : State) : Prop where
  fetchRun : s.fetchRunFits → t.fetchRunFits
  credits : s.creditsFit → t.creditsFit
  sequence : t.sequence = s.sequence
  fills : ∀ q, (t.queue q).almostFull = true → (s.queue q).almostFull = true
  resets : t.resetting = true → s.resetting = true ∨ ∀ q, (t.queue q).almostFull = false
  start : (t.stage = s.stage ∧ t.service = s.service) ∨ t.stage ≠ .held

/-- The window grows no longer, and a part held in reset stays OFFLINE, without a wait. -/
structure BoundsKept (s t : State) : Prop extends CountsKept s t where
  window : t.window.length ≤ s.window.length
  held : s.heldOffline → t.heldOffline

namespace CountsKept
variable {s t u : State}

theorem trans (h : CountsKept s t) (g : CountsKept t u) : CountsKept s u where
  fetchRun := g.fetchRun ∘ h.fetchRun
  credits := g.credits ∘ h.credits
  sequence := g.sequence.trans h.sequence
  fills := fun q hq => h.fills q (g.fills q hq)
  resets := fun hu => by
    obtain ht | clear := g.resets hu
    · exact (h.resets ht).imp_right fun clear q => Bool.eq_false_iff.mpr fun hq => Bool.eq_false_iff.mp (clear q) (g.fills q hq)
    · exact .inr clear
  start := by
    obtain ⟨stage, service⟩ | hu := g.start
    · exact h.start.imp (fun ⟨x, y⟩ => ⟨stage.trans x, service.trans y⟩) fun ht => stage ▸ ht
    · exact .inr hu

theorem started (h : CountsKept s t) (hs : s.stage ≠ .held) : t.stage ≠ .held := by
  obtain ⟨stage, _⟩ | ht := h.start
  · rwa [stage]
  · exact ht

theorem ite {c : Prop} [Decidable c] (ht : CountsKept s t) (hu : CountsKept s u) : CountsKept s (if c then t else u) := by
  split
  · exact ht
  · exact hu

/-- A further change where a condition holds. -/
theorem thenIf {c : Prop} [Decidable c] (ht : CountsKept s t) (hu : CountsKept t u) : CountsKept s (if c then u else t) :=
  .ite (ht.trans hu) ht

/-- A change of the window and of the media path's own fields. -/
theorem media {os : List Order} {p : PathState} {d : Option Nat} {m r w e : Bool} {g : List GeoOrder} : CountsKept s { s with
    window := os, path := p, deadline := d, mediaReset := m, recoveryWait := r, startWait := w, escalation := e, geometry := g } :=
  ⟨id, id, rfl, fun _ => id, .inl, .inl ⟨rfl, rfl⟩⟩

end CountsKept

theorem Stays.bounds {s t : State} (h : Stays s t) : BoundsKept s t where
  fetchRun := fun hs => h.fetchRun.trans_le hs
  credits := fun ⟨ha, hb⟩ => ⟨h.creditsA.trans_le ha, h.creditsB.trans_le hb⟩
  sequence := h.sequence
  fills := fun q hq => h.fills q ▸ hq
  resets := fun ht => .inl (by rwa [State.resetting, ← h.resetWaits])
  start := h.start.imp_left fun ⟨stage, service, _⟩ => ⟨stage, service⟩
  window := Nat.le_of_eq (congrArg List.length h.window)
  held := fun hs ht => by
    obtain ⟨stage, service, startWait⟩ | started := h.start
    · rw [h.path, h.recoveryWait, startWait, service]
      exact hs (stage ▸ ht)
    · exact absurd ht started

namespace BoundsKept
variable {s t u : State}

theorem refl (s : State) : BoundsKept s s := (Stays.refl s).bounds

theorem trans (h : BoundsKept s t) (g : BoundsKept t u) : BoundsKept s u where
  toCountsKept := h.toCountsKept.trans g.toCountsKept
  window := g.window.trans h.window
  held := g.held ∘ h.held

theorem foldl {α : Type} {f : State → α → State} (h : ∀ s a, BoundsKept s (f s a)) (l : List α) (s : State) :
    BoundsKept s (l.foldl f s) := by
  induction l generalizing s with
  | nil => exact refl s
  | cons a l ih => exact (h s a).trans (ih (f s a))

theorem ite {c : Prop} [Decidable c] (ht : BoundsKept s t) (hu : BoundsKept s u) : BoundsKept s (if c then t else u) := by
  split
  · exact ht
  · exact hu

/-- A further change where a condition holds. -/
theorem thenIf {c : Prop} [Decidable c] (ht : BoundsKept s t) (hu : BoundsKept t u) : BoundsKept s (if c then u else t) :=
  .ite (ht.trans hu) ht

/-- A further change where a condition does not hold. -/
theorem ifElse {c : Prop} [Decidable c] (ht : BoundsKept s t) (hu : BoundsKept t u) : BoundsKept s (if c then t else u) :=
  .ite ht (ht.trans hu)

/-- A change of the window that does not lengthen it. -/
theorem orders {os : List Order} (h : os.length ≤ s.window.length) : BoundsKept s { s with window := os } where
  toCountsKept := .media
  window := h
  held := id

theorem mapWrites (s : State) (f : WriteOrder → WriteOrder) : BoundsKept s (s.mapWrites f) :=
  .orders (Nat.le_of_eq (List.length_map _))

/-- What begins no reset, beside which all fill states are NORMAL, leaves the bounds. -/
theorem withResetWaits (h : BoundsKept s t) {n : Option Nat} (hn : n.isSome = true → s.resetting = true ∨
    ∀ q, (t.queue q).almostFull = false) : BoundsKept s { t with resetWaits := n } where
  fetchRun := h.fetchRun
  credits := h.credits
  sequence := h.sequence
  fills := h.fills
  resets := hn
  start := h.start
  window := h.window
  held := h.held

/-- A change of a port that leaves its credits in bounds. -/
theorem modPort {l : Link} {f : Port → Port} (hf : (s.port l).creditsHeld ≤ 16 → (f (s.port l)).creditsHeld ≤ 16) :
    BoundsKept s (s.modPort l f) := by
  cases l
  · exact ⟨⟨id, fun h => ⟨hf h.1, h.2⟩, rfl, fun _ => id, .inl, .inl ⟨rfl, rfl⟩⟩, Nat.le_refl _, id⟩
  · exact ⟨⟨id, fun h => ⟨h.1, hf h.2⟩, rfl, fun _ => id, .inl, .inl ⟨rfl, rfl⟩⟩, Nat.le_refl _, id⟩

/-- A change of the queues that makes none ALMOST_FULL. -/
theorem mapQueues {f : Fin 16 → Queue → Queue} (hf : ∀ q x, (f q x).almostFull = true → x.almostFull = true) (s : State) :
    BoundsKept s (s.mapQueues f) where
  fetchRun := fun h => by simpa [State.fetchRunFits] using h
  credits := fun h => by simpa [State.creditsFit] using h
  sequence := by simp
  fills := fun q h => hf q _ (by rwa [State.mapQueues_queue] at h)
  resets := fun h => .inl (by simpa [State.resetting] using h)
  start := .inl ⟨by simp, by simp⟩
  window := by simp
  held := fun h => by simpa [State.heldOffline] using h

/-- Start-up has begun. -/
theorem of_begun (h : CountsKept s t) (hw : t.window.length ≤ s.window.length) (hs : s.stage ≠ .held) : BoundsKept s t where
  toCountsKept := h
  window := hw
  held := fun _ ht => absurd ht (h.started hs)

/-- What the entries into RECOVERING leave: a part held in reset does not come to them. -/
theorem of_path (h : CountsKept s t) (hw : t.window.length ≤ s.window.length) (hp : s.path ≠ .offline) : BoundsKept s t where
  toCountsKept := h
  window := hw
  held := fun hs ht => absurd ht (h.started fun hh => hp (hs hh).1)

end BoundsKept

/-! ### Puts and marks (R52, R53, R61) -/

theorem bounds_acknowledge (s : State) (k : Key) : BoundsKept s (s.acknowledge k) :=
  (BoundsKept.mapQueues (f := fun _ q => { q with records := q.records.map (Fragment.acknowledge k) }) (fun _ _ h => h) s).trans
    (.mapWrites _ _)

theorem bounds_answerPut (s : State) (k : Key) (p : PutInfo) : BoundsKept s (s.answerPut k p) :=
  (BoundsKept.ite (bounds_acknowledge s k) (.refl s)).trans (stays_answerEntry _ _ _ _).bounds

theorem bounds_answerPutEntry (s : State) (e : ReqEntry) : BoundsKept s (s.answerPutEntry e) := by
  unfold State.answerPutEntry
  split
  · exact .ite (bounds_answerPut s _ _) (.refl s)
  · exact .refl s

theorem bounds_answerPuts (s : State) : BoundsKept s s.answerPuts := .foldl bounds_answerPutEntry _ s

theorem stays_unmarked (s : State) : Stays s s.unmarked := .mapQueues (fun _ x => by split <;> rfl) s

theorem stays_clearMarks (s : State) : Stays s s.clearMarks :=
  clearMarks_eq s ▸ (stays_unmarked s).trans (.foldl (fun s k => .ite (.refl s) (stays_answerEntry s k _ _)) _ _)

/-! ### Resets (R171 to R175) -/

theorem stays_convertRecord (acc : State × Nat) (r : Fragment) : Stays acc.1 (convertRecord acc r).1 := by
  have converted : ∀ (m : List Entry) x y lost, Stays acc.1 (((acc.1.setMap m).noteHeadroom x y).raiseLost lost) := fun m x y _ =>
    ((.of_same : Stays acc.1 (acc.1.setMap m)).trans (stays_noteHeadroom _ x y)).trans (stays_raiseLost _ _)
  exact converted _ _ _ _

theorem stays_resetPuts (s : State) : Stays s s.resetPuts :=
  ((Stays.foldl_fst stays_convertRecord _ (s, 0)).trans (stays_releaseEmptied _)).trans (.table _ _)

theorem bounds_resetEngine (s : State) : BoundsKept s s.resetEngine := by
  have abandoned : ∀ t : State, BoundsKept t
      { (State.endRun { t with window := t.window.map Order.staleRead } .aborted) with engine := Engine.reset } := fun t =>
    (BoundsKept.orders (Nat.le_of_eq (List.length_map _))).trans ((stays_endRun _ .aborted).trans (.engine _ _)).bounds
  unfold State.resetEngine
  dsimp only
  split
  · exact abandoned s
  · next b _ => exact (.of_same : Stays s (s.modBand b Band.uncleaned)).bounds.trans (abandoned _)

/-- The queues emptied. -/
theorem bounds_emptied (s : State) : BoundsKept s (s.mapQueues fun _ q => q.emptied) :=
  .mapQueues (f := fun _ q => q.emptied) (fun _ _ h => Bool.noConfusion h) s

/-- Behind the emptying of the queues. -/
theorem bounds_resetOrders (s : State) : BoundsKept s ((s.mapWrites WriteOrder.orphan).mapBands Band.shut).resetEngine :=
  ((BoundsKept.mapWrites s _).trans (Stays.of_same : Stays _ (State.mapBands _ Band.shut)).bounds).trans (bounds_resetEngine _)

theorem stays_abortSlot (s : State) (i : Fin 16) : Stays s (s.abortSlot i) :=
  .ite ((stays_answerEntry s _ _ _).trans (stays_cancelSlot _ i)) (.refl s)

theorem bounds_resetAnswers (flushes : List Key) (s : State) : BoundsKept s (s.resetAnswers flushes) :=
  (((Stays.foldl stays_abortSlot allQueues s).trans (stays_answerAll _ _ _)).trans (stays_answerAll _ _ _)).bounds.trans
    (bounds_answerPuts _)

theorem bounds_defaults (s : State) : BoundsKept s s.defaults := by
  have settings : Stays s { s with
      portA := s.portA.defaults, portB := s.portB.defaults, intervals := [], defaultQueue := 0, marks := SpaceMarks.default
      scope := ErrorScope.default, orderLimit := Config.defaultOrderLimit } := .of_same
  exact settings.bounds.trans (.mapQueues (f := fun _ q => q.defaults) (fun _ _ => id) _)

/-- A reset leaves every fill state NORMAL. -/
theorem bounds_performReset (s : State) (one : Bool) : BoundsKept s (s.performReset one) := by
  have ended : ∀ t : State, BoundsKept t (if one then t.defaults else t) := fun t => .thenIf (.refl t) (bounds_defaults t)
  have answered : BoundsKept (s.resetPuts.mapQueues fun _ q => q.emptied) (if one then s.resetWork.defaults else s.resetWork) :=
    ((bounds_resetOrders _).trans (bounds_resetAnswers _ _)).trans (ended _)
  rw [performReset_eq]
  refine (((stays_resetPuts s).bounds.trans (bounds_emptied _)).trans answered).withResetWaits fun _ => .inr fun q => ?_
  refine Bool.eq_false_iff.mpr fun hq => ?_
  have before := answered.fills q hq
  rw [State.mapQueues_queue] at before
  cases before

theorem stays_answerReset (s : State) (r : ResetRecord) : Stays s (s.answerReset r) := by
  have emptied : Stays s { s with resetRecord := none } := .of_same
  exact .ite emptied (emptied.trans (stays_pushFrame _ _ _))

theorem bounds_finishReset (s : State) : BoundsKept s s.finishReset := by
  have ended : BoundsKept s { s with resetWaits := none } := (BoundsKept.refl s).withResetWaits nofun
  unfold State.finishReset
  refine .ite ?_ (.refl s)
  dsimp only
  split
  · exact ended
  · exact ended.trans (stays_answerReset _ _).bounds

theorem bounds_takeReset (s : State) (k : Key) (level : Nat) : BoundsKept s (s.takeReset k level) := by
  have work := bounds_performReset s (level = 1)
  have recorded : ∀ (t : State) r, Stays t (State.freeSlot { t with resetRecord := r } k.origin) := fun t r =>
    (.of_same : Stays t { t with resetRecord := r }).trans (stays_freeSlot _ _)
  exact .ite (.ite (work.trans (stays_answerNow _ _ _ _ _).bounds) (work.trans (recorded _ _).bounds))
    (stays_answerNow s _ _ _ _).bounds

/-! ### Link failures (R151 to R156) -/

theorem stays_abandonPut (s : State) (k : Key) : Stays s (s.abandonPut k) := by
  have dropped : ∀ f : Fragment → Bool, Stays s (s.mapQueues fun _ q => { q with records := q.records.filter f }) := fun f =>
    .mapQueues (f := fun _ q => { q with records := q.records.filter f }) (fun _ _ => rfl) s
  exact (dropped _).trans (.table _ _)

theorem stays_abandonPuts (s : State) (l : Link) : Stays s (s.abandonPuts l) := .foldl stays_abandonPut _ s

theorem bounds_answerAbandoned (s : State) (k : Key) : BoundsKept s (s.answerAbandoned k) := by
  unfold State.answerAbandoned
  split
  · exact .ite (bounds_answerPut s _ _) (.refl s)
  · exact .refl s

theorem stays_discardOwed (s : State) (l : Link) : Stays s (s.discardOwed l) := .of_same

theorem bounds_failPart (s : State) (l : Link) : BoundsKept s (s.failPart l) :=
  .ifElse (stays_discardOwed s l).bounds (bounds_performReset _ false)

theorem bounds_failPaired (s : State) (l : Link) (x : LinkState) (frames : List OutFrame) :
    BoundsKept s (s.failPaired l x frames) := by
  have redirected : ∀ es r, Stays s { s with table := es, resetRecord := r } := fun _ _ => .of_same
  exact ((((redirected _ _).trans (stays_abandonPuts _ l)).bounds.trans (.foldl bounds_answerAbandoned _ _)).trans
    (.modPort id)).trans (stays_raise _ _ _ _).bounds

theorem stays_dropGet (s : State) (i : Fin 16) : Stays s (s.dropGet i) :=
  .ite ((stays_cancelSlot s i).trans (.table _ _)) (.refl s)

theorem stays_failUnpaired (s : State) (l : Link) : Stays s (s.failUnpaired l) :=
  ((stays_discardOwed s l).trans (stays_abandonPuts _ l)).trans (.foldl stays_dropGet _ _)

theorem bounds_linkFails (s : State) (l : Link) (x : LinkState) : BoundsKept s (s.linkFails l x) :=
  (BoundsKept.modPort (f := Port.cut x) id).trans
    (.ite (.refl _) (.ite (bounds_failPart _ l) (.ite (bounds_failPaired _ l x _) (stays_failUnpaired _ l).bounds)))

/-! ### Units received and sent (R147 to R152, R167) -/

theorem bounds_unitArrives (s : State) (l : Link) : BoundsKept s (s.unitArrives l) :=
  .ite ((BoundsKept.modPort id).trans (stays_raise _ _ _ _).bounds) (.refl s)

/-- A credit joins those held unless 16 are (R150). -/
theorem bounds_creditArrives (s : State) (l : Link) : BoundsKept s (s.creditArrives l) := by
  refine (bounds_unitArrives s l).trans (.ite ?_ (.refl _))
  split
  · exact bounds_linkFails _ l _
  · next full => exact .modPort fun h => Nat.lt_of_le_of_ne h full

theorem bounds_frameArrives (s : State) (l : Link) (good : Bool) (f : InFrame) : BoundsKept s (s.frameArrives l good f) :=
  (bounds_unitArrives s l).trans (.ite (.ite (bounds_linkFails _ l _) (.modPort id)) (.refl _))

theorem bounds_quietEnds (s : State) (l : Link) : BoundsKept s (s.quietEnds l) := .ite (.modPort fun _ => Nat.zero_le _) (.refl s)

theorem bounds_holdLink (s : State) (l : Link) : BoundsKept s (s.holdLink l) := by
  unfold State.holdLink
  split
  · exact bounds_linkFails s l _
  · exact .modPort id
  · exact .modPort id
  · exact .refl s

theorem bounds_frameGone (s : State) (l : Link) : BoundsKept s (s.frameGone l) := by
  have released : ∀ (t : State) (f : OutFrame), Stays t (t.frameReleases l f) := by
    intro t f
    unfold State.frameReleases
    split
    · exact stays_freeSlot t l
    · exact stays_freeSlot t l
    · exact .table t _
    · exact .refl t
    · exact .refl t
  unfold State.frameGone
  split
  · exact (BoundsKept.modPort fun h => (Nat.sub_le _ 1).trans h).trans (released _ _).bounds
  · exact .refl s

theorem bounds_noticeGone (s : State) (l : Link) : BoundsKept s (s.modPort l Port.noticeGone) := by
  refine .modPort fun h => ?_
  unfold Port.noticeGone
  split
  · exact (Nat.sub_le _ 1).trans h
  · exact (Nat.sub_le _ 1).trans h
  · exact h

theorem bounds_takeHold (s : State) (k : Key) (named : Nat) : BoundsKept s (s.takeHold k named) :=
  .ite ((bounds_holdLink s _).trans (stays_answerNow _ _ _ _ _).bounds) (stays_answerNow s _ _ _ _).bounds

theorem bounds_takeRelease (s : State) (k : Key) (named : Nat) : BoundsKept s (s.takeRelease k named) :=
  .ite (.ite ((BoundsKept.modPort fun _ => Nat.zero_le _).trans (stays_answerNow _ _ _ _ _).bounds)
    (stays_answerNow s _ _ _ _).bounds) (stays_answerNow s _ _ _ _).bounds

end Sys2Proof.Machine

namespace Sys2Proof.Machine

/-! PROOFS. What every operation keeps of the bounds, the second part: the Media Port, the grants, the requests and the commands (used
for O7 and O45). -/

/-! ### The Media Port (chapter 5) -/

theorem counts_failOrders (down : Bool) (os : List Order) (s : State) : CountsKept s (failOrders down os s) := by
  induction os generalizing s with
  | nil => exact (BoundsKept.refl s).toCountsKept
  | cons o rest ih =>
    have left : ∀ t : State, BoundsKept t t.orderLeft := fun t =>
      (BoundsKept.refl t).withResetWaits fun h => .inl (by simpa [State.resetting] using h)
    have failed : CountsKept s (State.failOrder { s with window := rest } down o) :=
      CountsKept.media.trans (stays_failOrder _ down o).bounds.toCountsKept
    rw [failOrders_cons]
    exact (failed.trans (left _).toCountsKept).trans (ih _)

theorem counts_withdrawAll (s : State) : CountsKept s s.withdrawAll := by
  have reads : CountsKept s (State.fetchDown { s with geometry := [] }) :=
    CountsKept.media.trans (stays_fetchDown _).bounds.toCountsKept
  have motion : Stays (State.fetchDown { s with geometry := [] }) s.withdrawn :=
    (Stays.foldl (fun s g => stays_geometryLost s .mediaDown g) s.geometry _).trans (stays_spindleDown _)
  rw [withdrawAll_eq]
  exact ((reads.trans motion.bounds.toCountsKept).trans .media).trans
    ((stays_raiseBoth _ _ _).trans (stays_answerAll _ _ _)).bounds.toCountsKept

/-- What an entry into DOWN leaves, ahead of the entry into service. -/
theorem counts_down (s : State) : CountsKept s (failOrders true s.window { s with path := .down }).withdrawAll :=
  (CountsKept.media.trans (counts_failOrders true s.window _)).trans (counts_withdrawAll _)

theorem enterService_stage (s : State) : s.enterService.stage = .done := by
  obtain ⟨t, _, h⟩ := enterService_only s
  rw [h]

/-- An entry into DOWN while start-up has not ended puts the part into service. -/
theorem bounds_enterDown (s : State) : BoundsKept s s.enterDown where
  toCountsKept := .thenIf (counts_down s) (stays_enterService _).bounds.toCountsKept
  window := by
    rw [(leftDown_enterDown s).window]
    exact Nat.zero_le _
  held := fun hs ht => by
    unfold State.enterDown at ht
    dsimp only at ht
    split at ht
    · rw [enterService_stage] at ht
      cases ht
    · next service =>
      obtain ⟨stage, same⟩ | started := (counts_down s).start
      · exact absurd (same.trans (hs (stage ▸ ht)).2.2.2) service
      · exact absurd ht started

theorem counts_enterRecovering (s : State) : CountsKept s s.enterRecovering := by
  have failed : CountsKept s (failOrders false s.window { s with path := .recovering }) :=
    CountsKept.media.trans (counts_failOrders false s.window _)
  exact .thenIf ((failed.trans .media).trans (stays_raiseBoth _ _ _).bounds.toCountsKept) (bounds_enterDown _).toCountsKept

theorem enterRecovering_window (s : State) : s.enterRecovering.window = [] := by
  cases h : s.secondSpinFailure with
  | false =>
    obtain ⟨_, window, _⟩ := enterRecovering_leaves h
    exact window
  | true =>
    rw [enterRecovering_second h]
    exact (leftDown_enterDown _).window

theorem bounds_enterRecovering {s : State} (h : s.path ≠ .offline) : BoundsKept s s.enterRecovering :=
  .of_path (counts_enterRecovering s) (by rw [enterRecovering_window]; exact Nat.zero_le _) h

theorem bounds_mediaFault (s : State) : BoundsKept s s.mediaFault := by
  unfold State.mediaFault
  split
  · next ready =>
    exact .ite (bounds_enterDown s) (bounds_enterRecovering (by rw [ready]; exact PathState.noConfusion))
  · exact .refl s

section
variable {s : State}

theorem bounds_motionCompleted (h : s.path ≠ .offline) (m : Motion) (done : Bool) : BoundsKept s (s.motionCompleted m done) := by
  unfold State.motionCompleted
  split
  · exact (stays_spunUp s).bounds
  · exact (stays_comeToRest s).bounds
  · exact (stays_returnSpinning s _).bounds
  · exact .ite ((Stays.spindle s _).bounds.trans (bounds_enterRecovering h)) (bounds_enterDown s)

theorem bounds_geometryCompleted (s : State) (g : GeoOrder) (done : Bool) : BoundsKept s (s.geometryCompleted g done) := by
  unfold State.geometryCompleted
  split
  · exact ((stays_modProfile s _ _).trans (stays_answerEntry _ _ _ _)).bounds
  · exact (stays_geometryLost s _ g).bounds
  · exact .refl s
  · exact bounds_enterDown s

theorem stays_readCompleted (s : State) (r : ReadOrder) (c : Completion) : Stays s (s.readCompleted r c) := by
  unfold State.readCompleted
  split
  · exact stays_fetchCompleted s _ _
  · exact .ite (stays_releaseRead s _) (stays_relocRead s r _)
  · exact stays_footerRead s _ _ _

theorem bounds_orderCompleted (h : s.path ≠ .offline) (c : Completion) (o : Order) : BoundsKept s (s.orderCompleted c o) := by
  cases o with
  | write w => exact (Stays.ite (stays_writeDone s w) (stays_writeFailed s w)).bounds
  | read r => exact (stays_readCompleted s r c).bounds
  | geometry g => exact bounds_geometryCompleted s g _
  | motion m => exact bounds_motionCompleted h m _

/-- The oldest order leaves the window. -/
theorem bounds_oldestGone {o : Order} {rest : List Order} (h : s.window = o :: rest) :
    BoundsKept s (State.startDeadline { s with window := rest }).orderLeft := by
  have shorter : BoundsKept s { s with window := rest } := .orders (by rw [h]; exact Nat.le_succ _)
  have timed : BoundsKept s (State.startDeadline { s with window := rest }) := shorter.trans (Stays.of_same).bounds
  exact timed.withResetWaits fun hn => .inl (by simpa [State.resetting] using hn)

theorem bounds_takeCompletion (s : State) (kind : Nat) (c : Completion) : BoundsKept s (s.takeCompletion kind c) := by
  unfold State.takeCompletion
  split
  · exact .refl s
  · next ready =>
    have path : s.path ≠ .offline := by
      rw [not_not] at ready
      rw [ready]
      exact PathState.noConfusion
    split
    · exact bounds_mediaFault s
    · next o rest hw =>
      have completed := bounds_orderCompleted (s := (State.startDeadline { s with window := rest }).orderLeft) path c o
      exact .ite ((bounds_oldestGone hw).trans completed) (bounds_mediaFault s)

theorem stays_landSector (s : State) (r : ReadOrder) (sector : Nat) (data : Sector) : Stays s (s.landSector r sector data) := by
  unfold State.landSector
  split
  · exact stays_fetchDelivered s _ _ _
  · exact .ite (.refl s) (.engine s _)
  · split
    · exact .started StartStage.noConfusion
    · exact .refl s

theorem bounds_takeSector (s : State) (sector : Nat) (data : Sector) (check : BitVec 32) :
    BoundsKept s (s.takeSector sector data check) := by
  unfold State.takeSector
  refine .ite (.refl s) ?_
  split
  · next r rest hw =>
    have marked : ∀ o, BoundsKept s { s with window := o :: rest } := fun _ => .orders (by rw [hw]; rfl)
    exact .ite ((marked _).trans (stays_landSector _ _ _ _).bounds) (bounds_mediaFault s)
  · exact bounds_mediaFault s

theorem bounds_sequencerReady (s : State) : BoundsKept s s.sequencerReady := by
  have ready : CountsKept s { s with path := .ready, startWait := false } := .media
  have recovered : ∀ gs, CountsKept s { s with
      path := .ready, recoveryWait := false, escalation := true, stage := s.stage.reinstalled, geometry := gs } := fun gs =>
    ⟨id, id, rfl, fun _ => id, .inl, by cases s.stage <;> simp [StartStage.reinstalled]⟩
  unfold State.sequencerReady
  split
  · dsimp only
    split
    · exact .refl s
    · next begun =>
      have begins : BoundsKept s { s with path := .ready, startWait := false } := .of_begun ready (Nat.le_refl _) begun
      have spin : ∀ t : State, Stays t t.startUpSpin := fun t =>
        (Stays.started StartStage.noConfusion : Stays t { t with stage := .spinUp false }).trans (stays_startSpin _)
      exact .thenIf begins (spin _).bounds
  · next path =>
    exact (BoundsKept.of_path (recovered _) (Nat.le_refl _) (by rw [path]; exact PathState.noConfusion)).trans
      (stays_answerAll _ _ _).bounds
  · exact .refl s
  · exact .refl s

end

/-! ### Grants (R79, R88, R97, R98) -/

/-- A grant on s leaves the bounds, but that the window has one order more where it issued one. -/
structure Granted (s : State) (r : State × Bool) : Prop extends CountsKept s r.1 where
  window : r.1.window.length ≤ s.window.length + r.2.toNat
  held : s.heldOffline → r.1.heldOffline

section
variable {s t u : State} {b : Bool}

/-- A grant that issues no order. -/
theorem BoundsKept.declined (h : BoundsKept s t) : Granted s (t, false) := ⟨h.toCountsKept, h.window, h.held⟩

/-- A grant that issues an order. -/
theorem BoundsKept.issued (h : BoundsKept s t) (o : Order) : Granted s (t.issue o, true) := by
  rw [issue_eq]
  refine ⟨h.toCountsKept.trans .media, ?_, h.held⟩
  rw [List.length_append]
  exact Nat.add_le_add_right h.window 1

/-- A change behind a grant. -/
theorem Granted.andThen (h : Granted s (t, b)) (g : BoundsKept t u) : Granted s (u, b) :=
  ⟨h.toCountsKept.trans g.toCountsKept, g.window.trans h.window, g.held ∘ h.held⟩

/-- A change ahead of a grant. -/
theorem BoundsKept.thenGranted {r : State × Bool} (h : BoundsKept s t) (g : Granted t r) : Granted s r :=
  ⟨h.toCountsKept.trans g.toCountsKept, g.window.trans (Nat.add_le_add_right h.window _), g.held ∘ h.held⟩

theorem Granted.ite {c : Prop} [Decidable c] {r x : State × Bool} (hr : Granted s r) (hx : Granted s x) :
    Granted s (if c then r else x) := by
  split
  · exact hr
  · exact hx

/-- A grant declined is followed by another. -/
theorem Granted.orElse {r x : State × Bool} (hr : Granted s r) (hx : Granted r.1 x) : Granted s (if r.2 then r else x) := by
  split
  · exact hr
  · next declined =>
    have window := hr.window
    rw [Bool.eq_false_iff.mpr declined] at window
    exact BoundsKept.thenGranted ⟨hr.toCountsKept, window, hr.held⟩ hx

theorem Granted.orTry {r : State × Bool} {f : State → State × Bool} (hr : Granted s r) (hf : ∀ t, Granted t (f t)) :
    Granted s (orTry r f) := hr.orElse (hf _)

/-- A change of the fetch-run count and the last queue served. -/
theorem BoundsKept.withFetchRun (h : BoundsKept s t) {n : Nat} {q : Fin 16} (hn : s.fetchRunFits → n ≤ 8) :
    BoundsKept s { t with lastServed := q, fetchRun := n } :=
  ⟨⟨hn, h.credits, h.sequence, h.fills, h.resets, h.start⟩, h.window, h.held⟩

end

/-- R79, R98: a write order is issued. -/
theorem granted_issueWrite (s : State) (q : Fin 16) (b : Nat) (r : Band) (built : Build) (emergency : Bool) :
    Granted s (s.issueWrite q b r built emergency, true) := by
  have left : ∀ o n, BoundsKept s (State.modBand (s.movePieces o 1 2) b fun r => { r with issued := r.issued + n }) := fun o _ =>
    ((stays_movePieces s o 1 2).trans .of_same).bounds
  have run : s.fetchRunFits → (if emergency then s.fetchRun else 0) ≤ 8 := fun h => by
    split
    · exact h
    · exact Nat.zero_le _
  unfold State.issueWrite
  dsimp only
  refine Granted.andThen (BoundsKept.issued (BoundsKept.withFetchRun ?_ run) _) (stays_noteFalls _ s).bounds
  exact (left _ 1).trans (Stays.modQueue (by exact fun _ => rfl) _ q).bounds

theorem granted_serveBand (s : State) (q : Fin 16) (b : Nat) (emergency : Bool) : Granted s (s.serveBand q b emergency) := by
  unfold State.serveBand
  split
  · exact (BoundsKept.refl s).declined
  · exact .ite (Stays.modQueue (f := fun x => { x with poolStall := true }) (fun _ => rfl) s q).bounds.declined
      (granted_issueWrite s q b _ _ emergency)

theorem granted_serveQueue (s : State) (q : Fin 16) (emergency : Bool) : Granted s (s.serveQueue q emergency) := by
  unfold State.serveQueue
  split
  · exact granted_serveBand s q _ emergency
  · split
    · exact (BoundsKept.refl s).declined
    · next b _ =>
      have opened : BoundsKept s (s.modBand b (Band.open_ q)) := (Stays.of_same).bounds
      exact .ite (opened.thenGranted (granted_serveBand _ q b emergency)) opened.declined

theorem granted_placementLoop (emergency : Bool) (n : Nat) (tried : List (Fin 16)) (last : Fin 16) (s : State) :
    Granted s (placementLoop emergency n tried last s) := by
  induction n generalizing tried last s with
  | zero => exact (BoundsKept.refl s).declined
  | succ n ih =>
    unfold placementLoop
    split
    · exact (BoundsKept.refl s).declined
    · exact (granted_serveQueue s _ emergency).orElse (ih _ _ _)

theorem granted_grantReloc (s : State) : Granted s s.grantReloc := by
  have engine : ∀ (t : State) h, BoundsKept t (t.setHand h) := fun t _ => (Stays.engine t _).bounds
  have claimed : ∀ v, BoundsKept s (s.claimRead v) := fun _ => (Stays.of_same).bounds
  unfold State.grantReloc
  split
  · exact .ite (engine s _).declined (.ite (engine s _).declined (((claimed _).issued _).andThen (engine _ _)))
  · exact (BoundsKept.refl s).declined

theorem bounds_ranFetch (s : State) (emergency candidate : Bool) : BoundsKept s (s.ranFetch emergency candidate) := by
  refine .ite (.refl s) ((BoundsKept.refl s).withFetchRun fun _ => ?_)
  split
  · exact Nat.min_le_left 8 _
  · exact Nat.zero_le _

theorem granted_grantFetch (emergency candidate : Bool) (s : State) : Granted s (s.grantFetch emergency candidate) := by
  unfold State.grantFetch
  split
  · next b t n f _ =>
    have begun : Stays s { s with stage := .reconcile b t n true f } := .started StartStage.noConfusion
    exact (begun.bounds.issued _).andThen (bounds_ranFetch _ _ _)
  · split
    · exact (BoundsKept.refl s).declined
    · exact ((Stays.fetchList s _).bounds.issued _).andThen (bounds_ranFetch _ _ _)

theorem granted_grantRelocRead (s : State) : Granted s s.grantRelocRead :=
  .ite (granted_grantReloc s) (BoundsKept.refl s).declined

theorem granted_grantWrite (stands : Bool) (s : State) : Granted s (s.grantWrite stands) :=
  .ite (granted_placementLoop _ _ _ _ s) (BoundsKept.refl s).declined

theorem granted_grantTransfer (s : State) : Granted s s.grantTransfer := by
  unfold State.grantTransfer
  refine .ite ?_ (.ite ?_ ?_)
  · exact (((granted_grantRelocRead s).orTry (granted_grantWrite _)).orTry (granted_grantFetch _ _)).orTry (granted_grantWrite _)
  · exact ((granted_grantWrite _ s).orTry (granted_grantFetch _ _)).orTry granted_grantRelocRead
  · exact ((granted_grantFetch _ _ s).orTry (granted_grantWrite _)).orTry granted_grantRelocRead

/-- A media grant issues one order at most. -/
theorem granted_grantMedia (s : State) : ∃ b, Granted s (s.grantMedia, b) ∧ (b = true → s.window.length < 4) := by
  have still : ∃ b, Granted s (s, b) ∧ (b = true → s.window.length < 4) := ⟨false, (BoundsKept.refl s).declined, nofun⟩
  unfold State.grantMedia
  split
  · exact still
  · next barred =>
    have room : s.window.length < 4 := by
      simp only [not_or, not_le] at barred
      exact barred.2.1
    split
    · split
      · exact ⟨true, (Stays.spindle s _).bounds.issued _, fun _ => room⟩
      · exact still
    · split
      · next rest _ =>
        have waiting : Stays s { s with geometry := rest } := .of_same
        exact ⟨true, waiting.bounds.issued _, fun _ => room⟩
      · split
        · exact ⟨_, granted_grantTransfer s, fun _ => room⟩
        · exact still

end Sys2Proof.Machine

namespace Sys2Proof.Machine

/-! PROOFS. The bounds through the requests, the commands and the settling of a step; and that every step keeps them (O7, O45). -/

/-! ### What a fill state is worked out from (R58) -/

section
variable {s t : State} {q : Fin 16}

theorem fillsUp_congr (h : t.fillOf q = s.fillOf q) : t.fillsUp q = s.fillsUp q := by
  simp only [State.fillOf, Prod.mk.injEq] at h
  obtain ⟨occupancy, offset, depth⟩ := h
  have space : t.space q = s.space q := by rw [State.space, State.space, occupancy, depth]
  rw [State.fillsUp, State.fillsUp, space, offset]

theorem occupancy_congr (records : (t.queue q).records = (s.queue q).records) (window : t.window = s.window) :
    t.occupancy q = s.occupancy q := by
  simp only [State.occupancy, State.ordersOf, records, writeOrders_congr window]

theorem fillOf_congr (records : (t.queue q).records = (s.queue q).records) (offset : (t.queue q).offset = (s.queue q).offset)
    (depth : (t.queue q).depth = (s.queue q).depth) (window : t.window = s.window) : t.fillOf q = s.fillOf q := by
  rw [State.fillOf, occupancy_congr records window, offset, depth, State.fillOf]

end

/-! ### The relation of a command's own effect -/

/-- A command's effect X on s keeps the bounds; the counter rises by 1 at most and stays in range; and a fill state at ALMOST_FULL was
so in s, or is what it is worked out to be. -/
structure CommandKept (s X : State) : Prop where
  window : s.windowFits → X.windowFits
  fetchRun : s.fetchRunFits → X.fetchRunFits
  credits : s.creditsFit → X.creditsFit
  sequence : s.counterInRange → s.sequence ≤ X.sequence ∧ X.sequence ≤ s.sequence + 1 ∧ X.counterInRange
  fills : ∀ q, (X.queue q).almostFull = true → (s.queue q).almostFull = true ∨ X.fillsUp q = true
  resets : X.resetting = true → s.resetting = true ∨ ∀ q, (X.queue q).almostFull = true → X.fillsUp q = true
  held : s.heldOffline → X.heldOffline

section
variable {s t X Y : State}

/-- The bounds of an effect that has no part in the window. -/
theorem CountsKept.command (h : CountsKept s X) (hw : s.windowFits → X.windowFits) (hh : s.heldOffline → X.heldOffline) :
    CommandKept s X where
  window := hw
  fetchRun := h.fetchRun
  credits := h.credits
  sequence := fun hs => by
    rw [State.counterInRange, h.sequence]
    exact ⟨Nat.le_refl _, Nat.le_succ _, hs⟩
  fills := fun q hq => .inl (h.fills q hq)
  resets := fun hr => (h.resets hr).imp_right fun clear q hq => absurd hq (Bool.eq_false_iff.mp (clear q))
  held := hh

theorem BoundsKept.command (h : BoundsKept s X) : CommandKept s X := h.toCountsKept.command (fun hw => h.window.trans hw) h.held

theorem Stays.command (h : Stays s X) : CommandKept s X := h.bounds.command

/-- A change ahead of the effect. -/
theorem BoundsKept.thenCommand (h : BoundsKept s t) (g : CommandKept t X) : CommandKept s X where
  window := fun hw => g.window (h.window.trans hw)
  fetchRun := g.fetchRun ∘ h.fetchRun
  credits := g.credits ∘ h.credits
  sequence := fun hs => h.sequence ▸ g.sequence (by rwa [State.counterInRange, h.sequence])
  fills := fun q hq => (g.fills q hq).imp_left (h.fills q)
  resets := fun hX => by
    obtain ht | full := g.resets hX
    · refine (h.resets ht).imp_right fun clear q hq => ?_
      exact (g.fills q hq).resolve_left (Bool.eq_false_iff.mp (clear q))
    · exact .inr full
  held := g.held ∘ h.held

/-- An answer behind the effect. -/
theorem CommandKept.answerNow (h : CommandKept s X) (k : Key) (kind : Nat) (x : Status) (r : Result) :
    CommandKept s (X.answerNow k kind x r) := by
  have stays := stays_answerNow X k kind x r
  have fillsUp : ∀ q, (X.answerNow k kind x r).fillsUp q = X.fillsUp q := fun q => by
    have queue : (X.answerNow k kind x r).queue q = X.queue q := State.queue_congr (by simp) q
    exact fillsUp_congr (fillOf_congr (by rw [queue]) (by rw [queue]) (by rw [queue]) stays.window)
  refine ⟨fun hw => stays.bounds.window.trans (h.window hw), stays.bounds.fetchRun ∘ h.fetchRun,
    stays.bounds.credits ∘ h.credits, fun hs => ?_, fun q hq => ?_, fun hr => ?_, stays.bounds.held ∘ h.held⟩
  · rw [State.counterInRange, stays.sequence]
    exact h.sequence hs
  · rw [fillsUp]
    exact h.fills q (stays.fills q ▸ hq)
  · simp only [fillsUp, stays.fills]
    exact h.resets (by rwa [State.resetting, ← stays.resetWaits])

/-- The counter rises by 1, not having been at its last value (R42). -/
theorem BoundsKept.counted (h : BoundsKept { s with sequence := s.sequence + 1 } X) (hs : s.sequence ≠ Config.lastSequence) :
    CommandKept s X :=
  { h.command with
    sequence := fun hr => by
      rw [State.counterInRange, h.sequence]
      obtain ⟨_, last⟩ := hr
      exact ⟨Nat.le_succ _, Nat.le_refl _, Nat.le_add_left 1 _, Nat.lt_of_le_of_ne last hs⟩ }

theorem CommandKept.ite {c : Prop} [Decidable c] (hX : CommandKept s X) (hY : CommandKept s Y) :
    CommandKept s (if c then X else Y) := by
  split
  · exact hX
  · exact hY

end

/-! ### Frames taken and requests handed over (R159, R182) -/

theorem command_takeFrame (s : State) (l : Link) (good : Bool) (f : InFrame) {meaning : State → State}
    (h : ∀ p, CommandKept p (meaning p)) : CommandKept s (s.takeFrame l good f meaning) := by
  have ready : BoundsKept s (s.frameReady l good f) := .ite (bounds_frameArrives s l good f) (.refl s)
  unfold State.takeFrame
  split
  · exact ready.command
  · next p hp =>
    have taken : BoundsKept (s.frameReady l good f) p := by
      unfold State.frameTaken at hp
      split at hp
      · cases hp
      · split at hp
        · rw [← Option.some.inj hp]
          exact .modPort id
        · cases hp
    exact (ready.trans taken).thenCommand (h p)

theorem command_takeRequest (s : State) (l : Link) (tag : Tag) (r : Request) {owner : Key → State → State}
    (h : ∀ k p, CommandKept p (owner k p)) : CommandKept s (s.takeRequest l tag r owner) := by
  refine command_takeFrame s l true _ fun p => ?_
  unfold State.handOver
  split
  · exact (stays_answerNow p _ _ _ _).command
  · exact h _ p

theorem stays_answerIf (s : State) (k : Key) (kind : Nat) (ok : Bool) (x : Status) {effect : State → State}
    (h : Stays s (effect s)) : Stays s (s.answerIf k kind ok x effect) :=
  .ite (h.trans (stays_answerNow _ _ _ _ _)) (stays_answerNow s _ _ _ _)

theorem stays_answerQuery (s : State) (k : Key) (r : Except Status (List Field)) : Stays s (s.answerQuery k r) := by
  cases r <;> exact stays_answerNow s _ _ _ _

theorem stays_countedQuery (s : State) (k : Key) (r : Except Status (List Field)) : Stays s (s.answerQuery k r).countRead :=
  (stays_answerQuery s k r).trans .of_same

/-! ### Puts and Trims (R49 to R55, R62) -/

/-- A Put refused for lack of room does not raise the counter; one admitted finds it below its last value. -/
theorem sequence_of_room {s : State} {q : Fin 16} {count : Nat} (h : s.roomRefusal q count = none) :
    s.sequence ≠ Config.lastSequence := by
  intro last
  unfold State.roomRefusal at h
  rw [if_pos last] at h
  split at h
  · cases h
  · split at h
    · cases h
    · split at h <;> cases h

theorem sequence_of_trim {s : State} {lsa count : Nat} (h : s.trimRefusal lsa count = none) :
    s.sequence ≠ Config.lastSequence := by
  intro last
  unfold State.trimRefusal at h
  rw [if_pos last] at h
  split at h
  · cases h
  · split at h
    · cases h
    · split at h
      · cases h
      · split at h <;> cases h

theorem stays_admitted (s : State) (k : Key) (q : Fin 15) (lsa count durability : Nat) :
    Stays { s with sequence := s.sequence + 1 } (s.admitPut k q lsa count durability) := by
  have entered : ∀ r i, Stays { s with sequence := s.sequence + 1 } (State.enterTable { (s.modQueue (hostQueue q) fun x =>
      { x with records := x.records ++ [r] }) with sequence := s.sequence + 1 } k i) := fun r i =>
    (Stays.modQueue (s := { s with sequence := s.sequence + 1 }) (f := fun x => { x with records := x.records ++ [r] })
      (fun _ => rfl) (hostQueue q)).trans (stays_enterTable _ k i)
  unfold State.admitPut
  dsimp only
  exact (Stays.thenIf (entered _ _) (stays_raise _ _ _ _)).trans (stays_noteFalls _ s)

theorem command_takePut (lsa count durability : Nat) (k : Key) (s : State) :
    CommandKept s (State.takePut lsa count durability k s) := by
  unfold State.takePut
  split
  · exact (stays_answerNow s _ _ _ _).command
  · dsimp only
    split
    · exact (stays_answerNow s _ _ _ _).command
    · next room => exact (stays_admitted s k _ lsa count durability).bounds.counted (sequence_of_room room)

theorem bounds_applyTrim (s : State) (a b : Nat) : BoundsKept s (s.applyTrim a b) := by
  have moved : Stays s _ := (Stays.foldl (fun t (r : Fragment) => stays_movePieces t r.origin 1 (Fragment.trim a b r).length)
    s.allRecords s).trans (Stays.foldl
      (fun t (p : Piece) => stays_movePieces t p.origin p.stretches.length (p.trim a b).stretches.length) s.allPieces _)
  have queues : ∀ t : State, Stays t (t.mapQueues fun _ q => { q with records := q.records.flatMap (Fragment.trim a b) }) := fun t =>
    .mapQueues (f := fun _ q => { q with records := q.records.flatMap (Fragment.trim a b) }) (fun _ _ => rfl) t
  have cut : ∀ (t : State) m, Stays t (t.setMap m) := fun _ _ => .of_same
  unfold State.applyTrim
  refine .ite ?_ (.refl s)
  dsimp only
  refine BoundsKept.trans (BoundsKept.thenIf ?_ (stays_clearPoolStalls _).bounds) (stays_noteFalls _ s).bounds
  exact ((moved.trans (queues _)).bounds.trans (.mapWrites _ _)).trans (cut _ _).bounds

theorem command_takeTrim (lsa count : Nat) (k : Key) (s : State) : CommandKept s (State.takeTrim lsa count k s) := by
  unfold State.takeTrim
  split
  · exact (stays_answerNow s _ _ _ _).command
  · next admitted => exact ((bounds_applyTrim _ _ _).trans (stays_answerNow _ _ _ _ _).bounds).counted (sequence_of_trim admitted)

theorem stays_takeData (s : State) (l : Link) (f : DataFrame) : Stays s (s.takeData l f) := by
  have accepted : ∀ k p data, Stays s (s.acceptData k p data) := fun k p data =>
    (Stays.table s _).trans (.modQueue (by exact fun _ => rfl) _ _)
  unfold State.takeData
  split
  · exact .ite (accepted _ _ _) (.refl s)
  · exact .refl s

/-! ### The requests beside Put and Trim, by kind -/

theorem bounds_setMark (k : Key) (s : State) (q : Fin 16) : BoundsKept s (State.setMark k s q) :=
  (Stays.modQueue (by exact fun _ => rfl) s q).bounds.trans (.mapWrites _ _)

theorem bounds_takeFlush (queue : Nat) (k : Key) (s : State) : BoundsKept s (State.takeFlush queue k s) := by
  have answered : ∀ x, BoundsKept s (s.answerNow k 4 x .none) := fun _ => (stays_answerNow s _ _ _ _).bounds
  unfold State.takeFlush
  refine .ite (answered _) ?_
  split
  · exact answered _
  · exact .ite (answered _) ((stays_enterTable s _ _).bounds.trans (.foldl (bounds_setMark k) _ _))

theorem stays_takeSelect (queue : Nat) (k : Key) (s : State) : Stays s (State.takeSelect queue k s) := by
  have selected : ∀ x, Stays s (s.modPort k.origin fun p => { p with selection := x }) := fun _ =>
    .modPort (by exact fun _ => rfl) s k.origin
  unfold State.takeSelect
  split
  · exact (selected _).trans (stays_answerNow _ _ _ _ _)
  · exact .ite ((selected _).trans (stays_answerNow _ _ _ _ _)) (stays_answerNow s _ _ _ _)

theorem stays_takeClean (band : Nat) (k : Key) (s : State) : Stays s (State.takeClean band k s) := by
  unfold State.takeClean
  split
  · exact stays_answerNow s _ _ _ _
  · exact (Stays.engine s _).trans (stays_enterTable _ _ _)

theorem stays_takeDivision (depths : List Nat) (k : Key) (s : State) : Stays s (State.takeDivision depths k s) := by
  have divided : ∀ d : Fin 16 → Nat,
      Stays s (s.mapQueues fun q x => { x with depth := d q, offset := min x.offset (d q) }) := fun d =>
    .mapQueues (f := fun q x => { x with depth := d q, offset := min x.offset (d q) }) (fun _ _ => rfl) s
  have bands : ∀ (t : State) f, Stays t (t.mapBands f) := fun _ _ => .of_same
  exact .ite (stays_answerNow s _ _ _ _) (stays_answerIf s _ _ _ _ ((divided fun q => depths.getD q.val 0).trans (bands _ _)))

/-- A queue's thresholds, set: its fill state is worked out (R57). -/
theorem command_setThresholds (s : State) (q : Fin 16) (offset hold : Nat) : CommandKept s (s.setThresholds q offset hold) where
  window := id
  fetchRun := id
  credits := id
  sequence := fun h => ⟨Nat.le_refl _, Nat.le_succ _, h⟩
  fills := fun p hp => by
    have fillsUp : (s.setThresholds q offset hold).fillsUp q =
        (s.modQueue q fun x => { x with offset := offset, hold := hold }).fillsUp q :=
      fillsUp_congr (fillOf_congr (by simp [State.setThresholds]) (by simp [State.setThresholds])
        (by simp [State.setThresholds]) rfl)
    rw [State.setThresholds, State.modQueue_queue] at hp
    split at hp
    · next here =>
      subst here
      exact .inr (fillsUp.trans hp)
    · next other =>
      rw [State.modQueue_queue, if_neg other] at hp
      exact .inl hp
  resets := .inl
  held := id

theorem command_takeThresholds (v : Option (Nat × Nat × Nat)) (k : Key) (s : State) :
    CommandKept s (State.takeThresholds v k s) := by
  have refused : CommandKept s (s.answerNow k 7 .invalid .none) := (stays_answerNow s _ _ _ _).command
  unfold State.takeThresholds
  split
  · exact refused
  · split
    · exact .ite ((command_setThresholds s _ _ _).answerNow _ _ _ _) refused
    · exact refused

theorem stays_takeIntervals (v : Option (Nat × List Interval)) (k : Key) (s : State) : Stays s (State.takeIntervals v k s) := by
  unfold State.takeIntervals
  split
  · exact stays_answerNow s _ _ _ _
  · split
    · exact stays_answerIf s _ _ _ _ .of_same
    · exact stays_answerNow s _ _ _ _

theorem stays_takeMarks (v : Option (Nat × Nat × Nat)) (k : Key) (s : State) : Stays s (State.takeMarks v k s) := by
  unfold State.takeMarks
  split
  · exact stays_answerNow s _ _ _ _
  · exact stays_answerIf s _ _ _ _ .of_same

theorem stays_takeLinkMode (v : Option Nat) (k : Key) (s : State) : Stays s (State.takeLinkMode v k s) := by
  refine .ite (stays_answerNow s _ _ _ _) ?_
  split
  · exact stays_answerNow s _ _ _ _
  · exact stays_answerIf s _ _ _ _ (.modPort (by exact fun _ => rfl) s k.origin)

theorem stays_takeScope (v : Option (Nat × Nat)) (k : Key) (s : State) : Stays s (State.takeScope v k s) := by
  unfold State.takeScope
  split
  · exact stays_answerNow s _ _ _ _
  · exact stays_answerIf s _ _ _ _ .of_same

theorem stays_takeKinds (v : Option (Nat × Nat)) {effect : List Notice → Port → Port}
    (he : ∀ ns p, (effect ns p).creditsHeld = p.creditsHeld) (k : Key) (s : State) : Stays s (State.takeKinds v k effect s) := by
  unfold State.takeKinds
  split
  · exact stays_answerNow s _ _ _ _
  · split
    · exact stays_answerNow s _ _ _ _
    · exact stays_answerIf s _ _ _ _ (.modPort (he _) s _)

theorem stays_takeOrderLimit (v : Option Nat) (k : Key) (s : State) : Stays s (State.takeOrderLimit v k s) := by
  unfold State.takeOrderLimit
  split
  · exact stays_answerNow s _ _ _ _
  · exact stays_answerIf s _ _ _ _ .of_same

theorem stays_takeLoad (profile sectors tracks verify : Nat) (k : Key) (s : State) :
    Stays s (State.takeLoad profile sectors tracks verify k s) := by
  unfold State.takeLoad
  split
  · exact stays_answerNow s _ _ _ _
  · exact ((stays_modProfile s _ _).trans (stays_enterTable _ k .loadProfile)).trans .of_same

theorem stays_takeFormat (logical bands : Nat) (ranges : List LayoutRange) (k : Key) (s : State) :
    Stays s (State.takeFormat logical bands ranges k s) := by
  have formatting : ∀ x, Stays s { s with format := .formatting, formatting := some x } := fun _ => .of_same
  unfold State.takeFormat
  dsimp only
  split
  · exact stays_answerNow s _ _ _ _
  · exact (formatting _).trans (stays_enterTable _ _ _)

theorem bounds_completeFormat (s : State) : BoundsKept s s.completeFormat := by
  have formatted : ∀ (x : Layout) e, Stays s { s with
      format := .formatted, layout := some x, formatting := none, bands := x.table, map := [], engine := e } := fun _ _ => .of_same
  unfold State.completeFormat
  split
  · exact ((formatted _ _).bounds.trans (.mapQueues (f := fun _ q => { q with almostFull := false })
      (fun _ _ h => Bool.noConfusion h) _)).trans (stays_answerAll _ _ _).bounds
  · exact .refl s

theorem stays_takeQuiesce (target release interval : Nat) (k : Key) (s : State) :
    Stays s (State.takeQuiesce target release interval k s) := by
  unfold State.takeQuiesce
  split
  · exact stays_answerNow s _ _ _ _
  · exact (Stays.spindle s _).trans (stays_enterTable _ _ _)

theorem stays_takeWake (k : Key) (s : State) : Stays s (State.takeWake k s) :=
  .ite (stays_answerNow s _ _ _ _) <| .ite (stays_answerNow s _ _ _ _) <| .ite (stays_answerNow s _ _ _ _) <|
    ((Stays.spindle s _).trans (stays_enterTable _ _ _)).trans (stays_release _)

theorem bounds_takeRestart (k : Key) (s : State) : BoundsKept s (State.takeRestart k s) := by
  unfold State.takeRestart
  split
  · next down =>
    have entered := stays_enterTable s k .mediaRestart
    have path : (s.enterTable k .mediaRestart).path ≠ .offline := by
      rw [entered.path, down]
      exact PathState.noConfusion
    exact (entered.bounds.trans (bounds_enterRecovering path)).trans (stays_release _).bounds
  · exact (stays_answerNow s _ _ _ _).bounds

theorem command_takeMalformed (s : State) (l : Link) (bytes : List Byte) : CommandKept s (s.takeMalformed l bytes) := by
  unfold State.takeMalformed
  split
  · exact command_takeFrame s l _ _ fun p => (stays_pushFrame p _ _).command
  · refine command_takeFrame s l _ _ fun p => ?_
    unfold State.handOver
    split
    · exact (stays_answerNow p _ _ _ _).command
    · exact (stays_answerNow p _ _ _ _).command
  · exact (Stays.refl s).command

theorem bounds_beginStartUp (s : State) : BoundsKept s s.beginStartUp := by
  have recalled : Stays s s.readMapMemory := .ite .of_same .of_same
  have begun : ∀ t : State, BoundsKept t { t with stage := .waitReady, path := .offline, startWait := true } := fun _ =>
    ⟨⟨id, id, rfl, fun _ => id, .inl, .inr StartStage.noConfusion⟩, Nat.le_refl _, fun _ h => StartStage.noConfusion h⟩
  exact .ite (recalled.bounds.trans (begun _)) (.refl s)

theorem stays_wakeTimerExpires (s : State) : Stays s s.wakeTimerExpires :=
  .ite (.ite (.spindle s _) ((Stays.spindle s _).trans (stays_release _))) (.refl s)

theorem command_grantMedia (s : State) : CommandKept s s.grantMedia := by
  obtain ⟨b, granted, room⟩ := granted_grantMedia s
  refine granted.toCountsKept.command (fun hw => ?_) granted.held
  cases b with
  | false => exact granted.window.trans hw
  | true => exact granted.window.trans (room rfl)

end Sys2Proof.Machine

namespace Sys2Proof.Machine

/-! PROOFS. The bounds through the settling of a step and through every command; start-up and the sequencer's ready (O7, O45). -/

/-! ### Occupancy through the settling (R55) -/

/-- t has of every host queue what its fill state is worked out from as s has it. -/
structure FillsAlike (s t : State) : Prop where
  fillOf : ∀ q : Fin 16, q.val < 15 → t.fillOf q = s.fillOf q

namespace FillsAlike
variable {s t u : State}

theorem refl (s : State) : FillsAlike s s := ⟨fun _ _ => rfl⟩

theorem trans (h : FillsAlike s t) (g : FillsAlike t u) : FillsAlike s u := ⟨fun q hq => (g.fillOf q hq).trans (h.fillOf q hq)⟩

theorem foldl {α : Type} {f : State → α → State} (h : ∀ s a, FillsAlike s (f s a)) (l : List α) (s : State) :
    FillsAlike s (l.foldl f s) := by
  induction l generalizing s with
  | nil => exact refl s
  | cons a l ih => exact (h s a).trans (ih (f s a))

theorem ite {c : Prop} [Decidable c] (ht : FillsAlike s t) (hu : FillsAlike s u) : FillsAlike s (if c then t else u) := by
  split
  · exact ht
  · exact hu

theorem fillsUp (h : FillsAlike s t) (q : Fin 16) : t.fillsUp q = s.fillsUp q := by
  by_cases hq : q.val < 15
  · exact fillsUp_congr (h.fillOf q hq)
  · simp [State.fillsUp, hq]

/-- Where the records and the window stay, and the settings. -/
theorem of_staging (h : StagingKept s t) (k : Kept s t) : FillsAlike s t :=
  ⟨fun q _ => fillOf_congr (h.records q) (k.queues q).offset (k.queues q).depth h.window⟩

end FillsAlike

theorem fillsAlike_resolveLostrel (s : State) (r : Fragment) : FillsAlike s (s.resolveLostrel r) where
  fillOf := fun q hq => by
    have other : (15 : Fin 16) ≠ q := fun h => absurd hq (by rw [← h]; decide)
    have queue : (s.resolveLostrel r).queue q = { s.queue q with poolStall := false } := by
      rw [State.resolveLostrel, State.clearPoolStalls, State.mapQueues_queue, State.modQueue_queue, if_neg other]
      rfl
    exact fillOf_congr (by rw [queue]) (by rw [queue]) (by rw [queue]) (by simp [State.resolveLostrel, State.clearPoolStalls])

theorem fillsAlike_acknowledge (s : State) (k : Key) : FillsAlike s (s.acknowledge k) where
  fillOf := fun q _ => by
    have length : ∀ r : Fragment, (r.acknowledge k).length = r.length := fun r => by
      unfold Fragment.acknowledge
      split
      · rfl
      · rfl
    have sectors : ∀ p : Piece, (p.acknowledge k).sectors = p.sectors := fun p => by
      unfold Piece.acknowledge
      split
      · rfl
      · rfl
    have queues : ∀ t : State, ∀ f, (t.mapWrites f).queue q = t.queue q := fun _ _ => rfl
    have orders : (s.acknowledge k).ordersOf q =
        (s.ordersOf q).map fun w => { w with pieces := w.pieces.map (Piece.acknowledge k) } := by
      rw [State.ordersOf, State.acknowledge, writeOrders_mapWrites, List.filter_map, State.ordersOf]
      congr 2
    have live : ((s.acknowledge k).ordersOf q).map (·.liveSectors) = (s.ordersOf q).map (·.liveSectors) := by
      rw [orders, List.map_map]
      refine List.map_congr_left fun w _ => ?_
      simp [WriteOrder.liveSectors, sectors, Function.comp_def]
    have occupancy : (s.acknowledge k).occupancy q = s.occupancy q := by
      rw [State.occupancy, live, State.acknowledge, queues, State.mapQueues_queue, State.occupancy, List.map_map]
      simp only [Function.comp_def, length]
    rw [State.fillOf, occupancy, State.acknowledge, queues, State.mapQueues_queue, State.fillOf]

theorem fillsAlike_answerPutEntry (s : State) (e : ReqEntry) : FillsAlike s (s.answerPutEntry e) := by
  have answered : ∀ (t : State) k x r, FillsAlike t (t.answerEntry k x r) := fun t k x r =>
    .of_staging (stagingKept_answerEntry t k x r) (Kept.answerEntry t k x r)
  unfold State.answerPutEntry
  split
  · exact .ite ((FillsAlike.ite (fillsAlike_acknowledge s _) (.refl s)).trans (answered _ _ _ _)) (.refl s)
  · exact .refl s

theorem fillsAlike_unmarked (s : State) : FillsAlike s s.unmarked where
  fillOf := fun q _ => by
    have settings : (s.unmarked.queue q).offset = (s.queue q).offset ∧ (s.unmarked.queue q).depth = (s.queue q).depth := by
      rw [State.unmarked, State.mapQueues_queue]
      split
      · exact ⟨rfl, rfl⟩
      · exact ⟨rfl, rfl⟩
    exact fillOf_congr (unmarked_queue s q).1 settings.1 settings.2 (unmarked_window s)

theorem fillsAlike_clearMarks (s : State) : FillsAlike s s.clearMarks := by
  have flushes : ∀ (t : State) k, FillsAlike t (if t.flushWaits k then t else t.answerEntry k .ok .none) := fun t k =>
    .ite (.refl t) (.of_staging (stagingKept_answerEntry t k _ _) (Kept.answerEntry t k _ _))
  exact clearMarks_eq s ▸ (fillsAlike_unmarked s).trans (.foldl flushes _ _)

/-- What is settled ahead of the fill states. -/
def State.measured (s : State) : State := s.settleRecords.answerPuts.clearMarks

theorem fillsAlike_measured (s : State) : FillsAlike s s.measured := by
  have started : FillsAlike s s.advanceStartUp := .of_staging (stagingKept_advanceStartUp s) (Kept.advanceStartUp s)
  have engine : ∀ t : State, FillsAlike t t.releaseEmptied.advanceEngine := fun t =>
    .of_staging ((stagingKept_releaseEmptied t).trans (stagingKept_advanceEngine _))
      ((Kept.releaseEmptied t).trans (Kept.advanceEngine _))
  have delivered : ∀ t : State, FillsAlike t t.deliver.freeEnded := fun t =>
    .of_staging ((stagingKept_deliver t).trans (stagingKept_freeEnded _)) ((Kept.deliver t).trans (Kept.freeEnded _))
  have records : FillsAlike s s.settleRecords :=
    ((started.trans (.foldl fillsAlike_resolveLostrel _ _)).trans (engine _)).trans (delivered _)
  exact (records.trans (.foldl fillsAlike_answerPutEntry _ _)).trans (fillsAlike_clearMarks _)

/-! ### The settling of a step -/

theorem bounds_measured (s : State) : BoundsKept s s.measured := by
  have records : Stays s s.settleRecords :=
    ((((stays_advanceStartUp s).trans (stays_resolveLostrels _)).trans (stays_releaseEmptied _)).trans
      (stays_advanceEngine _)).trans ((stays_deliver _).trans (stays_freeEnded _))
  exact (records.bounds.trans (bounds_answerPuts _)).trans (stays_clearMarks _).bounds

theorem stays_holdTimers (s : State) : Stays s s.holdTimers :=
  .mapQueues (f := fun q x => { x with timer := s.timerOf q }) (fun _ _ => rfl) s

theorem stays_settleWork (s old : State) (ended : Bool) : Stays s (s.settleWork old ended) := by
  have relocation : Stays s (s.startRelocation old ended) := .ite (.thenIf (.engine s _) (stays_release _)) (.refl s)
  have stalls : ∀ t : State, Stays t (t.clearStalls old) := fun t => .ite (stays_clearPoolStalls t) (.refl t)
  have asked : ∀ t : State, Stays t (t.askRelease old) := fun t => .ite (stays_release t) (.refl t)
  have raised : ∀ t : State, Stays t (t.raiseSpace old) := fun t => .foldl (fun s _ => stays_raiseBoth s _ _) _ t
  exact (((relocation.trans (stays_holdTimers _)).trans (stalls _)).trans (asked _)).trans (raised _)

theorem stays_storeStalls (s : State) : Stays s s.storeStalls :=
  .mapQueues (f := fun q x => { x with stall := s.stallOf q }) (fun _ _ => rfl) s

theorem Port.begin_creditsHeld (p : Port) : p.begin_.creditsHeld = p.creditsHeld := by
  unfold Port.begin_
  split
  · rfl
  · rfl

theorem stays_beginSending (s : State) : Stays s s.beginSending :=
  .of_same (creditsA := Port.begin_creditsHeld _) (creditsB := Port.begin_creditsHeld _)

/-- What is settled behind the fill states. -/
def State.finished (s old : State) (ended : Bool) : State := (s.finishReset.settleWork old ended).storeStalls.beginSending

theorem bounds_finished (s old : State) (ended : Bool) : BoundsKept s (s.finished old ended) :=
  (bounds_finishReset s).trans (((stays_settleWork _ old ended).trans (stays_storeStalls _)).trans (stays_beginSending _)).bounds

theorem settle_finished (s old : State) :
    s.settle old = (s.measured.storeFills old).finished old (s.settleRecords.resetWaits == some 0) := settle_eq s old

/-- What a fill state is worked out from, at the end of the settling. -/
theorem settle_fillsUp (s old : State) (q : Fin 16) : (s.settle old).fillsUp q = s.measured.fillsUp q := by
  have kept : Kept (s.measured.storeFills old) (s.settle old) := by
    rw [settle_finished]
    exact (Kept.finishReset _).trans ((Kept.settleWork _ old _).trans ((Kept.storeStalls _).trans (Kept.beginSending _)))
  have staged : StagingKept s.measured (s.settle old) := settle_eq s old ▸ stagingKept_settleRest _ old _
  exact (FillsAlike.of_staging staged ((Kept.storeFills _ old).trans kept)).fillsUp q

theorem storeFills_queue (s old : State) (q : Fin 16) : ((s.storeFills old).queue q).almostFull =
    if s.resetting && !old.resetting || s.fillOf q == old.fillOf q then (s.queue q).almostFull else s.fillsUp q := by
  rw [State.storeFills, State.mapQueues_queue]
  split
  · rfl
  · rfl

/-- R58: what the settling leaves ALMOST_FULL is worked out so. -/
theorem settle_fillsStand {X old : State} (h : CommandKept old X) (hs : old.fillsStand) : (X.settle old).fillsStand := by
  intro q hq
  rw [settle_fillsUp]
  rw [settle_finished] at hq
  have stored := (bounds_finished _ old _).fills q hq
  have effect : X.fillsUp q = true → X.measured.fillsUp q = true := fun hX => ((fillsAlike_measured X).fillsUp q).trans hX
  rw [storeFills_queue] at stored
  split at stored
  · next same =>
    have full := (bounds_measured X).fills q stored
    obtain before | now := h.fills q full
    · rw [Bool.or_eq_true, Bool.and_eq_true, Bool.not_eq_true', beq_iff_eq] at same
      obtain ⟨resetting, notBefore⟩ | same := same
      · obtain during | clear := (bounds_measured X).resets resetting
        · obtain before | full' := h.resets during
          · exact absurd before (Bool.eq_false_iff.mp notBefore)
          · exact effect (full' q full)
        · exact absurd stored (Bool.eq_false_iff.mp (clear q))
      · rw [fillsUp_congr same]
        exact hs q before
    · exact effect now
  · exact stored

theorem settle_heldOffline {X : State} (old : State) (h : X.heldOffline) : (X.settle old).heldOffline := by
  have measured := (bounds_measured X).held h
  have stored : (X.measured.storeFills old).heldOffline := by simpa [State.heldOffline] using measured
  rw [settle_finished]
  exact (bounds_finished _ old _).held stored

/-! ### The hold timers (R57, R59) -/

theorem holdTimers_timer15 (s : State) : (s.holdTimers.queue 15).timer = .stopped := by
  rw [State.holdTimers, State.mapQueues_queue]
  rfl

theorem release_queues (s : State) : s.release.queues = s.queues := by
  unfold State.release
  split <;> rfl

/-- Q15 has no hold timer when the stalls are stored and a unit begins to be sent (R57). -/
theorem settle_noTimer15 (X old : State) : (X.settle old).noTimer15 := by
  have stalls : ∀ t : State, (t.storeStalls.beginSending.queue 15).timer = (t.queue 15).timer := fun t => by
    have sending : t.storeStalls.beginSending.queue 15 = t.storeStalls.queue 15 := rfl
    rw [sending, State.storeStalls, State.mapQueues_queue]
  have raised : ∀ (l : List (Fin 16)) (t : State), (l.foldl (fun s _ => s.raiseBoth .spaceLow s.freeBands) t).queues = t.queues := by
    intro l
    induction l with
    | nil => exact fun _ => rfl
    | cons q l ih => exact fun t => ih _
  have asked : ∀ t : State, (t.askRelease old).queues = t.queues := fun t => by
    unfold State.askRelease
    split
    · exact release_queues t
    · rfl
  have cleared : ∀ t : State, ((t.clearStalls old).queue 15).timer = (t.queue 15).timer := fun t => by
    unfold State.clearStalls
    split
    · rw [State.clearPoolStalls, State.mapQueues_queue]
    · rfl
  rw [State.noTimer15, settle_finished, State.finished, stalls, State.settleWork, State.raiseSpace,
    State.queue_congr (raised _ _), State.queue_congr (asked _), cleared, holdTimers_timer15]

/-! ### Commands and steps -/

/-- t is what settling a command's effect on s leaves, and the effect keeps the bounds. -/
structure SettledBounds (s t : State) : Prop where
  settled : ∃ X : State, t = X.settle s ∧ CommandKept s X

section
variable {s X t : State}

theorem CommandKept.settled (h : CommandKept s X) (ht : finish s X = .next t) : SettledBounds s t := by
  cases ht
  exact ⟨X, rfl, h⟩

theorem BoundsKept.settled (h : BoundsKept s X) (ht : finish s X = .next t) : SettledBounds s t := h.command.settled ht

theorem Stays.settled (h : Stays s X) (ht : finish s X = .next t) : SettledBounds s t := h.command.settled ht

variable {l : Link} {tag : Tag} {r : Request} {owner : Key → State → State}

theorem settledBounds_of_request (h : ∀ k s, CommandKept s (owner k s)) (ht : finish s (s.takeRequest l tag r owner) = .next t) :
    SettledBounds s t := (command_takeRequest s l tag r h).settled ht

theorem settledBounds_of_stays (h : ∀ k s, Stays s (owner k s)) (ht : finish s (s.takeRequest l tag r owner) = .next t) :
    SettledBounds s t := settledBounds_of_request (fun k s => (h k s).command) ht

theorem settledBounds_of_bounds (h : ∀ k s, BoundsKept s (owner k s)) (ht : finish s (s.takeRequest l tag r owner) = .next t) :
    SettledBounds s t := settledBounds_of_request (fun k s => (h k s).command) ht

end

theorem exec_settledBounds {c : Instr} (hc : c ≠ .level0Reset) {s t : State} (h : exec c s = .next t) : SettledBounds s t := by
  cases c with
  | level0Reset => exact absurd rfl hc
  | put l tag lsa count durability => exact settledBounds_of_request (command_takePut lsa count durability) h
  | dataFrame l f =>
    exact (command_takeFrame s l true _ fun p => ((stays_takeData p l f).trans (stays_freeSlot _ l)).command).settled h
  | get l tag lsa count =>
    exact settledBounds_of_stays (fun k p => .ite (stays_takePatternGet p k lsa count) (stays_takeGet p k lsa count)) h
  | trim l tag lsa count => exact settledBounds_of_request (command_takeTrim lsa count) h
  | flush l tag queue => exact settledBounds_of_bounds (bounds_takeFlush queue) h
  | select l tag queue => exact settledBounds_of_stays (stays_takeSelect queue) h
  | clean l tag band => exact settledBounds_of_stays (stays_takeClean band) h
  | setQueueDivision l tag depths => exact settledBounds_of_stays (stays_takeDivision depths) h
  | setQueueThresholds l tag v => exact settledBounds_of_request (command_takeThresholds v) h
  | setIntervals l tag v => exact settledBounds_of_stays (stays_takeIntervals v) h
  | setSpaceMarks l tag v => exact settledBounds_of_stays (stays_takeMarks v) h
  | setLinkMode l tag v => exact settledBounds_of_stays (stays_takeLinkMode v) h
  | setErrorScope l tag v => exact settledBounds_of_stays (stays_takeScope v) h
  | setNoticeEnables l tag v => exact settledBounds_of_stays (stays_takeKinds v (effect := Port.enable) fun _ _ => rfl) h
  | setOrderLimit l tag v => exact settledBounds_of_stays (stays_takeOrderLimit v) h
  | setClearPendingNotices l tag v =>
    exact settledBounds_of_stays (stays_takeKinds v (effect := Port.clearPending) fun _ _ => rfl) h
  | queryBandRecord l tag band => exact settledBounds_of_stays (fun k p => stays_answerQuery p k _) h
  | queryQueueRecord l tag queue => exact settledBounds_of_stays (fun k p => stays_countedQuery p k _) h
  | queryMapLookup l tag lsa => exact settledBounds_of_stays (fun k p => stays_answerQuery p k _) h
  | queryCounts l tag => exact settledBounds_of_stays (fun k p => stays_answerQuery p k _) h
  | queryMediaAndSpindleState l tag => exact settledBounds_of_stays (fun k p => stays_countedQuery p k _) h
  | queryRelocationState l tag => exact settledBounds_of_stays (fun k p => stays_answerQuery p k _) h
  | queryLinkStatesAndTableUse l tag => exact settledBounds_of_stays (fun k p => stays_answerQuery p k _) h
  | queryProfileRecord l tag profile => exact settledBounds_of_stays (fun k p => stays_answerQuery p k _) h
  | querySetting l tag item => exact settledBounds_of_stays (fun k p => stays_answerQuery p k _) h
  | loadProfile l tag profile sectors tracks verify => exact settledBounds_of_stays (stays_takeLoad profile sectors tracks verify) h
  | format l tag logical bands ranges => exact settledBounds_of_stays (stays_takeFormat logical bands ranges) h
  | formatComplete => exact (bounds_completeFormat s).settled h
  | quiesce l tag target release interval => exact settledBounds_of_stays (stays_takeQuiesce target release interval) h
  | wake l tag => exact settledBounds_of_stays stays_takeWake h
  | reset l tag level => exact settledBounds_of_bounds (fun k p => bounds_takeReset p k level) h
  | holdLinkHold l tag named => exact settledBounds_of_bounds (fun k p => bounds_takeHold p k named) h
  | holdLinkRelease l tag named => exact settledBounds_of_bounds (fun k p => bounds_takeRelease p k named) h
  | mediaRestart l tag => exact settledBounds_of_bounds bounds_takeRestart h
  | malformed l bytes => exact (command_takeMalformed s l bytes).settled h
  | idleReceived l => exact (bounds_unitArrives s l).settled h
  | creditReceived l => exact (bounds_creditArrives s l).settled h
  | frameReceived l bytes => exact (bounds_frameArrives s l _ _).settled h
  | frameSent l => exact (bounds_frameGone s l).settled h
  | noticeSent l => exact (bounds_noticeGone s l).settled h
  | linkSilenceTimeout l => exact BoundsKept.settled (.ite (bounds_linkFails s l _) (.refl s)) h
  | quietIntervalEnd l => exact (bounds_quietEnds s l).settled h
  | startUp => exact (bounds_beginStartUp s).settled h
  | sequencerReady => exact (bounds_sequencerReady s).settled h
  | sequencerReadyWithdrawn => exact (bounds_mediaFault s).settled h
  | writeTrackCompletion c => exact (bounds_takeCompletion s 1 c).settled h
  | readTrackCompletion c => exact (bounds_takeCompletion s 2 c).settled h
  | geometryCompletion c => exact (bounds_takeCompletion s 3 c).settled h
  | motionCompletion kind c => exact BoundsKept.settled (.ite (bounds_takeCompletion s kind c) (bounds_mediaFault s)) h
  | sectorDelivery sector data check => exact (bounds_takeSector s sector data check).settled h
  | deadlineExpiry => exact BoundsKept.settled (.ite (bounds_mediaFault s) (.refl s)) h
  | recoveryWaitEnd => exact BoundsKept.settled (.ite (bounds_enterDown s) (.refl s)) h
  | startupWaitEnd => exact BoundsKept.settled (.ite (bounds_enterDown s) (.refl s)) h
  | escalationTimerExpiry => exact Stays.settled (X := { s with escalation := false }) .of_same h
  | holdTimerExpiry q =>
    exact (Stays.modQueue (f := fun x => { x with timer := x.timer.expire }) (fun _ => rfl) s q).settled h
  | wakeTimerExpiry => exact (stays_wakeTimerExpires s).settled h
  | mediaGrant => exact (command_grantMedia s).settled h
  | victimSelection => exact (stays_selectVictim s).settled h
  | relocationRecords => exact (stays_makeRecords s).settled h

/-- What every step keeps. -/
structure StepKept (s t : State) : Prop where
  window : s.windowFits → t.windowFits
  fetchRun : s.fetchRunFits → t.fetchRunFits
  credits : s.creditsFit → t.creditsFit
  fills : s.fillsStand → t.fillsStand
  sequence : s.counterInRange → s.sequence ≤ t.sequence ∧ t.sequence ≤ s.sequence + 1 ∧ t.counterInRange
  held : s.heldOffline → t.heldOffline

theorem stepKept_refl (s : State) : StepKept s s := ⟨id, id, id, id, fun h => ⟨Nat.le_refl _, Nat.le_succ _, h⟩, id⟩

/-- A level 0 reset leaves an empty window, no credit, NORMAL queues and the counter (R176). -/
theorem stepKept_level0 (s : State) : StepKept s s.level0 where
  window := fun _ => Nat.zero_le _
  fetchRun := fun _ => Nat.zero_le _
  credits := fun _ => ⟨Nat.zero_le _, Nat.zero_le _⟩
  fills := fun _ q hq => by
    have normal : (s.level0.queue q).almostFull = false :=
      congrArg Queue.almostFull (Vector.getElem_replicate (a := Queue.reset) q.isLt)
    exact absurd hq (Bool.eq_false_iff.mp normal)
  sequence := fun h => ⟨Nat.le_refl _, Nat.le_succ _, h⟩
  held := fun _ _ => ⟨rfl, rfl, rfl, rfl⟩

theorem stepKept_settle {s X : State} (h : CommandKept s X) : StepKept s (X.settle s) := by
  have kept := Kept.settleWhole X s
  refine ⟨fun hs => ?_, fun hs => ?_, fun hs => ?_, settle_fillsStand h, fun hs => ?_, fun hs => settle_heldOffline s (h.held hs)⟩
  · rw [State.windowFits, kept.window]
    exact h.window hs
  · rw [State.fetchRunFits, kept.fetchRun]
    exact h.fetchRun hs
  · rw [State.creditsFit, kept.portA.creditsHeld, kept.portB.creditsHeld]
    exact h.credits hs
  · rw [State.counterInRange, kept.sequence]
    exact h.sequence hs

theorem stepKept_step {s t : State} (h : step s = .next t) : StepKept s t := by
  unfold step at h
  split at h
  · cases h
    exact stepKept_refl s
  · next c rest _ =>
    have waiting : ∀ t, StepKept { s with pending := rest } t → StepKept s t := fun _ g =>
      ⟨g.window, g.fetchRun, g.credits, g.fills, g.sequence, g.held⟩
    by_cases hc : c = .level0Reset
    · subst hc
      cases h
      exact waiting _ (stepKept_level0 _)
    · obtain ⟨X, rfl, command⟩ := exec_settledBounds hc h
      exact waiting _ (stepKept_settle command)

/-- Settles O7: every command keeps the bounds, and the settling works the fill states and the hold timers out. -/
theorem boundsAreKept : Obligations.BoundsAreKept := by
  have noTimer : KeptByStep State.noTimer15 := by
    refine keptByStep_of_settle (fun s rest _ => ?_) settle_noTimer15
    exact congrArg Queue.timer (Vector.getElem_replicate (a := Queue.reset) (by decide : 15 < 16))
  exact ⟨⟨fun _ _ hs h => (stepKept_step h).window hs, fun _ _ hs h => (stepKept_step h).fetchRun hs,
    fun _ _ hs h => (stepKept_step h).credits hs, noTimer, fun _ _ hs h => (stepKept_step h).fills hs⟩,
    fun _ _ hs h => (stepKept_step h).sequence hs⟩

end Sys2Proof.Machine

namespace Sys2Proof.Machine

/-! PROOFS. Start-up begun, and the sequencer's ready (O45). -/

/-! ### Map memory read (R177) -/

theorem profile_of_lt (s : State) {n : Nat} (h : n < 8) : s.profile n = s.profiles[n] := by
  simp [State.profile, h]

theorem readMapMemory_unformatted {s : State} (h : s.format ≠ .formatted) :
    s.readMapMemory.map = [] ∧ s.readMapMemory.bands = [] ∧ s.readMapMemory.layout = none := by
  simp [State.readMapMemory, h]

theorem readMapMemory_formatted {s : State} (h : s.format = .formatted) :
    s.readMapMemory.map = s.map ∧ s.readMapMemory.bands = s.bands := by
  simp [State.readMapMemory, h]

/-- A profile UPDATING at a power loss is back in its state before the update. -/
theorem readMapMemory_profile (s : State) {n : Nat} (hn : n < 8) (hu : (s.profile n).state = .updating) :
    s.readMapMemory.profile n = (s.profile n).back := by
  have back : s.readMapMemory.profiles[n] = (s.profile n).back := by
    rw [profile_of_lt s hn] at hu ⊢
    unfold State.readMapMemory
    dsimp only
    split
    · simp [hu, Profile.back]
    · simp [hu, Profile.back]
  rw [profile_of_lt _ hn, back]

/-! ### START_UP and ready, by the state they find -/

section
variable {s X : State}

theorem exec_startUp (s : State) : exec .startUp s = finish s s.beginStartUp := rfl

theorem exec_sequencerReady (s : State) : exec .sequencerReady s = finish s s.sequencerReady := rfl

theorem gives_startUp (h : s.beginStartUp = X) : Gives .startUp s X := gives_of_finish (h ▸ exec_startUp s)

theorem gives_sequencerReady (h : s.sequencerReady = X) : Gives .sequencerReady s X := gives_of_finish (h ▸ exec_sequencerReady s)

/-- The ready that start-up waits for. -/
theorem sequencerReady_waited (hp : s.path = .offline) (hs : s.stage = .waitReady) :
    s.sequencerReady = State.startUpSpin { s with path := .ready, startWait := false } := by
  simp [State.sequencerReady, hp, hs]

theorem sequencerReady_recovering (hp : s.path = .recovering) : s.sequencerReady = State.answerAll { s with
    path := .ready, recoveryWait := false, escalation := true, stage := s.stage.reinstalled
    geometry := s.reinstalls .reinstall ++ s.geometry.filter GeoOrder.forLoad } s.mediaRestarts .ok := by
  simp only [State.sequencerReady, hp]
  rfl

/-- A ready that nothing waits for. -/
theorem sequencerReady_idle (h : s.path = .ready ∨ s.path = .down ∨ (s.path = .offline ∧ s.stage = .held)) :
    s.sequencerReady = s := by
  obtain h | h | ⟨h, held⟩ := h
  · simp [State.sequencerReady, h]
  · simp [State.sequencerReady, h]
  · simp [State.sequencerReady, h, held]

end

/-- Settles O45: each command by the state it finds; no step takes a part held in reset out of OFFLINE without beginning start-up. -/
theorem startUpAndReady : Obligations.StartUpAndReady := by
  unfold Obligations.StartUpAndReady
  refine ⟨fun s => ⟨fun held => gives_startUp (if_pos held), fun begun => gives_startUp (if_neg begun), fun path stage => ?waited,
    fun path => gives_sequencerReady (sequencerReady_recovering path), fun idle => gives_sequencerReady (sequencerReady_idle idle),
    fun starting _ => if_pos starting, readMapMemory_unformatted, readMapMemory_formatted,
    fun n hn hu => readMapMemory_profile s hn hu⟩, fun _ _ hs h => (stepKept_step h).held hs⟩
  case waited => exact gives_sequencerReady (sequencerReady_waited path stage)

end Sys2Proof.Machine

namespace Sys2Proof.Machine

/-! PROOFS. A Get's read completed, and the delivery of its sectors (O52). -/

/-! ### A Get's read completed (R93, R115, R116) -/

section
variable {s : State} {r : ReadOrder} {f : FetchRead} {rest : List Order} {c : Completion}

/-- The positions needed that count as read, settled OK. -/
def State.gotOk (s : State) (f : FetchRead) (read : Nat → Bool) : State :=
  s.modSlot f.slot (FetchSlot.settle ((f.needed.filter fun x => read x.1).map (·.2)) .ok)

section
variable {read : Nat → Bool} (active : (s.slot f.slot).state = .active)
include active

theorem fetchCompleted_all (hl : (f.needed.filter fun x => !read x.1) = []) :
    s.fetchCompleted f read = (s.gotOk f read).releaseRead f.band := by
  simp only [State.fetchCompleted, FetchSlot.isActive, active, beq_self_eq_true, if_true, hl, List.isEmpty_nil]
  rfl

theorem fetchCompleted_initial (hl : (f.needed.filter fun x => !read x.1) ≠ []) (hs : f.stage = .initial) :
    s.fetchCompleted f read = { s.gotOk f read with
      fetchList := (s.gotOk f read).fetchList ++ [f.reread (f.needed.filter fun x => !read x.1)] } := by
  have some : ¬ (f.needed.filter fun x => !read x.1).isEmpty = true := mt List.isEmpty_iff.mp hl
  simp only [State.fetchCompleted, FetchSlot.isActive, active, beq_self_eq_true, if_true, if_neg some, hs]
  rfl

theorem fetchCompleted_reread (hl : (f.needed.filter fun x => !read x.1) ≠ []) (hs : f.stage = .reread) :
    s.fetchCompleted f read = (s.gotOk f read).failRead f (f.needed.filter fun x => !read x.1) := by
  have some : ¬ (f.needed.filter fun x => !read x.1).isEmpty = true := mt List.isEmpty_iff.mp hl
  simp only [State.fetchCompleted, FetchSlot.isActive, active, beq_self_eq_true, if_true, if_neg some, hs]
  rfl

end

/-- The completion of the oldest order, a Get's read, is handed to the Fetch Unit. -/
theorem takeCompletion_fetch (hp : s.path = .ready) (hw : s.window = .read r :: rest) (ho : r.owner = .fetch f)
    (ha : (Order.read r).accepts c = true) (hc : c.check = checkValue (completionBytes 2 c)) :
    s.takeCompletion 2 c = (s.oldestLeft rest).fetchCompleted f (r.counts c) := by
  rw [takeCompletion_oldest hp hw hc rfl ha]
  simp [State.orderCompleted, State.readCompleted, ho]

end

/-! ### The entry of a Get, ahead of the delivery -/

/-- t has the fetch slots of s, and leaves the entry of a request that the engine has not to answer. -/
structure SparesEntry (k : Key) (s t : State) : Prop where
  slots : t.slots = s.slots
  entry : s.engine.clean ≠ some k → t.entry k = s.entry k
  clean : s.engine.clean ≠ some k → t.engine.clean ≠ some k

namespace SparesEntry
variable {k : Key} {s t u : State}

/-- A change of none of the table, the engine's Clean and the slots. -/
theorem of_same (ht : t.table = s.table := by rfl) (he : t.engine.clean = s.engine.clean := by rfl)
    (hs : t.slots = s.slots := by rfl) : SparesEntry k s t where
  slots := hs
  entry := fun _ => by rw [State.entry, ht, State.entry]
  clean := fun h => he ▸ h

theorem refl (s : State) : SparesEntry k s s := .of_same

theorem trans (h : SparesEntry k s t) (g : SparesEntry k t u) : SparesEntry k s u where
  slots := g.slots.trans h.slots
  entry := fun hs => (g.entry (h.clean hs)).trans (h.entry hs)
  clean := fun hs => g.clean (h.clean hs)

theorem foldl {α : Type} {f : State → α → State} (h : ∀ s a, SparesEntry k s (f s a)) (l : List α) (s : State) :
    SparesEntry k s (l.foldl f s) := by
  induction l generalizing s with
  | nil => exact refl s
  | cons a l ih => exact (h s a).trans (ih (f s a))

theorem ite {c : Prop} [Decidable c] (ht : SparesEntry k s t) (hu : SparesEntry k s u) : SparesEntry k s (if c then t else u) := by
  split
  · exact ht
  · exact hu

/-- A further change where a condition holds. -/
theorem thenIf {c : Prop} [Decidable c] (ht : SparesEntry k s t) (hu : SparesEntry k t u) :
    SparesEntry k s (if c then u else t) := .ite (ht.trans hu) ht

end SparesEntry

theorem answerEntry_slots (s : State) (x : Key) (st : Status) (r : Result) : (s.answerEntry x st r).slots = s.slots := by
  obtain ⟨_, _, _, only⟩ := answerEntry_only s x st r
  rw [only]

section
variable {k : Key}

theorem sparesEntry_endRun (s : State) (x : Status) : SparesEntry k s (s.endRun x) := by
  have idle : SparesEntry k s { s with engine := { Engine.reset with deferred := s.engine.deferred } } :=
    ⟨rfl, fun _ => rfl, fun _ => nofun⟩
  cases hc : s.engine.clean with
  | none => exact endRun_of_none hc x ▸ idle
  | some c =>
    rw [endRun_of_some hc]
    refine ⟨answerEntry_slots _ _ _ _, fun hk => ?_, fun hk => ?_⟩
    · have other : c ≠ k := fun h => hk (hc.trans (congrArg some h))
      exact (spares_answerEntry other _ x .none).entry
    · obtain ⟨_, _, _, only⟩ := answerEntry_only { s with engine := { Engine.reset with deferred := s.engine.deferred } } c x .none
      rw [only]
      exact nofun

theorem sparesEntry_continueRun (s : State) : SparesEntry k s s.continueRun := .ite .of_same (sparesEntry_endRun s .ok)

theorem sparesEntry_victimReleased (s : State) : SparesEntry k s s.victimReleased :=
  (.of_same : SparesEntry k s { s with engine := { s.engine with deferred := none } }).trans
    (.ite (sparesEntry_endRun _ _) (sparesEntry_continueRun _))

theorem sparesEntry_releaseBand (s : State) (b : Nat) : SparesEntry k s (s.releaseBand b) :=
  .thenIf (.of_same : SparesEntry k s ((s.modBand b Band.released).raiseBoth .relocationDone b)) (sparesEntry_victimReleased _)

theorem sparesEntry_releaseEmptied (s : State) : SparesEntry k s s.releaseEmptied := by
  refine .foldl (fun s x => ?_) _ s
  exact sparesEntry_releaseBand s x.2

theorem sparesEntry_clearReads (s : State) : SparesEntry k s s.clearReads :=
  (.of_same : SparesEntry k s (s.mapBands fun b => { b with pendingReads := 0 })).trans (sparesEntry_releaseEmptied _)

theorem sparesEntry_enterService (s : State) : SparesEntry k s s.enterService := by
  have closed : ∀ t : State, SparesEntry k t { (t.mapBands fun b => b.skipRest.shut.uncleaned) with
      service := .inService, stage := .done, startWait := false } := fun _ => .of_same
  have raised : ∀ t : State, ∀ d, SparesEntry k t (t.raiseBoth .mapLow d) := fun _ _ => .of_same
  exact .thenIf ((sparesEntry_clearReads s).trans (closed _)) (raised _ _)

theorem sparesEntry_nextFooter (s : State) : SparesEntry k s s.nextFooter := by
  unfold State.nextFooter
  split
  · exact sparesEntry_enterService s
  · exact .of_same

theorem sparesEntry_advanceStartUp (s : State) : SparesEntry k s s.advanceStartUp :=
  .ite (.ite ((sparesEntry_clearReads s).trans (sparesEntry_nextFooter _)) (sparesEntry_enterService s)) (.refl s)

theorem sparesEntry_resolveLostrels (s : State) : SparesEntry k s s.resolveLostrels :=
  .foldl (fun s r => .of_same (by simp [State.resolveLostrel]) (by simp [State.resolveLostrel]) (by simp [State.resolveLostrel])) _ s

theorem sparesEntry_searchTrack (s : State) : SparesEntry k s s.searchTrack := by
  unfold State.searchTrack
  split
  · exact .refl s
  · split
    · exact .of_same
    · exact .of_same

theorem sparesEntry_testGates (s : State) : SparesEntry k s s.testGates := by
  unfold State.testGates
  split
  · exact .ite .of_same (.refl s)
  · exact .refl s

theorem sparesEntry_advanceEngine (s : State) : SparesEntry k s s.advanceEngine := by
  have dropped : SparesEntry k s (s.setHand none) := .of_same
  unfold State.advanceEngine
  refine .ite ?_ (.refl s)
  split
  · exact .ite ((dropped.trans (sparesEntry_searchTrack _)).trans (sparesEntry_testGates _)) (sparesEntry_testGates s)
  · exact (sparesEntry_searchTrack s).trans (sparesEntry_testGates _)

/-- What is settled ahead of the delivery. -/
def State.undelivered (s : State) : State := s.advanceStartUp.resolveLostrels.releaseEmptied.advanceEngine

theorem settleRecords_undelivered (s : State) : s.settleRecords = s.undelivered.deliver.freeEnded := rfl

theorem sparesEntry_undelivered (s : State) : SparesEntry k s s.undelivered :=
  (((sparesEntry_advanceStartUp s).trans (sparesEntry_resolveLostrels _)).trans (sparesEntry_releaseEmptied _)).trans
    (sparesEntry_advanceEngine _)

end

/-! ### The delivery of a slot (R119, R120) -/

theorem finalStatus_eq (x : FetchSlot) : x.finalStatus =
    if x.mediaDown = true then Status.mediaDown
    else if ∃ y ∈ x.sectors, y.status = some .lost ∨ y.status = some .mediaError then .partial_ else .ok := by
  simp [FetchSlot.finalStatus]

theorem deliverSlot_inactive {s : State} {i : Fin 16} (h : (s.slot i).state ≠ .active) : s.deliverSlot i = s :=
  if_neg (by simp [FetchSlot.isActive, h])

theorem deliverSlot_unowed {s : State} {i : Fin 16} (h : s.entry (s.slot i).key = none) : s.deliverSlot i = s := by
  simp [State.deliverSlot, h]

/-- The settled sectors of a slot joined to the transmit queue of its Get's reply link. -/
def State.framesSent (s : State) (i : Fin 16) (e : ReqEntry) : State :=
  s.modPort e.reply fun p => { p with
    txq := p.txq ++ dataFrames (s.slot i).key e.redirected (s.slot i).next (s.slot i).sendable }

section
variable {s : State} {i : Fin 16} {e : ReqEntry} (active : (s.slot i).state = .active) (owed : s.entry (s.slot i).key = some e)
include active owed

/-- A slot whose last sector is sent. -/
theorem deliverSlot_last (h : (s.slot i).next + (s.slot i).sendable.length = (s.slot i).count) : s.deliverSlot i =
    ((s.framesSent i e).answerEntry (s.slot i).key (s.slot i).finalStatus .none).modSlot i fun _ => FetchSlot.empty := by
  simp only [State.deliverSlot, FetchSlot.isActive, active, beq_self_eq_true, if_true, owed, if_pos h]
  rfl

theorem deliverSlot_part (h : (s.slot i).next + (s.slot i).sendable.length ≠ (s.slot i).count) : s.deliverSlot i =
    (s.framesSent i e).modSlot i fun x => { x with next := x.next + (s.slot i).sendable.length } := by
  simp only [State.deliverSlot, FetchSlot.isActive, active, beq_self_eq_true, if_true, owed, if_neg h]
  rfl

end

theorem framesSent_slot (s : State) (i j : Fin 16) (e : ReqEntry) : (s.framesSent i e).slot j = s.slot j := by
  simp [State.framesSent, State.slot]

theorem framesSent_entry (s : State) (i : Fin 16) (e : ReqEntry) (k : Key) : (s.framesSent i e).entry k = s.entry k := by
  simp [State.framesSent, State.entry]

theorem answerEntry_slot (s : State) (x : Key) (st : Status) (r : Result) (j : Fin 16) : (s.answerEntry x st r).slot j = s.slot j := by
  simp only [State.slot, answerEntry_slots]

/-- Three ways a slot is delivered: nothing goes, the last of its sectors goes, or some go. -/
theorem deliverSlot_cases (s : State) (i : Fin 16) :
    s.deliverSlot i = s ∧ ((s.slot i).state = .active → s.entry (s.slot i).key = none) ∨
    ∃ e, (s.slot i).state = .active ∧ s.entry (s.slot i).key = some e ∧
      (s.deliverSlot i =
          ((s.framesSent i e).answerEntry (s.slot i).key (s.slot i).finalStatus .none).modSlot i (fun _ => FetchSlot.empty) ∨
        s.deliverSlot i = (s.framesSent i e).modSlot i fun x => { x with next := x.next + (s.slot i).sendable.length }) := by
  by_cases active : (s.slot i).state = .active
  · cases owed : s.entry (s.slot i).key with
    | none => exact .inl ⟨deliverSlot_unowed owed, fun _ => rfl⟩
    | some e =>
      refine .inr ⟨e, active, rfl, ?_⟩
      by_cases last : (s.slot i).next + (s.slot i).sendable.length = (s.slot i).count
      · exact .inl (deliverSlot_last active owed last)
      · exact .inr (deliverSlot_part active owed last)
  · exact .inl ⟨deliverSlot_inactive active, fun h => absurd h active⟩

/-- The delivery of a slot leaves the others. -/
theorem deliverSlot_slot (s : State) {i j : Fin 16} (h : j ≠ i) : (s.deliverSlot i).slot j = s.slot j := by
  obtain ⟨same, _⟩ | ⟨e, _, _, last | part⟩ := deliverSlot_cases s i
  · rw [same]
  · rw [last, State.modSlot_slot, if_neg h.symm, answerEntry_slot, framesSent_slot]
  · rw [part, State.modSlot_slot, if_neg h.symm, framesSent_slot]

/-- A slot delivered claims no other request than it did. -/
theorem deliverSlot_claim {s : State} {i : Fin 16} (h : ((s.deliverSlot i).slot i).state = .active) :
    (s.slot i).state = .active ∧ ((s.deliverSlot i).slot i).key = (s.slot i).key := by
  obtain ⟨same, _⟩ | ⟨e, active, _, last | part⟩ := deliverSlot_cases s i
  · rw [same] at h ⊢
    exact ⟨h, rfl⟩
  · rw [last, State.modSlot_slot, if_pos rfl] at h
    cases h
  · rw [part, State.modSlot_slot, if_pos rfl, framesSent_slot]
    exact ⟨active, rfl⟩

/-- The delivery of a slot answers no other request than its own. -/
theorem deliverSlot_entry {s : State} {i : Fin 16} {k : Key} (h : (s.slot i).state = .active → (s.slot i).key ≠ k) :
    (s.deliverSlot i).entry k = s.entry k := by
  have slots : ∀ (t : State) f, (t.modSlot i f).entry k = t.entry k := fun _ _ => rfl
  obtain ⟨same, _⟩ | ⟨e, active, _, last | part⟩ := deliverSlot_cases s i
  · rw [same]
  · rw [last, slots, (spares_answerEntry (h active) _ _ _).entry, framesSent_entry]
  · rw [part, slots, framesSent_entry]

/-- Slots delivered one after another leave one that is not among them, and the entry of its Get. -/
theorem deliverSlots_other {l : List (Fin 16)} {s : State} {i : Fin 16} {k : Key} (hi : i ∉ l)
    (sole : ∀ j, j ≠ i → (s.slot j).state = .active → (s.slot j).key ≠ k) :
    (l.foldl State.deliverSlot s).slot i = s.slot i ∧ (l.foldl State.deliverSlot s).entry k = s.entry k := by
  induction l generalizing s with
  | nil => exact ⟨rfl, rfl⟩
  | cons j l ih =>
    obtain ⟨hj, hl⟩ := not_or.mp (mt List.mem_cons.mpr hi)
    have others : ∀ m, m ≠ i → ((s.deliverSlot j).slot m).state = .active → ((s.deliverSlot j).slot m).key ≠ k := by
      intro m hm active
      obtain rfl | hmj := eq_or_ne m j
      · obtain ⟨was, key⟩ := deliverSlot_claim active
        exact key ▸ sole m hm was
      · rw [deliverSlot_slot s hmj] at active ⊢
        exact sole m hm active
    obtain ⟨slot, entry⟩ := ih hl others
    exact ⟨slot.trans (deliverSlot_slot s hj), entry.trans (deliverSlot_entry (sole j (Ne.symm hj)))⟩

/-- The data frames of a slot's settled sectors (R119). -/
def FetchSlot.frames (x : FetchSlot) (e : ReqEntry) : List OutFrame := dataFrames x.key e.redirected x.next x.sendable

/-- The final response of a slot's Get (R120). -/
def FetchSlot.response (x : FetchSlot) (e : ReqEntry) : OutFrame :=
  { tag := x.key.tag, origin := x.key.origin, redirected := e.redirected, holds := .entry
    body := .response e.info.kind x.finalStatus .none }

theorem modSlot_port (s : State) (i : Fin 16) (f : FetchSlot → FetchSlot) (l : Link) : (s.modSlot i f).port l = s.port l := by
  cases l
  · rfl
  · rfl

theorem modEntry_port (s : State) (k : Key) (f : ReqEntry → ReqEntry) (l : Link) : (s.modEntry k f).port l = s.port l := by
  cases l
  · rfl
  · rfl

theorem framesSent_txq (s : State) (i : Fin 16) (e : ReqEntry) :
    ((s.framesSent i e).port e.reply).txq = (s.port e.reply).txq ++ (s.slot i).frames e := by
  rw [State.framesSent, State.modPort_self]
  rfl

/-- What the delivery of a slot's settled sectors x leaves in t: of the slot, and behind one another in the transmit queue of the Get's
reply link. -/
structure SlotSent (i : Fin 16) (x : FetchSlot) (e : ReqEntry) (t : State) : Prop where
  last : x.next + x.sendable.length = x.count → (t.slot i).state = .free ∧ x.frames e ++ [x.response e] <:+: (t.port e.reply).txq
  part : x.next + x.sendable.length ≠ x.count →
    t.slot i = { x with next := x.next + x.sendable.length } ∧ x.frames e <:+: (t.port e.reply).txq

/-- What follows the delivery leaves a slot that is not in ENDING, and puts frames behind those that stand. -/
theorem SlotSent.trans {i : Fin 16} {x : FetchSlot} {e : ReqEntry} {t u : State} (h : SlotSent i x e t)
    (hs : (t.slot i).state ≠ .ending → u.slot i = t.slot i) (hk : Kept t u) (hx : x.state ≠ .ending) : SlotSent i x e u where
  last := fun all => by
    obtain ⟨free, sent⟩ := h.last all
    rw [hs (by rw [free]; exact SlotState.noConfusion)]
    exact ⟨free, sent.trans (hk.port e.reply).txq.isInfix⟩
  part := fun some => by
    obtain ⟨slot, sent⟩ := h.part some
    rw [hs (by rw [slot]; exact hx)]
    exact ⟨slot, sent.trans (hk.port e.reply).txq.isInfix⟩

section
variable {s : State} {i : Fin 16} {e : ReqEntry}

theorem deliverSlot_sent (active : (s.slot i).state = .active) (owed : s.entry (s.slot i).key = some e)
    (ha : e.answered = false) (hd : e.discarded = false) : SlotSent i (s.slot i) e (s.deliverSlot i) where
  last := fun all => by
    have entry : (s.framesSent i e).entry (s.slot i).key = some e := (framesSent_entry s i e _).trans owed
    have queue : ((s.deliverSlot i).port e.reply).txq = (s.port e.reply).txq ++ ((s.slot i).frames e ++ [(s.slot i).response e]) := by
      rw [deliverSlot_last active owed all, modSlot_port, answerEntry_open entry ha hd, State.pushFrame, State.modPort_self,
        modEntry_port, ← List.append_assoc, ← framesSent_txq]
      rfl
    refine ⟨?_, queue ▸ (List.suffix_append _ _).isInfix⟩
    rw [deliverSlot_last active owed all, State.modSlot_slot, if_pos rfl]
    rfl
  part := fun some => by
    have queue : ((s.deliverSlot i).port e.reply).txq = (s.port e.reply).txq ++ (s.slot i).frames e := by
      rw [deliverSlot_part active owed some, modSlot_port, framesSent_txq]
    refine ⟨?_, queue ▸ (List.suffix_append _ _).isInfix⟩
    rw [deliverSlot_part active owed some, State.modSlot_slot, if_pos rfl, framesSent_slot]

theorem deliverSlots_slot {l : List (Fin 16)} {s : State} (hi : i ∉ l) : (l.foldl State.deliverSlot s).slot i = s.slot i := by
  induction l generalizing s with
  | nil => rfl
  | cons j l ih =>
    obtain ⟨hj, hl⟩ := not_or.mp (mt List.mem_cons.mpr hi)
    exact (ih hl).trans (deliverSlot_slot s hj)

theorem deliverPatterns_slots (l : List ReqEntry) (s : State) : (l.foldl State.deliverPattern s).slots = s.slots := by
  have one : ∀ (s : State) e, (s.deliverPattern e).slots = s.slots := fun s e => by
    unfold State.deliverPattern
    split
    · split
      · rfl
      · dsimp only
        split
        · rw [answerEntry_slots]
          simp
        · simp
    · rfl
  induction l generalizing s with
  | nil => rfl
  | cons a l ih => exact (ih _).trans (one s a)

/-- The delivery of every slot, of one of them. -/
theorem deliver_sent (active : (s.slot i).state = .active) (owed : s.entry (s.slot i).key = some e) (ha : e.answered = false)
    (hd : e.discarded = false) (sole : ∀ j, j ≠ i → (s.slot j).state = .active → (s.slot j).key ≠ (s.slot i).key) :
    SlotSent i (s.slot i) e s.deliver := by
  obtain ⟨before, after, split⟩ := List.append_of_mem (mem_allQueues i)
  have once : (before ++ i :: after).Nodup := split ▸ (by decide : allQueues.Nodup)
  obtain ⟨_, tail, apart⟩ := List.nodup_append.mp once
  have notBefore : i ∉ before := fun h => apart i h i List.mem_cons_self rfl
  have notAfter : i ∉ after := (List.nodup_cons.mp tail).1
  obtain ⟨slot, entry⟩ := deliverSlots_other notBefore sole
  generalize hB : before.foldl State.deliverSlot s = B at slot entry
  have sent : SlotSent i (s.slot i) e (B.deliverSlot i) := by
    have own := deliverSlot_sent (s := B) (i := i) (e := e) (by rwa [slot]) (by rw [slot, entry]; exact owed) ha hd
    rwa [slot] at own
  have deliver : s.deliver = (after.foldl State.deliverSlot (B.deliverSlot i)).table.foldl State.deliverPattern
      (after.foldl State.deliverSlot (B.deliverSlot i)) := by
    rw [State.deliver, split, List.foldl_append, hB, List.foldl_cons]
  rw [deliver]
  refine sent.trans (fun _ => ?_) ((Kept.foldl Kept.deliverSlot after _).trans (Kept.foldl Kept.deliverPattern _ _))
    (by rw [active]; exact SlotState.noConfusion)
  rw [State.slot, deliverPatterns_slots]
  exact deliverSlots_slot notAfter

end

end Sys2Proof.Machine

namespace Sys2Proof.Machine

/-! PROOFS. The fetch slots behind the delivery, to the end of a step; and that no slot rests before a settled sector (O52). -/

/-! ### The settling behind the delivery leaves the slots -/

theorem slots_foldl {α : Type} {f : State → α → State} (h : ∀ s a, (f s a).slots = s.slots) (l : List α) (s : State) :
    (l.foldl f s).slots = s.slots := by
  induction l generalizing s with
  | nil => rfl
  | cons a l ih => exact (ih _).trans (h s a)

theorem answerPutEntry_slots (s : State) (e : ReqEntry) : (s.answerPutEntry e).slots = s.slots := by
  unfold State.answerPutEntry State.answerPut
  split
  · split
    · rw [answerEntry_slots]
      split
      · simp [State.acknowledge]
      · rfl
    · rfl
  · rfl

theorem clearMarks_slots (s : State) : s.clearMarks.slots = s.slots := by
  have unmarked : s.unmarked.slots = s.slots := State.mapQueues_slots s _
  have flushes : ∀ (t : State) k, (if t.flushWaits k then t else t.answerEntry k .ok .none).slots = t.slots := fun t k => by
    split
    · rfl
    · exact answerEntry_slots _ _ _ _
  rw [clearMarks_eq]
  exact (slots_foldl flushes _ _).trans unmarked

theorem finishReset_slots (s : State) : s.finishReset.slots = s.slots := by
  unfold State.finishReset State.answerReset
  dsimp only
  split
  · split
    · rfl
    · split
      · rfl
      · exact State.pushFrame_slots _ _ _
  · rfl

theorem release_slots (s : State) : s.release.slots = s.slots := by
  unfold State.release State.startSpin
  split <;> rfl

theorem settleWork_slots (s old : State) (ended : Bool) : (s.settleWork old ended).slots = s.slots := by
  have relocation : (s.startRelocation old ended).slots = s.slots := by
    unfold State.startRelocation
    dsimp only
    split
    · split
      · exact release_slots _
      · rfl
    · rfl
  have timers : ∀ t : State, t.holdTimers.slots = t.slots := fun t => State.mapQueues_slots t _
  have stalls : ∀ t : State, (t.clearStalls old).slots = t.slots := fun t => by
    unfold State.clearStalls
    split
    · exact State.clearPoolStalls_slots t
    · rfl
  have asked : ∀ t : State, (t.askRelease old).slots = t.slots := fun t => by
    unfold State.askRelease
    split
    · exact release_slots t
    · rfl
  have raised : ∀ t : State, (t.raiseSpace old).slots = t.slots := fun t => slots_foldl (fun _ _ => State.raiseBoth_slots _ _ _) _ t
  rw [State.settleWork, raised, asked, stalls, timers, relocation]

/-- The fetch slots at the end of a step's settling. -/
theorem settle_slots (s old : State) : (s.settle old).slots = s.undelivered.deliver.freeEnded.slots := by
  have sending : ∀ t : State, t.beginSending.slots = t.slots := fun _ => rfl
  have stalls : ∀ t : State, t.storeStalls.slots = t.slots := fun t => State.mapQueues_slots t _
  have puts : ∀ t : State, t.answerPuts.slots = t.slots := fun t => slots_foldl answerPutEntry_slots _ t
  rw [settle_eq, sending, stalls, settleWork_slots, finishReset_slots, State.storeFills_slots, clearMarks_slots, puts,
    settleRecords_undelivered]

theorem freeEnded_slot {s : State} {i : Fin 16} (h : (s.slot i).state ≠ .ending) : s.freeEnded.slot i = s.slot i := by
  rw [State.freeEnded, State.mapSlots_slot, if_neg fun ⟨ending, _⟩ => h ending]

/-- What the delivery sends stands at the end of the step. -/
theorem SlotSent.settled {i : Fin 16} {x : FetchSlot} {e : ReqEntry} {X : State} (h : SlotSent i x e X.undelivered.deliver)
    (hx : x.state ≠ .ending) (old : State) : SlotSent i x e (X.settle old) := by
  have ended : Kept X.undelivered.deliver X.settleRecords := Kept.freeEnded _
  refine h.trans (fun hs => ?_) (ended.trans ((Kept.settleRequests _ old).trans ((Kept.settleWork _ old _).trans
    ((Kept.storeStalls _).trans (Kept.beginSending _))))) hx
  rw [← freeEnded_slot hs, State.slot, settle_slots]
  rfl

/-! ### No slot rests before a settled sector (R119) -/

/-- A slot, if ACTIVE for a Get still owed its answer, does not stand before a settled sector. -/
def SlotServed (i : Fin 16) (s : State) : Prop :=
  (s.slot i).state = .active → (s.entry (s.slot i).key).isSome → ∀ t, (s.slot i).sectors[(s.slot i).next]? = some t → t.status = none

section
variable {s t : State} {i : Fin 16}

theorem KeysKept.isSome (h : KeysKept s t) {k : Key} (ht : (t.entry k).isSome) : (s.entry k).isSome := by
  obtain ⟨e, he⟩ := Option.isSome_iff_exists.mp ht
  have named : k ∈ t.table.map (·.key) := List.mem_map.mpr ⟨e, entry_mem he, entry_key he⟩
  obtain ⟨x, hx, hk⟩ := List.mem_map.mp (h.keys.subset named)
  exact List.find?_isSome.mpr ⟨x, hx, by simp [ReqEntry.has, hk]⟩

/-- What leaves the slot and enters no request. -/
theorem SlotServed.trans (h : SlotServed i s) (hs : t.slot i = s.slot i) (hk : KeysKept s t) : SlotServed i t := by
  intro active owed
  rw [hs] at active owed ⊢
  exact h active (hk.isSome owed)

/-- The first sector behind those that can be sent is not settled. -/
theorem status_behind_sendable (x : FetchSlot) {y : SlotSector} (h : x.sectors[x.next + x.sendable.length]? = some y) :
    y.status = none := by
  have behind : ((x.sectors.drop x.next).dropWhile fun t => t.status.isSome).head? = some y := by
    have whole := List.takeWhile_append_dropWhile (p := fun t : SlotSector => t.status.isSome) (l := x.sectors.drop x.next)
    rw [← List.getElem?_drop, ← whole, FetchSlot.sendable, List.getElem?_append_right (Nat.le_refl _), Nat.sub_self] at h
    rwa [List.head?_eq_getElem?]
  have stops := List.head?_dropWhile_not (fun t : SlotSector => t.status.isSome) (x.sectors.drop x.next)
  rw [behind] at stops
  exact Option.not_isSome_iff_eq_none.mp (by simpa using stops)

theorem deliverSlot_served (s : State) (i : Fin 16) : SlotServed i (s.deliverSlot i) := by
  intro active owed y hy
  obtain ⟨same, unowed⟩ | ⟨e, _, _, last | part⟩ := deliverSlot_cases s i
  · rw [same] at active owed
    rw [unowed active] at owed
    cases owed
  · rw [last, State.modSlot_slot, if_pos rfl] at active
    cases active
  · rw [part, State.modSlot_slot, if_pos rfl, framesSent_slot] at hy
    exact status_behind_sendable (s.slot i) hy

theorem deliver_served (s : State) (i : Fin 16) : SlotServed i s.deliver := by
  obtain ⟨before, after, split⟩ := List.append_of_mem (mem_allQueues i)
  have once : (before ++ i :: after).Nodup := split ▸ (by decide : allQueues.Nodup)
  obtain ⟨_, tail, _⟩ := List.nodup_append.mp once
  rw [State.deliver, split, List.foldl_append, List.foldl_cons]
  have slots : SlotServed i (after.foldl State.deliverSlot ((before.foldl State.deliverSlot s).deliverSlot i)) :=
    (deliverSlot_served _ i).trans (deliverSlots_slot (List.nodup_cons.mp tail).1)
      (.foldl (fun s i => (stagingKept_deliverSlot s i).toKeysKept) _ _)
  refine slots.trans ?_ (.foldl (fun s e => (stagingKept_deliverPattern s e).toKeysKept) _ _)
  simp only [State.slot, deliverPatterns_slots]

theorem SlotServed.freeEnded (h : SlotServed i s) : SlotServed i s.freeEnded := by
  by_cases ending : (s.slot i).state = .ending
  · intro active
    rw [State.freeEnded, State.mapSlots_slot] at active
    split at active
    · cases active
    · cases ending.symm.trans active
  · exact h.trans (freeEnded_slot ending) (stagingKept_freeEnded s).toKeysKept

end

theorem settle_slotsServed (X old : State) : (X.settle old).slotsServed := by
  intro i
  have keys : KeysKept X.undelivered.deliver.freeEnded (X.settle old) := by
    rw [settle_eq, settleRecords_undelivered]
    exact ((keysKept_answerPuts _).trans (keysKept_clearMarks _)).trans (stagingKept_settleRest _ old _).toKeysKept
  refine ((deliver_served X.undelivered i).freeEnded).trans ?_ keys
  simp only [State.slot, settle_slots]

theorem level0_slotsServed (s : State) : s.level0.slotsServed := by
  intro i active
  have empty : s.level0.slot i = FetchSlot.empty := Vector.getElem_replicate (a := FetchSlot.empty) i.isLt
  rw [empty] at active
  cases active

/-! ### A Get's sectors in a step (R119, R120) -/

/-- In every step a slot's settled sectors are sent. -/
theorem settle_sent {X : State} (old : State) {i : Fin 16} {e : ReqEntry} (active : (X.slot i).state = .active)
    (owed : X.entry (X.slot i).key = some e) (ha : e.answered = false) (hd : e.discarded = false)
    (hc : X.engine.clean ≠ some e.key) (sole : ∀ j, j ≠ i → (X.slot j).state = .active → (X.slot j).key ≠ e.key) :
    SlotSent i (X.slot i) e (X.settle old) := by
  have key : e.key = (X.slot i).key := entry_key owed
  have spares := sparesEntry_undelivered (k := e.key) X
  have slot : ∀ j, X.undelivered.slot j = X.slot j := fun j => by rw [State.slot, spares.slots, State.slot]
  have entry : X.undelivered.entry (X.slot i).key = some e := by rw [← key, spares.entry hc, key, owed]
  have sent := deliver_sent (s := X.undelivered) (i := i) (e := e) (by rwa [slot]) (by rwa [slot]) ha hd
    (by simpa only [slot, ← key] using sole)
  rw [slot] at sent
  exact sent.settled (by rw [active]; exact SlotState.noConfusion) old

/-- Settles O52: a read's completion is handed to the Fetch Unit by what it leaves unread; the delivery of a step sends each slot's settled
sectors, and what follows it leaves the slot and puts frames behind them. -/
theorem fetchReadCompletes : Obligations.FetchReadCompletes := by
  unfold Obligations.FetchReadCompletes
  refine ⟨fun s r f rest c hp hw ho ha hc active => ?read, fun X old i e active owed ha hd hclean sole => ?sent, ?served⟩
  case read =>
    have taken := takeCompletion_fetch hp hw ho ha hc
    exact ⟨fun all => gives_readCompletion (taken.trans (fetchCompleted_all active all)),
      fun some initial => gives_readCompletion (taken.trans (fetchCompleted_initial active some initial)),
      fun some reread => gives_readCompletion (taken.trans (fetchCompleted_reread active some reread))⟩
  case sent =>
    have key : e.key = (X.slot i).key := entry_key owed
    have sent := settle_sent old active owed ha hd hclean sole
    intro x t ready frames final
    have response : (X.slot i).response e = { tag := e.key.tag, origin := e.key.origin, redirected := e.redirected, holds := .entry
                                              body := .response e.info.kind final .none } := by
      rw [FetchSlot.response, finalStatus_eq, key]
    have data : (X.slot i).frames e = frames := by
      rw [FetchSlot.frames, ← key]
      rfl
    rw [← response, ← data]
    exact ⟨sent.last, sent.part⟩
  case served => exact keptByStep_of_settle (fun s rest _ => level0_slotsServed _) settle_slotsServed

end Sys2Proof.Machine

namespace Sys2Proof.Machine

/-! PROOFS. The checks of a Get, and what one that passes does (O21). -/

/-! ### The checks of a Get (R109) -/

section
variable {s : State}

theorem inSpace_iff {lsa count : Nat} :
    (decide (1 ≤ count) && decide (count ≤ 256) && decide (lsa + count ≤ s.logical)) = true ↔ InSpace s lsa count := by
  simp only [Bool.and_eq_true, decide_eq_true_eq, and_assoc]

theorem freeFetchSlot_none_iff : s.freeFetchSlot = none ↔ ∀ i, (s.slot i).state ≠ .free := by
  simp [State.freeFetchSlot, List.find?_eq_none, mem_allQueues]

theorem getRefusal_range {l : Link} {lsa count : Nat} (h : ¬ InSpace s lsa count) : s.getRefusal l lsa count = some .range :=
  if_pos (by simpa only [Bool.not_eq_true', ← Bool.not_eq_true] using mt inSpace_iff.mp h)

/-- Behind the range come the service and the slots. -/
theorem getRefusal_inSpace {l : Link} {lsa count : Nat} (h : InSpace s lsa count) : s.getRefusal l lsa count =
    s.serviceRefusal.or (if s.freeFetchSlot = none ∨ 8 ≤ s.slotsInUse l then some .busy else none) := by
  rw [State.getRefusal, if_neg (by simpa only [Bool.not_eq_true', Bool.not_eq_false] using inSpace_iff.mpr h)]
  cases s.serviceRefusal <;> rfl

theorem getRefusal_serving {l : Link} {lsa count : Nat} (h : InSpace s lsa count) (hs : Serving s) : s.getRefusal l lsa count =
    if s.freeFetchSlot = none ∨ 8 ≤ s.slotsInUse l then some .busy else none := by
  rw [getRefusal_inSpace h, serviceRefusal_serving hs, Option.none_or]

/-- A Get in space, of a part that serves, finds a slot. -/
theorem getRefusal_none {l : Link} {lsa count : Nat} {i : Fin 16} (h : InSpace s lsa count) (hs : Serving s)
    (hi : s.freeFetchSlot = some i) (hslots : s.slotsInUse l < 8) : s.getRefusal l lsa count = none := by
  rw [getRefusal_serving h hs, if_neg (not_or.mpr ⟨by simp [hi], Nat.not_le.mpr hslots⟩)]

theorem asleep_iff : s.asleep = true ↔
    s.spindle.state ≠ .spinning ∧ s.spindle.state ≠ .starting ∧ s.getReleases = false := by
  simp [State.asleep, and_assoc]

theorem claimsGranted_iff {reads : List FetchRead} : s.claimsGranted reads = true ↔
    ∀ r ∈ reads, s.claimable r.band (reads.countP fun x => x.band == r.band) = true := by
  rw [State.claimsGranted, List.all_eq_true]

/-! ### The checks of what it resolves to (R109, R114) -/

theorem mediaRefusal_nil : s.mediaRefusal [] = none := rfl

section
variable {reads : List FetchRead} (hr : reads ≠ [])
include hr

/-- A Get that reads is refused by the media path, then by the spindle, then by its claims. -/
theorem mediaRefusal_reads : s.mediaRefusal reads =
    if s.path = .down then some .mediaDown else if s.asleep then some .asleep
    else if s.claimsGranted reads then none else some .busy := if_neg (mt List.isEmpty_iff.mp hr)

theorem mediaRefusal_down (hp : s.path = .down) : s.mediaRefusal reads = some .mediaDown := by
  rw [mediaRefusal_reads hr, if_pos hp]

theorem mediaRefusal_asleep (hp : s.path ≠ .down)
    (hs : s.spindle.state ≠ .spinning ∧ s.spindle.state ≠ .starting ∧ s.getReleases = false) :
    s.mediaRefusal reads = some .asleep := by
  rw [mediaRefusal_reads hr, if_neg hp, if_pos (asleep_iff.mpr hs)]

/-- Beside a media path and a spindle that serve, the claims decide. -/
theorem mediaRefusal_awake (hp : s.path ≠ .down)
    (hs : s.spindle.state = .spinning ∨ s.spindle.state = .starting ∨ s.getReleases = true) :
    s.mediaRefusal reads = if s.claimsGranted reads then none else some .busy := by
  have awake : ¬ s.asleep = true := fun h => by
    obtain ⟨spinning, starting, releases⟩ := asleep_iff.mp h
    rcases hs with hs | hs | hs
    · exact spinning hs
    · exact starting hs
    · exact Bool.false_ne_true (releases.symm.trans hs)
  rw [mediaRefusal_reads hr, if_neg hp, if_neg awake]

end

/-! ### A Get taken -/

variable {k : Key} {lsa count : Nat} {x : Status} {i : Fin 16}

theorem takeGet_refused (h : s.getRefusal k.origin lsa count = some x) : s.takeGet k lsa count = s.answerNow k 2 x .none := by
  simp only [State.takeGet, h]

section
variable (h : s.getRefusal k.origin lsa count = none) (hi : s.freeFetchSlot = some i)
include h hi

theorem takeGet_mediaRefused (hm : s.mediaRefusal (s.readsOf i (s.resolve lsa count)) = some x) :
    s.takeGet k lsa count = s.answerNow k 2 x .none := by
  simp only [State.takeGet, h, hi, hm]

theorem takeGet_starts (hm : s.mediaRefusal (s.readsOf i (s.resolve lsa count)) = none) : s.takeGet k lsa count =
    s.startGet k i lsa count (s.resolve lsa count) (s.readsOf i (s.resolve lsa count)) := by
  simp only [State.takeGet, h, hi, hm]

end

end

theorem gives_get {s p X : State} {l : Link} {tag : Tag} {lsa count : Nat} (h : Takes s l tag (.get lsa count) p)
    (hp : (p.port l).pattern = false) (hX : p.takeGet (key l tag) lsa count = X) : Gives (.get l tag lsa count) s X :=
  gives_takes rfl h ((if_neg (by simp [hp])).trans hX)

/-- The slot of a Get filled, its reads claimed and listed. -/
theorem startGet_eq (s : State) (k : Key) (i : Fin 16) (lsa count : Nat) (sectors : List SlotSector) (reads : List FetchRead) :
    let x := (s.enterTable k .get).modSlot i fun _ =>
      { state := .active, key := k, lsa := lsa, count := count, next := 0, sectors := sectors, mediaDown := false }
    let y := reads.foldl (fun s r => s.claimRead r.band) x
    let z := { y with fetchList := y.fetchList ++ reads }
    s.startGet k i lsa count sectors reads = if reads = [] then z else z.release := by
  simp only [State.startGet, List.isEmpty_iff]

/-- Settles O21, by the first check that refuses, and by whether a Get that passes reads. -/
theorem gets : Obligations.Gets := by
  refine ⟨fun s l tag lsa count p h hp => ?refused, fun s l tag lsa count p i reads h hp space serving hi hslots hreads media => ?passes⟩
  case refused =>
    refine ⟨fun hr => ?range, fun space => ⟨fun r hu => ?unserving, fun serving => ?serving⟩⟩
    case range => exact gives_get h hp (takeGet_refused (getRefusal_range hr))
    case unserving =>
      refine gives_get h hp (takeGet_refused ?_)
      rw [getRefusal_inSpace space, serviceRefusal_unserving hu, Option.some_or]
    case serving =>
      refine ⟨fun full => gives_get h hp (takeGet_refused ?_), fun i hi hslots reads => ?_⟩
      · exact (getRefusal_serving space serving).trans (if_pos (full.imp_left freeFetchSlot_none_iff.mpr))
      have room : p.getRefusal l lsa count = none := getRefusal_none space serving hi hslots
      refine ⟨fun down => ?_, fun up => ⟨fun asleep => ?_, fun awake ⟨r, hr, refused⟩ => ?_⟩⟩
      · exact gives_get h hp (takeGet_mediaRefused room hi (mediaRefusal_down reads down))
      · exact gives_get h hp (takeGet_mediaRefused room hi (mediaRefusal_asleep reads up asleep))
      · have claims : ¬ p.claimsGranted (p.readsOf i (p.resolve lsa count)) = true := fun granted =>
          Bool.false_ne_true (refused.symm.trans (claimsGranted_iff.mp granted r hr))
        exact gives_get h hp (takeGet_mediaRefused room hi ((mediaRefusal_awake reads up awake).trans (if_neg claims)))
  case passes =>
    have room : p.getRefusal l lsa count = none := getRefusal_none space serving hi hslots
    have granted : p.mediaRefusal reads = none := by
      by_cases hr : reads = []
      · rw [hr, mediaRefusal_nil]
      · obtain ⟨up, awake, claims⟩ := media hr
        exact (mediaRefusal_awake hr up awake).trans (if_pos (claimsGranted_iff.mpr claims))
    subst hreads
    exact gives_get h hp ((takeGet_starts room hi granted).trans (startGet_eq p _ i lsa count _ _))

end Sys2Proof.Machine

namespace Sys2Proof.Machine

/-! PROOFS. What a sector of a Get resolves to (O22). -/

/-! ### The staged copy of highest sequence (R110) -/

/-- The newer of the copy found so far and the next. -/
def newer : Option Copy → Copy → Option Copy
  | none, c => some c
  | some d, c => if d.sequence < c.sequence then some c else some d

theorem newestCopy_eq (cs : List Copy) (x : Nat) : newestCopy cs x = (cs.filter (·.covers x)).foldl newer none := by
  refine congrArg (fun f => List.foldl f none _) (funext fun acc => funext fun c => ?_)
  cases acc <;> rfl

theorem newer_isSome (acc : Option Copy) (c : Copy) : ∃ e, newer acc c = some e ∧ (some e = acc ∨ e = c) ∧
    c.sequence ≤ e.sequence ∧ ∀ d, acc = some d → d.sequence ≤ e.sequence := by
  cases acc with
  | none => exact ⟨c, rfl, .inr rfl, Nat.le_refl _, nofun⟩
  | some d =>
    by_cases h : d.sequence < c.sequence
    · exact ⟨c, if_pos h, .inr rfl, Nat.le_refl _, fun e he => Option.some.inj he ▸ Nat.le_of_lt h⟩
    · exact ⟨d, if_neg h, .inl rfl, Nat.not_lt.mp h, fun e he => Option.some.inj he ▸ Nat.le_refl _⟩

/-- The copy found is one of those looked at, and none of them is newer. -/
theorem newest_spec {cs : List Copy} {acc : Option Copy} {c : Copy} (h : cs.foldl newer acc = some c) :
    (acc = some c ∨ c ∈ cs) ∧ ∀ d, acc = some d ∨ d ∈ cs → d.sequence ≤ c.sequence := by
  induction cs generalizing acc with
  | nil =>
    obtain rfl : acc = some c := h
    refine ⟨.inl rfl, fun d hd => ?_⟩
    rw [Option.some.inj (hd.resolve_right List.not_mem_nil)]
  | cons a cs ih =>
    obtain ⟨e, he, from_, aLe, accLe⟩ := newer_isSome acc a
    rw [List.foldl_cons, he] at h
    obtain ⟨mem, le⟩ := ih h
    have eLe : e.sequence ≤ c.sequence := le e (.inl rfl)
    refine ⟨?_, fun d hd => ?_⟩
    · rcases mem with hc | hc
      · obtain rfl := Option.some.inj hc
        exact from_.imp Eq.symm fun (h : e = a) => h ▸ List.mem_cons_self
      · exact .inr (List.mem_cons_of_mem a hc)
    · rcases hd with hd | hd
      · exact (accLe d hd).trans eLe
      · rcases List.mem_cons.mp hd with rfl | hd
        · exact aLe.trans eLe
        · exact le d (.inr hd)

theorem newest_of_ne_nil {cs : List Copy} {acc : Option Copy} (h : acc ≠ none ∨ cs ≠ []) : ∃ c, cs.foldl newer acc = some c := by
  induction cs generalizing acc with
  | nil => exact Option.ne_none_iff_exists'.mp (h.resolve_right (absurd rfl))
  | cons a cs ih =>
    obtain ⟨e, he, _⟩ := newer_isSome acc a
    rw [List.foldl_cons, he]
    exact ih (.inl nofun)

section
variable {cs : List Copy} {x : Nat} {c : Copy}

theorem newestCopy_none (h : ∀ c ∈ cs, c.covers x = false) : newestCopy cs x = none := by
  have uncovered : cs.filter (·.covers x) = [] := List.filter_eq_nil_iff.mpr fun c hc => by simp [h c hc]
  rw [newestCopy_eq, uncovered, List.foldl_nil]

theorem newestCopy_mem (h : newestCopy cs x = some c) : c ∈ cs ∧ c.covers x = true := by
  rw [newestCopy_eq] at h
  exact List.mem_filter.mp ((newest_spec h).1.resolve_left nofun)

/-- A covering copy newer than every other is the one found. -/
theorem newestCopy_of_newest (hc : c ∈ cs) (hx : c.covers x = true)
    (newest : ∀ d ∈ cs, d.covers x = true → d = c ∨ d.sequence < c.sequence) : newestCopy cs x = some c := by
  have covering : c ∈ cs.filter (·.covers x) := List.mem_filter.mpr ⟨hc, hx⟩
  obtain ⟨e, he⟩ := newest_of_ne_nil (acc := none) (.inr (List.ne_nil_of_mem covering))
  rw [← newestCopy_eq] at he
  obtain ⟨mem, covers⟩ := newestCopy_mem he
  have le : c.sequence ≤ e.sequence := (newest_spec ((newestCopy_eq cs x).symm.trans he)).2 c (.inr covering)
  have same : e = c := (newest e mem covers).resolve_right (Nat.not_lt.mpr le)
  rw [he, same]

end

/-! ### A sector by what the map holds for it (R110) -/

section
variable {s : State} {x : Nat}

theorem resolveSector_unwritten (h : content s.map x = none) : s.resolveSector x =
    (newestCopy s.hostCopies x).elim (SlotSector.blank .unwritten .unwritten) (·.sector x) := by
  have unmapped : lookup s.map x = none := Option.map_eq_none_iff.mp h
  simp only [State.resolveSector, unmapped]
  cases newestCopy s.hostCopies x <;> rfl

theorem resolveSector_lost {q : Nat} (h : content s.map x = some (q, none)) : s.resolveSector x =
    (newestCopy s.hostCopies x).elim (SlotSector.blank .lost .lost) (·.sector x) := by
  obtain ⟨e, mapped, held⟩ := Option.map_eq_some_iff.mp h
  obtain ⟨_, lost⟩ := Prod.mk.inj held
  simp only [State.resolveSector, mapped, lost]
  cases newestCopy s.hostCopies x <;> rfl

/-- The sector of a VALID entry without a newer HOST copy. -/
def State.resolveValid (s : State) (x q : Nat) (d : Location) : SlotSector :=
  (s.relocCopies.find? fun c => c.covers x && c.sequence == q).elim
    { source := .media, status := none, place := some (s.placeAt d), data := [] } (·.sector x)

theorem resolveSector_valid {q : Nat} {d : Location} (h : content s.map x = some (q, some d)) : s.resolveSector x =
    ((newestCopy s.hostCopies x).filter fun c => q < c.sequence).elim (s.resolveValid x q d) (·.sector x) := by
  obtain ⟨e, mapped, held⟩ := Option.map_eq_some_iff.mp h
  obtain ⟨rfl, valid⟩ := Prod.mk.inj held
  simp only [State.resolveSector, mapped, valid, State.resolveValid]
  cases (newestCopy s.hostCopies x).filter fun c => decide (e.sequence < c.sequence) with
  | none => cases s.relocCopies.find? fun c => c.covers x && c.sequence == e.sequence <;> rfl
  | some c => rfl

/-- A HOST copy newer than what the map holds VALID serves the sector. -/
theorem resolveSector_host {c : Copy} (hc : newestCopy s.hostCopies x = some c)
    (newer : ∀ q d, content s.map x = some (q, some d) → q < c.sequence) : s.resolveSector x = c.sector x := by
  match h : content s.map x with
  | none => rw [resolveSector_unwritten h, hc, Option.elim_some]
  | some (q, none) => rw [resolveSector_lost h, hc, Option.elim_some]
  | some (q, some d) => rw [resolveSector_valid h, hc, Option.filter_some_pos (by simpa using newer q d h), Option.elim_some]

/-- A VALID sector none of whose HOST copies is newer. -/
theorem resolveSector_noneNewer {q : Nat} {d : Location} (h : content s.map x = some (q, some d))
    (older : ∀ c ∈ s.hostCopies, c.covers x = true → c.sequence ≤ q) : s.resolveSector x = s.resolveValid x q d := by
  have none : ((newestCopy s.hostCopies x).filter fun c => decide (q < c.sequence)) = none := by
    refine Option.filter_eq_none_iff.mpr fun c hc => ?_
    obtain ⟨mem, covers⟩ := newestCopy_mem hc
    simpa using older c mem covers
  rw [resolveSector_valid h, none, Option.elim_none]

end

/-- Settles O22: by the newest HOST copy, and where none serves the sector, by what the map holds for it. -/
theorem getResolution : Obligations.GetResolution := by
  refine fun p x => ⟨fun c hc covers newest newer => ?host, fun uncovered => ⟨fun h => ?unwritten, fun q h => ?lost⟩, fun q d h older =>
    ⟨fun noReloc => ?media, fun before c after split covers sequence first => ?reloc⟩⟩
  case host => exact resolveSector_host (newestCopy_of_newest hc covers newest) newer
  case unwritten =>
    rw [resolveSector_unwritten h, newestCopy_none uncovered]
    rfl
  case lost =>
    rw [resolveSector_lost h, newestCopy_none uncovered]
    rfl
  case media =>
    have none : (p.relocCopies.find? fun c => c.covers x && c.sequence == q) = none :=
      List.find?_eq_none.mpr fun c hc => by simpa using noReloc c hc
    rw [resolveSector_noneNewer h older, State.resolveValid, none, Option.elim_none]
  case reloc =>
    have found : (p.relocCopies.find? fun c => c.covers x && c.sequence == q) = some c :=
      List.find?_eq_some_iff_append.mpr ⟨by simp [covers, sequence], before, after, split, fun e he => by
      simpa [imp_iff_not_or] using first e he⟩
    rw [resolveSector_noneNewer h older, State.resolveValid, found]
    rfl

end Sys2Proof.Machine

namespace Sys2Proof.Machine

/-! PROOFS. A Get on a link in PATTERN mode: its checks, its sectors and its frames; and that every step leaves a frame of it waiting
(O23). -/

/-! ### Its checks (R122, R123) -/

section
variable {s : State} {lsa count : Nat} {k : Key}

theorem takePatternGet_range (h : ¬ InSpace s lsa count) : s.takePatternGet k lsa count = s.answerNow k 2 .range .none :=
  if_pos (by simpa only [Bool.not_eq_true', ← Bool.not_eq_true] using mt inSpace_iff.mp h)

/-- Behind the range, service decides. -/
theorem takePatternGet_inSpace (h : InSpace s lsa count) : s.takePatternGet k lsa count =
    if s.service = .starting then s.answerNow k 2 .starting .none else s.enterTable k (.patternGet lsa count 0) :=
  if_neg (by simpa only [Bool.not_eq_true', Bool.not_eq_false] using inSpace_iff.mpr h)

end

theorem gives_patternGet {s p X : State} {l : Link} {tag : Tag} {lsa count : Nat} (h : Takes s l tag (.get lsa count) p)
    (hp : (p.port l).pattern = true) (hX : p.takePatternGet (key l tag) lsa count = X) : Gives (.get l tag lsa count) s X :=
  gives_takes rfl h ((if_pos hp).trans hX)

theorem enterTable_eq (s : State) (k : Key) (i : EntryInfo) : s.enterTable k i =
    { (s.modPort k.origin fun x => { x with creditsGranted := x.creditsGranted + 1 }) with
      table := s.table ++ [{ key := k, reply := k.origin, redirected := false, discarded := false, answered := false, info := i }] } := by
  obtain ⟨l, tag⟩ := k
  cases l
  · rfl
  · rfl

/-! ### Its sectors -/

theorem patternSector_getElem? {x j : Nat} (hj : j < 4096) :
    ((patternSector x)[j]?).map BitVec.toNat = some ((x + j) % 256) := by
  simp [patternSector, List.getElem?_range hj]

/-! ### Its frames (R123) -/

theorem entry_of_mem {s : State} {e : ReqEntry} (hn : (s.table.map (·.key)).Nodup) (he : e ∈ s.table) : s.entry e.key = some e := by
  obtain ⟨x, hx⟩ : ∃ x, s.entry e.key = some x :=
    Option.isSome_iff_exists.mp (List.find?_isSome.mpr ⟨e, he, by simp [ReqEntry.has]⟩)
  rw [hx, entry_unique hn hx he rfl]

/-- The next data frame of a pattern Get handed to its reply link. -/
def State.patternSent (s : State) (e : ReqEntry) (lsa count next : Nat) : State :=
  (s.modEntry e.key fun e => { e with info := .patternGet lsa count (next + 1) }).pushFrame e.reply (e.patternFrame lsa next)

/-- The response of a pattern Get whose last frame has gone. -/
def ReqEntry.patternResponse (e : ReqEntry) : OutFrame :=
  { tag := e.key.tag, origin := e.key.origin, redirected := e.redirected, holds := .entry, body := .response 2 .ok .none }

section
variable {s : State} {e : ReqEntry} {lsa count next : Nat}

theorem patternSent_txq : ((s.patternSent e lsa count next).port e.reply).txq =
    (s.port e.reply).txq ++ [e.patternFrame lsa next] := by
  rw [State.patternSent, State.pushFrame, State.modPort_self, modEntry_port]

theorem patternSent_other : (s.patternSent e lsa count next).port e.reply.other = s.port e.reply.other := by
  rw [State.patternSent, State.pushFrame, State.modPort_other, modEntry_port]

theorem pushFrame_entry (s : State) (l : Link) (f : OutFrame) (k : Key) : (s.pushFrame l f).entry k = s.entry k := by
  simp [State.entry]

theorem patternSent_entry (he : s.entry e.key = some e) : (s.patternSent e lsa count next).entry e.key =
    some { e with info := .patternGet lsa count (next + 1) } := by
  rw [State.patternSent, pushFrame_entry, entry_modEntry (by exact fun _ => rfl), he]
  simp

theorem deliverPattern_waits (hw : (s.port e.reply).txq.any (OutFrame.isDataOf e.key) = true) : s.deliverPattern e = s :=
  deliverPattern_same fun _ => .inr (.inr hw)

variable (hi : e.info = .patternGet lsa count next) (ha : e.answered = false) (hd : e.discarded = false)
include hi ha hd

theorem deliverPattern_sends (hw : (s.port e.reply).txq.any (OutFrame.isDataOf e.key) = false) : s.deliverPattern e =
    if next + 1 = count then (s.patternSent e lsa count next).answerEntry e.key .ok .none else s.patternSent e lsa count next := by
  simp only [State.deliverPattern, hi, ha, hd, hw, Bool.or_self, Bool.false_eq_true, if_false]
  rfl

variable (he : s.entry e.key = some e) (hw : (s.port e.reply).txq.any (OutFrame.isDataOf e.key) = false)
include he hw

/-- The last frame of a pattern Get goes with its response behind it. -/
theorem deliverPattern_last (hl : next + 1 = count) : s.deliverPattern e =
    ((s.patternSent e lsa count next).modEntry e.key fun e => { e with answered := true }).pushFrame e.reply e.patternResponse := by
  rw [deliverPattern_sends hi ha hd hw, if_pos hl, answerEntry_open (patternSent_entry he) ha hd]
  rfl

theorem deliverPattern_txq : ((s.deliverPattern e).port e.reply).txq =
    (s.port e.reply).txq ++ e.patternFrame lsa next :: if next + 1 = count then [e.patternResponse] else [] := by
  by_cases hl : next + 1 = count
  · rw [deliverPattern_last hi ha hd he hw hl, State.pushFrame, State.modPort_self, modEntry_port, if_pos hl, patternSent_txq]
    simp
  · rw [deliverPattern_sends hi ha hd hw, if_neg hl, if_neg hl, patternSent_txq]

theorem deliverPattern_other : (s.deliverPattern e).port e.reply.other = s.port e.reply.other := by
  by_cases hl : next + 1 = count
  · rw [deliverPattern_last hi ha hd he hw hl, State.pushFrame, State.modPort_other, modEntry_port, patternSent_other]
  · rw [deliverPattern_sends hi ha hd hw, if_neg hl, patternSent_other]

theorem deliverPattern_entry : (s.deliverPattern e).entry e.key =
    some { e with answered := next + 1 == count, info := .patternGet lsa count (next + 1) } := by
  by_cases hl : next + 1 = count
  · rw [deliverPattern_last hi ha hd he hw hl, pushFrame_entry, entry_modEntry (by exact fun _ => rfl), patternSent_entry he]
    simp [hl]
  · rw [deliverPattern_sends hi ha hd hw, if_neg hl, patternSent_entry he]
    simp [hl, ha]

end

/-! ### Pattern Gets through the operations of a step -/

theorem exists_of_isPattern {i : EntryInfo} (h : i.isPattern = true) : ∃ lsa count next, i = .patternGet lsa count next :=
  match i, h with
  | .patternGet lsa count next, _ => ⟨lsa, count, next, rfl⟩

theorem isPattern_modPut (i : EntryInfo) (f : PutInfo → PutInfo) : (i.modPut f).isPattern = i.isPattern := by
  cases i <;> rfl

/-- e stands for the pattern Get that x stood for: no frame goes by another link, and an answer given or discarded stays so. -/
structure ReqEntry.Continues (x e : ReqEntry) : Prop where
  pattern : e.info.isPattern = true → x.info.isPattern = true
  key : x.key = e.key
  reply : x.reply = e.reply
  answered : x.answered = true → e.answered = true
  discarded : x.discarded = true → e.discarded = true

theorem ReqEntry.Continues.refl (e : ReqEntry) : e.Continues e := ⟨id, rfl, rfl, id, id⟩

theorem ReqEntry.Continues.trans {x y e : ReqEntry} (h : x.Continues y) (g : y.Continues e) : x.Continues e where
  pattern := h.pattern ∘ g.pattern
  key := h.key.trans g.key
  reply := h.reply.trans g.reply
  answered := g.answered ∘ h.answered
  discarded := g.discarded ∘ h.discarded

theorem ReqEntry.Continues.answer (e : ReqEntry) : e.Continues { e with answered := true } := ⟨id, rfl, rfl, fun _ => rfl, id⟩

theorem ReqEntry.Continues.modPut (e : ReqEntry) (f : PutInfo → PutInfo) : e.Continues { e with info := e.info.modPut f } :=
  ⟨fun h => (isPattern_modPut e.info f).symm.trans h, rfl, rfl, id, id⟩

/-- Every entry of t continues one of s. -/
structure Continued (s t : State) : Prop where
  entries : ∀ e ∈ t.table, ∃ x ∈ s.table, x.Continues e

namespace Continued
variable {s t u : State}

theorem of_same (h : t.table = s.table := by rfl) : Continued s t := ⟨fun e he => ⟨e, h ▸ he, .refl e⟩⟩

theorem refl (s : State) : Continued s s := .of_same

theorem trans (h : Continued s t) (g : Continued t u) : Continued s u where
  entries := fun e he => by
    obtain ⟨y, hy, ye⟩ := g.entries e he
    obtain ⟨x, hx, xy⟩ := h.entries y hy
    exact ⟨x, hx, xy.trans ye⟩

theorem foldl {α : Type} {f : State → α → State} (h : ∀ s a, Continued s (f s a)) (l : List α) (s : State) :
    Continued s (l.foldl f s) := by
  induction l generalizing s with
  | nil => exact refl s
  | cons a l ih => exact (h s a).trans (ih (f s a))

theorem ite {c : Prop} [Decidable c] (ht : Continued s t) (hu : Continued s u) : Continued s (if c then t else u) := by
  split
  · exact ht
  · exact hu

/-- A further change where a condition holds. -/
theorem thenIf {c : Prop} [Decidable c] (ht : Continued s t) (hu : Continued t u) : Continued s (if c then u else t) :=
  .ite (ht.trans hu) ht

theorem mapTable {f : ReqEntry → ReqEntry} (hf : ∀ e : ReqEntry, e.Continues (f e)) (ht : t.table = s.table.map f) : Continued s t where
  entries := fun e he => by
    obtain ⟨x, hx, rfl⟩ := List.mem_map.mp (ht ▸ he)
    exact ⟨x, hx, hf x⟩

theorem modEntry {f : ReqEntry → ReqEntry} (hf : ∀ e : ReqEntry, e.Continues (f e)) (s : State) (k : Key) : Continued s (s.modEntry k f) :=
  .mapTable (fun e => by
    split
    · exact hf e
    · exact .refl e) rfl

theorem filterTable {f : ReqEntry → Bool} (ht : t.table = s.table.filter f) : Continued s t :=
  ⟨fun e he => ⟨e, List.mem_of_mem_filter (ht ▸ he), .refl e⟩⟩

/-- A change of the Put an entry is of. -/
theorem modPut (s : State) (k : Key) (f : PutInfo → PutInfo) : Continued s (s.modPut k f) :=
  .modEntry (fun e => ReqEntry.Continues.modPut e f) s k

end Continued

theorem continued_answerEntry (s : State) (k : Key) (x : Status) (r : Result) : Continued s (s.answerEntry k x r) := by
  unfold State.answerEntry
  split
  · exact .refl s
  · refine .ite (.refl s) (.ite (.filterTable (by rfl)) ?_)
    exact (Continued.modEntry ReqEntry.Continues.answer s k).trans (.of_same (State.pushFrame_table _ _ _))

theorem continued_answerAll (s : State) (ks : List Key) (x : Status) : Continued s (s.answerAll ks x) :=
  .foldl (fun s k => continued_answerEntry s k x .none) ks s

theorem continued_answerPut (s : State) (k : Key) (p : PutInfo) : Continued s (s.answerPut k p) := by
  have acknowledged : Continued s (s.acknowledge k) := .of_same (by simp [State.acknowledge])
  exact (Continued.thenIf (.refl s) acknowledged).trans (continued_answerEntry _ _ _ _)

theorem continued_answerPuts (s : State) : Continued s s.answerPuts := by
  refine .foldl (fun s e => ?_) _ s
  unfold State.answerPutEntry
  split
  · exact .thenIf (.refl s) (continued_answerPut s _ _)
  · exact .refl s

theorem continued_clearMarks (s : State) : Continued s s.clearMarks := by
  have flushes : ∀ (t : State) k, Continued t (if t.flushWaits k then t else t.answerEntry k .ok .none) := fun t k =>
    .ite (.refl t) (continued_answerEntry t k _ _)
  exact clearMarks_eq s ▸ (Continued.of_same (unmarked_table s)).trans (.foldl flushes _ _)

/-! ### A frame of every pattern Get waits (R123) -/

/-- A pattern Get has a data frame waiting on its reply link, is answered, or is owed no answer. -/
def State.serves (s : State) (e : ReqEntry) : Prop := e.info.isPattern = true →
  e.answered = true ∨ e.discarded = true ∨ (s.port e.reply).txq.any (OutFrame.isDataOf e.key) = true

section
variable {s t : State} {x e : ReqEntry}

/-- What continues the entry and leaves the transmit queues' frames. -/
theorem State.serves.trans (h : s.serves x) (hk : Kept s t) (hc : x.Continues e) : t.serves e := by
  intro pattern
  obtain answered | discarded | waits := h (hc.pattern pattern)
  · exact .inl (hc.answered answered)
  · exact .inr (.inl (hc.discarded discarded))
  · obtain ⟨f, hf, data⟩ := List.any_eq_true.mp waits
    rw [hc.key] at data
    rw [hc.reply] at hf
    exact .inr (.inr (List.any_eq_true.mpr ⟨f, hk.mem_txq hf, data⟩))

theorem patternsServed_trans (h : s.patternsServed) (hk : Kept s t) (hc : Continued s t) : t.patternsServed := fun e he => by
  obtain ⟨x, hx, continues⟩ := hc.entries e he
  exact State.serves.trans (h x hx) hk continues

/-- A pattern Get's turn serves it. -/
theorem deliverPattern_serves (hn : (s.table.map (·.key)).Nodup) (hx : s.entry x.key = some x) (he : e ∈ (s.deliverPattern x).table)
    (hk : e.key = x.key) : (s.deliverPattern x).serves e := by
  by_cases hs : s.serves x
  · rw [deliverPattern_same hs] at he ⊢
    rwa [entry_unique hn hx he hk]
  · obtain ⟨pattern, unserved⟩ := Classical.not_imp.mp hs
    simp only [not_or, Bool.not_eq_true] at unserved
    obtain ⟨ha, hd, hw⟩ := unserved
    obtain ⟨lsa, count, next, hi⟩ := exists_of_isPattern pattern
    have nodup := (stagingKept_deliverPattern s x).keys.nodup hn
    rw [entry_unique nodup (deliverPattern_entry hi ha hd hx hw) he hk]
    refine fun _ => .inr (.inr ?_)
    rw [deliverPattern_txq hi ha hd hx hw]
    simp [OutFrame.isDataOf, ReqEntry.patternFrame]

/-- Once each of some entries has had its turn, the table holds entries served besides those still to come. -/
theorem deliverPatterns_serve (l : List ReqEntry) (hn : (s.table.map (·.key)).Nodup) (hl : (l.map (·.key)).Nodup)
    (hx : ∀ x ∈ l, s.entry x.key = some x) (h : ∀ e ∈ s.table, e ∈ l ∨ s.serves e) :
    (l.foldl State.deliverPattern s).patternsServed := by
  induction l generalizing s with
  | nil => exact fun e he => (h e he).elim (fun hm => absurd hm List.not_mem_nil) id
  | cons x l ih =>
    obtain ⟨apart, hl⟩ := List.nodup_cons.mp hl
    have spared : ∀ {y : ReqEntry}, y.key ≠ x.key → (s.deliverPattern x).entry y.key = s.entry y.key := fun hy =>
      (spares_deliverPattern (fun _ => Ne.symm hy) s).entry
    have nodup := (stagingKept_deliverPattern s x).keys.nodup hn
    refine ih nodup hl (fun y hy => ?_) fun e he => ?_
    · have other : y.key ≠ x.key := fun hk => apart (List.mem_map.mpr ⟨y, hy, hk⟩)
      exact (spared other).trans (hx y (List.mem_cons_of_mem x hy))
    · by_cases hk : e.key = x.key
      · exact .inr (deliverPattern_serves hn (hx x List.mem_cons_self) he hk)
      · have before : e ∈ s.table := entry_mem ((spared hk).symm.trans (entry_of_mem nodup he))
        refine (h e before).imp (fun hm => ?_) fun served => served.trans (Kept.deliverPattern s x) (.refl e)
        exact (List.mem_cons.mp hm).resolve_left fun heq => hk (heq ▸ rfl)

end

theorem deliver_patternsServed {s : State} (hs : s.tableFits) : s.deliver.patternsServed := by
  have nodup := (KeysKept.foldl (fun s i => (stagingKept_deliverSlot s i).toKeysKept) allQueues s).fits hs |>.distinct
  exact deliverPatterns_serve _ nodup nodup (fun _ => entry_of_mem nodup) fun _ => .inl

/-- Every step's settling leaves a frame of each pattern Get waiting. -/
theorem settle_patternsServed {X : State} (hX : X.tableFits) (old : State) : (X.settle old).patternsServed := by
  have ahead : KeysKept X X.undelivered :=
    (((stagingKept_advanceStartUp X).toKeysKept.trans (keysKept_resolveLostrels _)).trans (keysKept_releaseEmptied _)).trans
      (stagingKept_advanceEngine _).toKeysKept
  refine patternsServed_trans (deliver_patternsServed (ahead.fits hX)) ((Kept.freeEnded _).trans ((Kept.settleRequests _ old).trans
    ((Kept.settleWork _ old _).trans ((Kept.storeStalls _).trans (Kept.beginSending _))))) ?_
  rw [settle_eq, settleRecords_undelivered]
  have ended : Continued X.undelivered.deliver X.undelivered.deliver.freeEnded := .of_same (by simp [State.freeEnded])
  exact ((ended.trans (continued_answerPuts _)).trans (continued_clearMarks _)).trans (.of_same (settleRest_table _ old _))

/-- What the settling of a table that fits leaves, and a level 0 reset, every step keeps beside the table's sizes. -/
theorem keptByStep_of_settleFits {inv : State → Prop} (hreset : ∀ s : State, inv s.level0)
    (hsettle : ∀ X old : State, X.tableFits → inv (X.settle old)) : KeptByStep fun s => s.tableFits ∧ inv s := by
  intro s t ⟨fits, hs⟩ h
  unfold step at h
  split at h
  · cases h
    exact ⟨fits, hs⟩
  · next c rest _ =>
    by_cases hc : c = .level0Reset
    · subst hc
      obtain ⟨empty, _⟩ := level0Reset_clean h
      cases h
      exact ⟨empty, hreset _⟩
    · obtain ⟨X, rfl, hX⟩ := exec_settled hc h
      have settled := hX ⟨fits.total, fits.ofLink, fits.distinct⟩
      exact ⟨(keysKept_settle X _).fits settled, hsettle X _ settled⟩

theorem level0_patternsServed (s : State) : s.level0.patternsServed := fun _ he => absurd he List.not_mem_nil

end Sys2Proof.Machine

namespace Sys2Proof.Machine

/-! PROOFS. Pattern Gets through resets and link failures (O23). -/

/-! ### What a reset's conversions and the cancellation of a Get change -/

theorem noteHeadroom_only (s : State) (x y : Nat) : ∃ a b, s.noteHeadroom x y = { s with portA := a, portB := b } := by
  unfold State.noteHeadroom
  split
  · exact raiseBoth_only s _ _
  · exact ⟨_, _, rfl⟩

theorem raiseLost_only (s : State) (lost : List (Nat × Nat)) : ∃ a b, s.raiseLost lost = { s with portA := a, portB := b } := by
  unfold State.raiseLost
  split
  · exact ⟨_, _, rfl⟩
  · exact raiseBoth_only s _ _

/-- A record converted changes the map, the Band Table and the link ports alone. -/
theorem convertRecord_only (acc : State × Nat) (r : Fragment) :
    ∃ m bs a b, (convertRecord acc r).1 = { acc.1 with map := m, bands := bs, portA := a, portB := b } := by
  have noted : ∀ (t : State) x y lost, ∃ a b, (t.noteHeadroom x y).raiseLost lost = { t with portA := a, portB := b } := by
    intro t x y lost
    obtain ⟨_, _, headroom⟩ := noteHeadroom_only t x y
    obtain ⟨_, _, raised⟩ := raiseLost_only (t.noteHeadroom x y) lost
    rw [raised, headroom]
    exact ⟨_, _, rfl⟩
  obtain ⟨_, _, only⟩ := noted _ _ _ _
  exact ⟨_, _, _, _, only⟩

theorem convertRecords_only (s : State) :
    ∃ m bs a b, s.convertRecords = { s with map := m, bands := bs, portA := a, portB := b } := by
  have folded : ∀ (l : List Fragment) (acc : State × Nat),
      ∃ m bs a b, (l.foldl convertRecord acc).1 = { acc.1 with map := m, bands := bs, portA := a, portB := b } := by
    intro l
    induction l with
    | nil => exact fun acc => ⟨_, _, _, _, rfl⟩
    | cons r l ih =>
      intro acc
      obtain ⟨_, _, _, _, first⟩ := convertRecord_only acc r
      obtain ⟨_, _, _, _, rest⟩ := ih (convertRecord acc r)
      rw [List.foldl_cons, rest, first]
      exact ⟨_, _, _, _, rfl⟩
  exact folded _ (s, 0)

/-- A Get cancelled changes the reads, the Band Table, the engine and the slots alone. -/
theorem cancelSlot_only (s : State) (i : Fin 16) :
    ∃ fs bs g xs, s.cancelSlot i = { s with fetchList := fs, bands := bs, engine := g, slots := xs } := by
  have released : ∀ (l : List FetchRead) (t : State),
      ∃ bs g, l.foldl (fun s (r : FetchRead) => s.releaseRead r.band) t = { t with bands := bs, engine := g } := by
    intro l
    induction l with
    | nil => exact fun t => ⟨_, _, rfl⟩
    | cons r l ih =>
      intro t
      obtain ⟨_, _, first⟩ := releaseRead_only t r.band
      obtain ⟨_, _, rest⟩ := ih (t.releaseRead r.band)
      rw [List.foldl_cons, rest, first]
      exact ⟨_, _, rfl⟩
  unfold State.cancelSlot
  split
  · obtain ⟨_, _, only⟩ := released (s.fetchList.filter fun r => r.slot == i)
      { s with fetchList := s.fetchList.filter fun r => r.slot != i }
    dsimp only
    rw [only]
    exact ⟨_, _, _, _, rfl⟩
  · exact ⟨_, _, _, _, rfl⟩

theorem cancelSlot_table (s : State) (i : Fin 16) : (s.cancelSlot i).table = s.table := by
  obtain ⟨_, _, _, _, only⟩ := cancelSlot_only s i
  rw [only]

theorem cancelSlot_port (s : State) (i : Fin 16) (l : Link) : (s.cancelSlot i).port l = s.port l := by
  obtain ⟨_, _, _, _, only⟩ := cancelSlot_only s i
  rw [only]
  cases l
  · rfl
  · rfl

theorem defaults_txq (s : State) (l : Link) : (s.defaults.port l).txq = (s.port l).txq := by
  cases l
  · rfl
  · rfl

/-! ### The entry of a pattern Get, up to the answers of a reset (R172, R173) -/

section
variable {k : Key}

theorem sparesEntry_convertRecords (s : State) : SparesEntry k s s.convertRecords := by
  obtain ⟨_, _, _, _, only⟩ := convertRecords_only s
  rw [only]
  exact .of_same

theorem sparesEntry_resetEngine (s : State) : SparesEntry k s s.resetEngine := by
  have abandoned : ∀ t : State, SparesEntry k t
      { (State.endRun { t with window := t.window.map Order.staleRead } .aborted) with engine := Engine.reset } := fun t =>
    ((.of_same : SparesEntry k t { t with window := t.window.map Order.staleRead }).trans (sparesEntry_endRun _ .aborted)).trans
      ⟨rfl, fun _ => rfl, fun _ => nofun⟩
  unfold State.resetEngine
  dsimp only
  split
  · exact abandoned s
  · next b _ => exact (.of_same : SparesEntry k s (s.modBand b Band.uncleaned)).trans (abandoned _)

theorem sparesEntry_resetQueues (s : State) : SparesEntry k s s.resetQueues := by
  have emptied : SparesEntry k s (((s.mapQueues fun _ q => q.emptied).mapWrites WriteOrder.orphan).mapBands Band.shut) :=
    .of_same (by simp) (by simp) (by simp)
  exact emptied.trans (sparesEntry_resetEngine _)

end

theorem settleEntry_key (s : State) (e : ReqEntry) : (s.settleEntry e).key = e.key := by
  unfold State.settleEntry
  split <;> rfl

/-- A reset settles Puts alone. -/
theorem settleEntry_pattern (s : State) {e : ReqEntry} (h : e.info.isPattern = true) : s.settleEntry e = e := by
  unfold State.settleEntry
  split
  · rfl
  · obtain ⟨_, _, _, hi⟩ := exists_of_isPattern h
    obtain ⟨_, _, _, _, _, _⟩ := e
    cases hi
    rfl

theorem entry_settleEntries (s : State) (k : Key) :
    State.entry { s with table := s.table.map s.settleEntry } k = (s.entry k).map s.settleEntry := by
  have keys : (fun e : ReqEntry => e.has k) ∘ s.settleEntry = fun e => e.has k := funext fun e => by
    simp [ReqEntry.has, settleEntry_key]
  rw [State.entry, State.entry, List.find?_map, keys]

/-- A pattern Get stands as it was when a reset comes to the answers. -/
theorem resetQueues_entry {s : State} {e : ReqEntry} (he : s.entry e.key = some e) (hp : e.info.isPattern = true)
    (hc : s.engine.clean ≠ some e.key) : s.resetPuts.resetQueues.entry e.key = some e := by
  have converted : SparesEntry e.key s s.convertRecords.releaseEmptied :=
    (sparesEntry_convertRecords s).trans (sparesEntry_releaseEmptied _)
  have settled : s.resetPuts.entry e.key = some e := by
    rw [State.resetPuts, entry_settleEntries, converted.entry hc, he, Option.map_some, settleEntry_pattern _ hp]
  exact ((sparesEntry_resetQueues s.resetPuts).entry (converted.clean hc)).trans settled

/-! ### The answers of a reset (R121, R123) -/

/-- The answer ABORTED of a Get. -/
def ReqEntry.abortFrame (e : ReqEntry) : OutFrame :=
  { tag := e.key.tag, origin := e.key.origin, redirected := e.redirected, holds := .entry, body := .response 2 .aborted .none }

/-- A Get stands as it was, or its answer ABORTED has joined the transmit queue of its reply link. -/
def AbortsOrStands (e : ReqEntry) (s : State) : Prop := s.entry e.key = some e ∨ e.abortFrame ∈ (s.port e.reply).txq

theorem kind_of_isPattern {i : EntryInfo} (h : i.isPattern = true) : i.kind = 2 := by
  obtain ⟨_, _, _, rfl⟩ := exists_of_isPattern h
  rfl

section
variable {e : ReqEntry} (hp : e.info.isPattern = true) (ha : e.answered = false) (hd : e.discarded = false)
include hp ha hd

theorem answerEntry_aborts {s : State} (h : AbortsOrStands e s) :
    e.abortFrame ∈ ((s.answerEntry e.key .aborted .none).port e.reply).txq := by
  obtain stands | aborted := h
  · rw [answerEntry_open stands ha hd, State.pushFrame, State.modPort_self, kind_of_isPattern hp]
    exact List.mem_append_right _ (List.mem_singleton.mpr rfl)
  · exact (Kept.answerEntry s _ _ _).mem_txq aborted

theorem abortsOrStands_answerEntry {s : State} (h : AbortsOrStands e s) (k : Key) :
    AbortsOrStands e (s.answerEntry k .aborted .none) := by
  by_cases hk : k = e.key
  · subst hk
    exact .inr (answerEntry_aborts hp ha hd h)
  · exact h.imp (fun stands => (spares_answerEntry hk s _ _).entry.trans stands) (Kept.answerEntry s _ _ _).mem_txq

theorem abortsOrStands_abortSlots (l : List (Fin 16)) {s : State} (h : AbortsOrStands e s) :
    AbortsOrStands e (l.foldl State.abortSlot s) := by
  have cancelled : ∀ {t : State} i, AbortsOrStands e t → AbortsOrStands e (t.cancelSlot i) := fun {t} i ht => by
    rwa [AbortsOrStands, State.entry, cancelSlot_table, cancelSlot_port]
  induction l generalizing s with
  | nil => exact h
  | cons i l ih =>
    refine ih ?_
    unfold State.abortSlot
    split
    · exact cancelled i (abortsOrStands_answerEntry hp ha hd h _)
    · exact h

theorem answerAll_aborts {ks : List Key} {s : State} (h : AbortsOrStands e s) (hk : s.entry e.key = some e → e.key ∈ ks) :
    e.abortFrame ∈ ((s.answerAll ks .aborted).port e.reply).txq := by
  obtain stands | aborted := h
  · obtain ⟨before, after, split⟩ := List.append_of_mem (hk stands)
    have answered : ∀ (l : List Key) {t : State}, AbortsOrStands e t → AbortsOrStands e (t.answerAll l .aborted) := by
      intro l
      induction l with
      | nil => exact id
      | cons k l ih => exact fun ht => ih (abortsOrStands_answerEntry hp ha hd ht k)
    rw [State.answerAll, split, List.foldl_append, List.foldl_cons]
    exact (Kept.answerAll _ after .aborted).mem_txq (answerEntry_aborts hp ha hd (answered before (.inl stands)))
  · exact (Kept.answerAll s _ _).mem_txq aborted

theorem resetAnswers_aborts {s : State} (h : s.entry e.key = some e) (flushes : List Key) :
    e.abortFrame ∈ ((s.resetAnswers flushes).port e.reply).txq := by
  have named : ∀ t : State, t.entry e.key = some e → e.key ∈ t.patternGets := fun t ht =>
    List.mem_map.mpr ⟨e, List.mem_filter.mpr ⟨entry_mem ht, by simp [hp, ha]⟩, rfl⟩
  exact ((Kept.answerAll _ _ _).trans (Kept.answerPuts _)).mem_txq
    (answerAll_aborts hp ha hd (abortsOrStands_abortSlots hp ha hd allQueues (.inl h)) (named _))

/-- A level 1 or level 2 reset answers a pattern Get ABORTED. -/
theorem performReset_aborts {s : State} (he : s.entry e.key = some e) (hc : s.engine.clean ≠ some e.key) (one : Bool) :
    e.abortFrame ∈ ((s.performReset one).port e.reply).txq := by
  have work : e.abortFrame ∈ (s.resetWork.port e.reply).txq :=
    resetAnswers_aborts hp ha hd (resetQueues_entry he hp hc) _
  rw [performReset_port]
  cases one
  · exact work
  · exact (defaults_txq s.resetWork _).symm ▸ work

end

/-! ### Pattern Gets through a reset and what a failed link leaves (R153, R156) -/

theorem continued_endRun (s : State) (x : Status) : Continued s (s.endRun x) := by
  have idle : Continued s { s with engine := { Engine.reset with deferred := s.engine.deferred } } := .of_same
  unfold State.endRun
  dsimp only
  split
  · exact idle
  · exact idle.trans (continued_answerEntry _ _ _ _)

theorem continued_releaseEmptied (s : State) : Continued s s.releaseEmptied := by
  have victim : ∀ t : State, Continued t t.victimReleased := fun t =>
    (.of_same : Continued t { t with engine := { t.engine with deferred := none } }).trans
      (.ite (continued_endRun _ _) (.ite .of_same (continued_endRun _ _)))
  refine .foldl (fun s x => ?_) _ s
  exact .thenIf (.of_same : Continued s ((s.modBand x.2 Band.released).raiseBoth .relocationDone x.2)) (victim _)

theorem continued_resetPuts (s : State) : Continued s s.resetPuts := by
  have converted : Continued s s.convertRecords := by
    obtain ⟨_, _, _, _, only⟩ := convertRecords_only s
    rw [only]
    exact .of_same
  have settled : ∀ (t : State) (e : ReqEntry), e.Continues (t.settleEntry e) := fun t e => by
    unfold State.settleEntry
    split
    · exact .refl e
    · exact ReqEntry.Continues.modPut e _
  exact (converted.trans (continued_releaseEmptied _)).trans (.mapTable (settled _) rfl)

theorem continued_resetQueues (s : State) : Continued s s.resetQueues := by
  have abandoned : ∀ t : State, Continued t
      { (State.endRun { t with window := t.window.map Order.staleRead } .aborted) with engine := Engine.reset } := fun t =>
    ((.of_same : Continued t { t with window := t.window.map Order.staleRead }).trans (continued_endRun _ .aborted)).trans .of_same
  have engine : ∀ t : State, Continued t t.resetEngine := fun t => by
    unfold State.resetEngine
    dsimp only
    split
    · exact abandoned t
    · next b _ => exact (.of_same : Continued t (t.modBand b Band.uncleaned)).trans (abandoned _)
  have emptied : Continued s (((s.mapQueues fun _ q => q.emptied).mapWrites WriteOrder.orphan).mapBands Band.shut) :=
    .of_same (by simp)
  exact emptied.trans (engine _)

theorem continued_resetAnswers (flushes : List Key) (s : State) : Continued s (s.resetAnswers flushes) := by
  have aborted : ∀ (t : State) i, Continued t (t.abortSlot i) := fun t i =>
    .ite ((continued_answerEntry t _ _ _).trans (.of_same (cancelSlot_table _ i))) (.refl t)
  exact (Continued.foldl aborted allQueues s).trans
    (((continued_answerAll _ _ _).trans (continued_answerAll _ _ _)).trans (continued_answerPuts _))

theorem continued_performReset (s : State) (one : Bool) : Continued s (s.performReset one) := by
  have worked : Continued s s.resetWork :=
    ((continued_resetPuts s).trans (continued_resetQueues _)).trans (continued_resetAnswers _ _)
  have defaults : ∀ t : State, Continued t t.defaults := fun _ => .of_same
  rw [performReset_eq]
  exact (Continued.thenIf worked (defaults _)).trans .of_same

theorem continued_abandonPuts (s : State) (l : Link) : Continued s (s.abandonPuts l) := by
  have dropped : ∀ (t : State) f, Continued t (t.mapQueues f) := fun t f => .of_same (State.mapQueues_table t f)
  exact .foldl (fun t k => (dropped t _).trans (.modPut _ k _)) _ s

theorem continued_dropGets (s : State) : Continued s (allQueues.foldl State.dropGet s) :=
  .foldl (fun t i => .ite ((Continued.of_same (cancelSlot_table t i)).trans (.filterTable (by rfl))) (.refl t)) _ s

/-! ### A failure of the reply link without a paired survivor (R123, R153, R156) -/

/-- Such a failure works on what the failed link leaves once its owed responses are discarded, and enters no request. -/
theorem linkFails_discards {s : State} {l : Link} (hs : s.service = .inService)
    (hl : ¬ (s.scope.link = true ∧ s.scope.paired = true ∧ (s.port l.other).state = .running)) (st : LinkState) :
    Continued ((s.modPort l (Port.cut st)).discardOwed l) (s.linkFails l st) ∧
      KeysKept ((s.modPort l (Port.cut st)).discardOwed l) (s.linkFails l st) := by
  have service : (s.modPort l (Port.cut st)).service ≠ .starting := by simp [hs]
  unfold State.linkFails
  dsimp only
  rw [if_neg service]
  split
  · exact ⟨.ite (.refl _) (continued_performReset _ false), .ite (.refl _) (keysKept_performReset _ false)⟩
  · next scope =>
    rw [if_neg fun paired => hl ⟨by simpa using scope, by simpa using paired⟩]
    exact ⟨(continued_abandonPuts _ l).trans (continued_dropGets _), (keysKept_abandonPuts _ l).trans (.foldl keysKept_dropGet _ _)⟩

theorem discard_key (l : Link) (e : ReqEntry) : (e.discard l).key = e.key := by
  unfold ReqEntry.discard
  split <;> rfl

theorem discard_reply (l : Link) (e : ReqEntry) : (e.discard l).reply = e.reply := by
  unfold ReqEntry.discard
  split <;> rfl

theorem discard_info (l : Link) (e : ReqEntry) : (e.discard l).info = e.info := by
  unfold ReqEntry.discard
  split <;> rfl

/-- No entry left is of a pattern Get owed on the failed link. -/
theorem mem_discardOwed {s : State} {l : Link} {e : ReqEntry} (h : e ∈ (s.discardOwed l).table) :
    ∃ x ∈ s.table, x.discard l = e ∧ (x.info.isPattern = true → x.reply ≠ l) := by
  obtain ⟨x, hx, rfl⟩ := List.mem_map.mp h
  obtain ⟨mem, kept⟩ := List.mem_filter.mp hx
  exact ⟨x, mem, rfl, fun pattern reply => by simp [pattern, reply] at kept⟩

theorem discardOwed_patterns (s : State) (l : Link) : ∀ e ∈ (s.discardOwed l).table, e.info.isPattern = true → e.reply ≠ l := by
  intro e he
  obtain ⟨x, _, rfl, kept⟩ := mem_discardOwed he
  rwa [discard_info, discard_reply]

/-- Distinct keys leave none of such a Get. -/
theorem discardOwed_keys {s : State} {l : Link} {e : ReqEntry} (hn : (s.table.map (·.key)).Nodup) (he : e ∈ s.table)
    (hp : e.info.isPattern = true) (hr : e.reply = l) : e.key ∉ (s.discardOwed l).table.map (·.key) := by
  intro hk
  obtain ⟨f, hf, key⟩ := List.mem_map.mp hk
  obtain ⟨x, mem, rfl, kept⟩ := mem_discardOwed hf
  obtain rfl : x = e := List.inj_on_of_nodup_map hn mem he ((discard_key l x).symm.trans key)
  exact kept hp hr

/-- Settles O23: the checks; the sectors; the turn of one Get; what every settling serves; the answers of a reset; and what a failed link
discards. -/
theorem patternGet : Obligations.PatternGet := by
  refine ⟨fun s l tag lsa count p h hp => ?checks, fun x j => patternSector_getElem?, fun s e lsa count next he hi ha hd => ?frames,
    keptByStep_of_settleFits level0_patternsServed fun X old hX => settle_patternsServed hX old,
    fun p one e fits he hp ha hd hc => performReset_aborts hp ha hd (entry_of_mem fits.distinct he) hc one,
    fun s l st hs hl => ?failure⟩
  case checks =>
    refine ⟨fun hr => gives_patternGet h hp (takePatternGet_range hr), fun space hs => ?_, fun space hs => ?_⟩
    · exact gives_patternGet h hp ((takePatternGet_inSpace space).trans (if_pos hs))
    · refine gives_patternGet h hp ((takePatternGet_inSpace space).trans ?_)
      rw [if_neg (by simp [hs]), enterTable_eq]
  case frames =>
    exact ⟨deliverPattern_waits, fun hw => ⟨deliverPattern_txq hi ha hd he hw, deliverPattern_other hi ha hd he hw,
      deliverPattern_entry hi ha hd he hw⟩⟩
  case failure =>
    obtain ⟨continued, keys⟩ := linkFails_discards hs hl st
    refine ⟨fun e he pattern => ?_, fun fits e he pattern reply f hf key => ?_⟩
    · obtain ⟨x, hx, continues⟩ := continued.entries e he
      exact continues.reply ▸ discardOwed_patterns _ l x hx (continues.pattern pattern)
    · have table : (s.modPort l (Port.cut st)).table = s.table := State.modPort_table s l _
      refine discardOwed_keys (s := s.modPort l (Port.cut st)) (table ▸ fits.distinct) (table ▸ he) pattern reply ?_
      exact keys.keys.subset (List.mem_map.mpr ⟨f, hf, key⟩)

end Sys2Proof.Machine

namespace Sys2Proof.Machine

/-! PROOFS. Set link mode, Set error scope, and the error scope through resets and a Format (O31). -/

/-! ### Set link mode (R122) -/

section
variable {s : State} {k : Key}

theorem takeLinkMode_busy (h : ∃ e ∈ s.table, e.key.origin = k.origin) (v : Option Nat) :
    State.takeLinkMode v k s = s.answerNow k 7 .busy .none := if_pos (by simpa using h)

/-- With no entry of the link in the way, a mode of 0 or 1 is set. -/
theorem takeLinkMode_free (h : ∀ e ∈ s.table, e.key.origin ≠ k.origin) (mode : Nat) : State.takeLinkMode (some mode) k s =
    if mode ≤ 1 then (s.modPort k.origin fun x => { x with pattern := mode == 1 }).answerNow k 7 .ok .none
    else s.answerNow k 7 .invalid .none := by
  rw [State.takeLinkMode, if_neg (by simpa using h)]
  simp [State.answerIf]

theorem takeLinkMode_none (h : ∀ e ∈ s.table, e.key.origin ≠ k.origin) :
    State.takeLinkMode none k s = s.answerNow k 7 .invalid .none := if_neg (by simpa using h)

theorem takeLinkMode_invalid (h : ∀ e ∈ s.table, e.key.origin ≠ k.origin) {v : Option Nat} (h0 : v ≠ some 0) (h1 : v ≠ some 1) :
    State.takeLinkMode v k s = s.answerNow k 7 .invalid .none := by
  cases v with
  | none => exact takeLinkMode_none h
  | some mode =>
    have other : ¬ mode ≤ 1 := fun hm => (Nat.le_one_iff_eq_zero_or_eq_one.mp hm).elim (h0 ∘ congrArg some) (h1 ∘ congrArg some)
    rw [takeLinkMode_free h, if_neg other]

end

theorem gives_setLinkMode {s p X : State} {l : Link} {tag : Tag} {v : Option Nat} (h : Takes s l tag (.setLinkMode v) p)
    (hX : State.takeLinkMode v (key l tag) p = X) : Gives (.setLinkMode l tag v) s X := gives_takes rfl h hX

/-! ### Set error scope (R154) -/

theorem takeScope_some (scope pairing : Nat) (k : Key) (s : State) : State.takeScope (some (scope, pairing)) k s =
    if scope ≤ 1 ∧ pairing ≤ scope then State.answerNow { s with scope := ⟨scope == 1, pairing == 1⟩ } k 7 .ok .none
    else s.answerNow k 7 .invalid .none := by
  simp [State.takeScope, State.answerIf]

/-- The values R154 has are PART, LINK, and LINK with pairing. -/
theorem takeScope_invalid {v : Option (Nat × Nat)} (h0 : v ≠ some (0, 0)) (h1 : v ≠ some (1, 0)) (h2 : v ≠ some (1, 1)) (k : Key)
    (s : State) : State.takeScope v k s = s.answerNow k 7 .invalid .none := by
  cases v with
  | none => rfl
  | some x =>
    obtain ⟨scope, pairing⟩ := x
    simp only [ne_eq, Option.some.injEq, Prod.mk.injEq] at h0 h1 h2
    rw [takeScope_some, if_neg (by omega)]

theorem gives_setErrorScope {s p X : State} {l : Link} {tag : Tag} {v : Option (Nat × Nat)}
    (h : Takes s l tag (.setErrorScope v) p) (hX : State.takeScope v (key l tag) p = X) : Gives (.setErrorScope l tag v) s X :=
  gives_takes rfl h hX

/-! ### The error scope through resets and a Format (R8, R172, R175) -/

theorem cancelSlot_scope (s : State) (i : Fin 16) : (s.cancelSlot i).scope = s.scope := by
  have released := Kept.foldl (fun s (r : FetchRead) => Kept.releaseRead s r.band) (s.fetchList.filter fun r => r.slot == i)
    { s with fetchList := s.fetchList.filter fun r => r.slot != i }
  unfold State.cancelSlot
  split
  · exact (released.trans (Kept.modSlot _ _ _)).scope
  · rfl

theorem abortSlot_scope (s : State) (i : Fin 16) : (s.abortSlot i).scope = s.scope := by
  unfold State.abortSlot
  split
  · exact (cancelSlot_scope _ i).trans (Kept.answerEntry s _ _ _).scope
  · rfl

theorem abortSlots_scope (l : List (Fin 16)) (s : State) : (l.foldl State.abortSlot s).scope = s.scope := by
  induction l generalizing s with
  | nil => rfl
  | cons i l ih => exact (ih _).trans (abortSlot_scope s i)

theorem resetAnswers_scope (flushes : List Key) (s : State) : (s.resetAnswers flushes).scope = s.scope :=
  (((Kept.answerAll _ _ _).trans (Kept.answerAll _ _ _)).trans (Kept.answerPuts _)).scope.trans (abortSlots_scope allQueues s)

theorem resetWork_scope (s : State) : s.resetWork.scope = s.scope :=
  (resetAnswers_scope _ _).trans ((Kept.resetPuts s).trans (Kept.resetQueues _)).scope

theorem defaults_scope (s : State) : s.defaults.scope = ⟨false, false⟩ := by
  rw [State.defaults, State.mapQueues_scope]
  rfl

theorem performReset_scope (s : State) (one : Bool) :
    (s.performReset one).scope = if one then ⟨false, false⟩ else s.scope := by
  rw [performReset_eq]
  cases one
  · exact resetWork_scope s
  · exact defaults_scope s.resetWork

theorem completeFormat_scope (s : State) : s.completeFormat.scope = s.scope := by
  by_cases hf : s.format = .formatting
  · cases hx : s.formatting with
    | none => rw [completeFormat_none (.inr hx)]
    | some x =>
      rw [completeFormat_formatting hf hx]
      exact (Kept.answerAll _ _ _).scope.trans (State.mapQueues_scope s fun _ q => { q with almostFull := false })
  · rw [completeFormat_none (.inl hf)]

theorem scope_through_resets (p : State) : (p.performReset true).scope = ⟨false, false⟩ ∧ p.level0.scope = ⟨false, false⟩ ∧
    State.reset.scope = ⟨false, false⟩ ∧ (p.performReset false).scope = p.scope ∧ p.completeFormat.scope = p.scope :=
  ⟨performReset_scope p true, rfl, rfl, performReset_scope p false, completeFormat_scope p⟩

/-- Settles O31: each Set by the value it takes, the scope through each reset and a Format, and the Query of it. -/
theorem linkModeAndErrorScope : Obligations.LinkModeAndErrorScope := by
  refine ⟨fun s l tag v p h => ?mode, fun s l tag v p h => ?scope, scope_through_resets, fun s l tag p h => gives_takes rfl h rfl⟩
  case mode =>
    dsimp only
    refine ⟨fun busy => gives_setLinkMode h (takeLinkMode_busy busy v), fun free => ⟨fun h0 h1 => ?_, ?_, ?_⟩⟩
    · exact gives_setLinkMode h (takeLinkMode_invalid free h0 h1)
    · rintro rfl
      exact gives_setLinkMode h (takeLinkMode_free free 0)
    · rintro rfl
      exact gives_setLinkMode h (takeLinkMode_free free 1)
  case scope =>
    dsimp only
    refine ⟨fun h0 h1 h2 => gives_setErrorScope h (takeScope_invalid h0 h1 h2 _ p), ?_, ?_, ?_⟩
    · rintro rfl
      exact gives_setErrorScope h (takeScope_some 0 0 _ p)
    · rintro rfl
      exact gives_setErrorScope h (takeScope_some 1 0 _ p)
    · rintro rfl
      exact gives_setErrorScope h (takeScope_some 1 1 _ p)

end Sys2Proof.Machine

namespace Sys2Proof.Machine

/-! PROOFS. The checks of a Clean and the start of its run (O28). -/

/-! ### The checks of a Clean (R127) -/

section
variable {s : State} {band : Nat}

/-- A candidate is there for a Clean of this band, or of any band where it names AUTO. -/
def State.cleanFinds (s : State) (band : Nat) : Prop :=
  (band = 4294967295 ∧ ∃ b ∈ s.bands, b.candidate = true) ∨
    (band ≠ 4294967295 ∧ ∃ b, s.bands[band]? = some b ∧ b.candidate = true)

theorem cleanFinds_iff : s.cleanFinds band ↔
    (if band = 4294967295 then s.bands.any Band.candidate else (s.bands[band]?).any Band.candidate) = true := by
  by_cases auto : band = 4294967295
  · simp [State.cleanFinds, auto]
  · simp [State.cleanFinds, auto, Option.any_eq_true]

theorem cleanRefusal_unnamed (hf : s.formatNow = .formatted) (h : ¬ (band = 4294967295 ∨ band < s.bands.length)) :
    s.cleanRefusal band = some .invalid := by
  obtain ⟨named, beyond⟩ := not_or.mp h
  exact if_pos ⟨hf, named, Nat.not_lt.mp beyond⟩

/-- Behind the band's number come the service, the candidate and the engine. -/
theorem cleanRefusal_named (h : s.formatNow = .formatted → band = 4294967295 ∨ band < s.bands.length) :
    s.cleanRefusal band = s.serviceRefusal.or
      (if (if band = 4294967295 then s.bands.any Band.candidate else (s.bands[band]?).any Band.candidate) = true then
        (if s.engine.state = .idle then none else some .busy)
      else some .state) := by
  rw [State.cleanRefusal, if_neg fun ⟨hf, auto, beyond⟩ => (h hf).elim auto (Nat.not_lt.mpr beyond)]
  cases s.serviceRefusal <;> rfl

variable (named : s.formatNow = .formatted → band = 4294967295 ∨ band < s.bands.length)
include named

theorem cleanRefusal_unserving {r : Status} (hu : Unserving s r) : s.cleanRefusal band = some r := by
  rw [cleanRefusal_named named, serviceRefusal_unserving hu, Option.some_or]

theorem cleanRefusal_notFound (hs : Serving s) (h : ¬ s.cleanFinds band) : s.cleanRefusal band = some .state := by
  rw [cleanRefusal_named named, serviceRefusal_serving hs, Option.none_or, if_neg (mt cleanFinds_iff.mpr h)]

theorem cleanRefusal_found (hs : Serving s) (h : s.cleanFinds band) :
    s.cleanRefusal band = if s.engine.state = .idle then none else some .busy := by
  rw [cleanRefusal_named named, serviceRefusal_serving hs, Option.none_or, if_pos (cleanFinds_iff.mp h)]

end

theorem takeClean_refused {s : State} {band : Nat} {r : Status} (h : s.cleanRefusal band = some r) (k : Key) :
    State.takeClean band k s = s.answerNow k 6 r .none := by
  simp only [State.takeClean, h]

/-- A Clean that passes starts its run, with no deferred band. -/
theorem takeClean_passes {s : State} {band : Nat} (h : s.cleanRefusal band = none) (k : Key) :
    State.takeClean band k s = State.enterTable { s with engine :=
      { state := .selecting, run := some (if band = 4294967295 then .auto else .single), clean := some k
        target := if band = 4294967295 then none else some band, victim := none, cursor := none, hand := none
        deferred := none } } k .clean := by
  simp only [State.takeClean, h]
  rfl

theorem gives_clean {s p X : State} {l : Link} {tag : Tag} {band : Nat} (h : Takes s l tag (.clean band) p)
    (hX : State.takeClean band (key l tag) p = X) : Gives (.clean l tag band) s X := gives_takes rfl h hX

/-- Settles O28, by the first check that refuses. -/
theorem cleans : Obligations.Cleans := by
  intro s l tag band p h
  dsimp only
  refine ⟨fun hf hn => ?unnamed, fun named => ⟨fun r hu => ?service, fun hs => ⟨fun hn => ?notFound, fun found => ?engine⟩⟩⟩
  case unnamed => exact gives_clean h (takeClean_refused (cleanRefusal_unnamed hf hn) _)
  case service => exact gives_clean h (takeClean_refused (cleanRefusal_unserving named hu) _)
  case notFound => exact gives_clean h (takeClean_refused (cleanRefusal_notFound named hs hn) _)
  case engine =>
    have checked := cleanRefusal_found named hs found
    refine ⟨fun busy => ?busy, fun idle => ?starts⟩
    case busy => exact gives_clean h (takeClean_refused (checked.trans (if_neg busy)) _)
    case starts => exact gives_clean h (takeClean_passes (checked.trans (if_pos idle)) _)

end Sys2Proof.Machine

namespace Sys2Proof.Machine

/-! PROOFS. The completions of the reads that serve no ACTIVE Get: relocation reads, reads of an ENDING slot, and the footer reads of
start-up (O53). -/

/-! ### A relocation read completed (R131, R137) -/

theorem releaseRead_shapeOf (s : State) (b v : Nat) : (s.releaseRead b).shapeOf v = s.shapeOf v := by
  have released : ∀ r : Option Band, (r.map fun r => if b = v then { r with pendingReads := r.pendingReads - 1 } else r).bind
      (fun r => (s.profile r.profile).shape) = r.bind fun r => (s.profile r.profile).shape := by
    rintro (_ | r)
    · rfl
    · by_cases h : b = v <;> simp [h]
  have bands : (s.releaseRead b).bands = s.bands.modify b fun r => { r with pendingReads := r.pendingReads - 1 } := by
    unfold State.releaseRead
    dsimp only
    split <;> rfl
  have profile : ∀ n, (s.releaseRead b).profile n = s.profile n := fun n => by
    obtain ⟨_, _, only⟩ := releaseRead_only s b
    rw [only]
    rfl
  simp only [State.shapeOf, bands, profile, List.getElem?_modify]
  exact congrArg (Option.getD · _) (released s.bands[v]?)

theorem releaseRead_trackData (s : State) (b v : Nat) : (s.releaseRead b).trackData v = s.trackData v := by
  rw [State.trackData, releaseRead_shapeOf, State.trackData]

/-- A claim on the engine's victim released: the track in hand waits for no release. -/
theorem releaseRead_hand {s : State} {v : Nat} {h : TrackInHand} (hv : s.engine.victim = some v) (hh : s.engine.hand = some h) :
    (s.releaseRead v).engine.hand = some { h with claimWait := false } := by
  have victim : (s.modBand v fun r => { r with pendingReads := r.pendingReads - 1 }).engine.victim = some v := hv
  simp only [State.releaseRead, victim, if_true]
  exact congrArg (Option.map _) hh

/-- The live set of a track in hand behind a read of n data sectors a track: the sectors read are settled as read, and at a REREAD the
others as unreadable. -/
def TrackInHand.settledLive (h : TrackInHand) (n : Nat) (read : Nat → Bool) : List LiveSector :=
  h.live.map fun y =>
    if y.outcome = none then
      (if read (y.index - h.track * n) then { y with outcome := some true }
       else if h.stage = .reread then { y with outcome := some false } else y)
    else y

section
variable {s : State} {r : ReadOrder} {h : TrackInHand} (hv : s.engine.victim = some r.band) (hh : s.engine.hand = some h)
  {read : Nat → Bool}
include hv hh

/-- The track in hand behind its read, by whether the read has settled its live set. -/
theorem relocRead_eq : s.relocRead r read = (s.releaseRead r.band).setHand (some
    (if ∀ y ∈ h.settledLive (s.trackData r.band) read, y.outcome ≠ none then
      { h with phase := .records, timeouts := 0, live := h.settledLive (s.trackData r.band) read, claimWait := false }
    else { h with phase := .presented, stage := .reread, timeouts := 0, live := h.settledLive (s.trackData r.band) read
                  claimWait := false })) := by
  have targets : ∀ k : TrackInHand, k.targets.isEmpty = true ↔ ∀ y ∈ k.live, y.outcome ≠ none := fun k => by
    simp [TrackInHand.targets]
  simp only [State.relocRead, releaseRead_hand hv hh, releaseRead_trackData, targets]
  rfl

theorem relocRead_records (all : ∀ y ∈ h.settledLive (s.trackData r.band) read, y.outcome ≠ none) :
    s.relocRead r read = (s.releaseRead r.band).setHand (some
      { h with phase := .records, timeouts := 0, live := h.settledLive (s.trackData r.band) read, claimWait := false }) := by
  rw [relocRead_eq hv hh, if_pos all]

theorem relocRead_reread (left : ∃ y ∈ h.settledLive (s.trackData r.band) read, y.outcome = none) :
    s.relocRead r read = (s.releaseRead r.band).setHand (some
      { h with phase := .presented, stage := .reread, timeouts := 0, live := h.settledLive (s.trackData r.band) read
               claimWait := false }) := by
  obtain ⟨y, hy, unsettled⟩ := left
  rw [relocRead_eq hv hh, if_neg fun all => all y hy unsettled]

end

section
variable {s : State} {r : ReadOrder} {rest : List Order} {c : Completion} (hp : s.path = .ready) (hw : s.window = .read r :: rest)
  (ha : (Order.read r).accepts c = true) (hc : c.check = checkValue (completionBytes 2 c))
include hp hw ha hc

/-- The completion of the oldest order, a relocation read, is handed to the engine, or only releases its claim. -/
theorem takeCompletion_relocation {stale : Bool} (ho : r.owner = .relocation stale) : s.takeCompletion 2 c =
    if stale then (s.oldestLeft rest).releaseRead r.band else (s.oldestLeft rest).relocRead r (r.counts c) := by
  rw [takeCompletion_oldest hp hw hc rfl ha]
  simp [State.orderCompleted, State.readCompleted, ho]

/-- The completion of the oldest order, the footer read of start-up. -/
theorem takeCompletion_footer (ho : r.owner = .startUp) : s.takeCompletion 2 c =
    (s.oldestLeft rest).footerRead r.band r.track (if r.counts c r.first then some s.footerData else none) := by
  rw [takeCompletion_oldest hp hw hc rfl ha]
  simp only [State.orderCompleted, State.readCompleted, ho]
  rfl

end

/-! ### A read of an ENDING slot (R121) -/

theorem fetchCompleted_inactive {s : State} {f : FetchRead} (h : (s.slot f.slot).state ≠ .active) (read : Nat → Bool) :
    s.fetchCompleted f read = s.releaseRead f.band := if_neg (by simp [FetchSlot.isActive, h])

theorem deliver_slot_inactive {s : State} {i : Fin 16} (h : (s.slot i).state ≠ .active) : s.deliver.slot i = s.slot i := by
  have delivered : ∀ (l : List (Fin 16)) (t : State), (t.slot i).state ≠ .active →
      (l.foldl State.deliverSlot t).slot i = t.slot i := by
    intro l
    induction l with
    | nil => exact fun _ _ => rfl
    | cons j l ih =>
      intro t ht
      have one : (t.deliverSlot j).slot i = t.slot i := by
        obtain rfl | other := eq_or_ne i j
        · rw [deliverSlot_inactive ht]
        · exact deliverSlot_slot t other
      rw [List.foldl_cons, ih _ (one ▸ ht), one]
  rw [State.deliver, State.slot, deliverPatterns_slots]
  exact delivered allQueues s h

/-- What settles ahead of the freeing of the slots leaves the reads a slot holds. -/
theorem undelivered_slotReads (s : State) (i : Fin 16) : s.undelivered.deliver.slotReads i = s.slotReads i := by
  have window : s.undelivered.deliver.window = s.window :=
    (((((stays_advanceStartUp s).trans (stays_resolveLostrels _)).trans (stays_releaseEmptied _)).trans
      (stays_advanceEngine _)).trans (stays_deliver _)).window
  have list : s.undelivered.deliver.fetchList = s.fetchList :=
    (((((Kept.advanceStartUp s).trans (Kept.resolveLostrels _)).trans (Kept.releaseEmptied _)).trans
      (Kept.advanceEngine _)).trans (Kept.deliver _)).fetchList
  rw [State.slotReads, window, list, State.slotReads]

/-- A slot in ENDING that holds no read is FREE at the end of the step. -/
theorem settle_frees {X : State} {i : Fin 16} (ending : (X.slot i).state = .ending) (idle : X.slotReads i = false) (old : State) :
    ((X.settle old).slot i).state = .free := by
  have ahead : X.undelivered.slot i = X.slot i := by
    rw [State.slot, (sparesEntry_undelivered (k := (X.slot i).key) X).slots, State.slot]
  have delivered : X.undelivered.deliver.slot i = X.slot i := by
    rw [deliver_slot_inactive (by rw [ahead, ending]; exact SlotState.noConfusion), ahead]
  have freed : X.undelivered.deliver.freeEnded.slot i = FetchSlot.empty := by
    rw [State.freeEnded, State.mapSlots_slot, delivered, undelivered_slotReads, if_pos ⟨ending, by rw [idle]; rfl⟩]
  rw [State.slot, settle_slots]
  exact congrArg FetchSlot.state freed

/-- A claim released leaves the fetch slots and the reads they hold. -/
theorem releaseRead_slotReads (s : State) (b : Nat) (i : Fin 16) :
    (s.releaseRead b).slot i = s.slot i ∧ (s.releaseRead b).slotReads i = s.slotReads i := by
  obtain ⟨_, _, only⟩ := releaseRead_only s b
  rw [only]
  exact ⟨rfl, rfl⟩

/-! ### The pieces of an intact footer inserted (R178) -/

theorem inUse_congr {s t : State} (hq : t.queues = s.queues) (hw : t.window = s.window) : t.inUse = s.inUse := by
  simp only [State.inUse, State.queue_congr hq, writeOrders_congr hw]

/-- The insert of a footer's piece, behind which the notices are raised and the bands left empty leave CLEANING. -/
theorem insertFooterPiece_eq (band base : Nat) (s : State) (p : FooterPiece) :
    s.insertFooterPiece band base p =
      let r := footerInsert band base (2 * s.inUse) s.map p
      (((s.setMap r.entries).noteHeadroom s.headroom (s.setMap r.entries).headroom).raiseLost r.dropped).releaseEmptied := rfl

/-- What the inserts of a footer's pieces leave of the state. -/
structure FooterKept (s t : State) : Prop where
  service : t.service = s.service
  queues : t.queues = s.queues
  window : t.window = s.window
  band : ∀ (i : Nat) (b : Band), s.bands[i]? = some b → b.state ≠ .cleaning → ∃ n, t.bands[i]? = some { b with valid := n }
  prior : ∀ x : BandState, (∀ b ∈ s.bands, b.prior ≠ some x) → ∀ b ∈ t.bands, b.prior ≠ some x

theorem FooterKept.refl (s : State) : FooterKept s s :=
  ⟨rfl, rfl, rfl, fun _ b hb _ => ⟨b.valid, hb⟩, fun _ h => h⟩

theorem FooterKept.trans {s t u : State} (h : FooterKept s t) (g : FooterKept t u) : FooterKept s u where
  service := g.service.trans h.service
  queues := g.queues.trans h.queues
  window := g.window.trans h.window
  band := fun i b hb hs => by
    obtain ⟨n, ht⟩ := h.band i b hb hs
    exact g.band i { b with valid := n } ht hs
  prior := fun x hx => g.prior x (h.prior x hx)

/-- The insert of a footer's piece is a change of the map and the work of the engine behind it, in which the bands left with nothing valid
leave CLEANING. -/
theorem insertFooterPiece_work (band base : Nat) (s : State) (p : FooterPiece) :
    let m := (footerInsert band base (2 * s.inUse) s.map p).entries
    EngineWork (s.setMap m) (s.insertFooterPiece band base p) ∧
      (s.insertFooterPiece band base p).bands = (s.setMap m).bands.map Band.leftCleaning := by
  have noted : ∀ (t : State) x y lost, EngineWork t ((t.noteHeadroom x y).raiseLost lost) ∧
      ((t.noteHeadroom x y).raiseLost lost).bands = t.bands := by
    intro t x y lost
    have headroom : EngineWork t (t.noteHeadroom x y) := .ite (engineWork_raiseBoth _ _ _) (.refl t)
    obtain ⟨_, _, noteOnly⟩ := noteHeadroom_only t x y
    obtain ⟨_, _, raiseOnly⟩ := raiseLost_only (t.noteHeadroom x y) lost
    refine ⟨headroom.trans ?_, by rw [raiseOnly, noteOnly]⟩
    unfold State.raiseLost
    split
    · exact .refl _
    · exact engineWork_raiseBoth _ _ _
  rw [insertFooterPiece_eq]
  obtain ⟨work, bands⟩ := noted (s.setMap (footerInsert band base (2 * s.inUse) s.map p).entries) _ _ _
  exact ⟨work.trans (engineWork_releaseEmptied _), by rw [releaseEmptied_bands, bands]⟩

theorem insertFooterPiece_map (band base : Nat) (s : State) (p : FooterPiece) :
    (s.insertFooterPiece band base p).map = (footerInsert band base (2 * s.inUse) s.map p).entries := by
  obtain ⟨_, _, _, _, _, only⟩ := (insertFooterPiece_work band base s p).1.only
  rw [only, State.setMap_map]

theorem footerKept_insert (band base : Nat) (s : State) (p : FooterPiece) : FooterKept s (s.insertFooterPiece band base p) := by
  obtain ⟨work, bands⟩ := insertFooterPiece_work band base s p
  have fields : (s.insertFooterPiece band base p).service = s.service ∧ (s.insertFooterPiece band base p).queues = s.queues ∧
      (s.insertFooterPiece band base p).window = s.window := by
    obtain ⟨_, _, _, _, _, only⟩ := work.only
    rw [only]
    exact ⟨rfl, rfl, rfl⟩
  obtain ⟨service, queues, window⟩ := fields
  refine ⟨service, queues, window, fun i b hb hs => ?_, fun x hx c hc => ?_⟩
  · refine ⟨validOf (footerInsert band base (2 * s.inUse) s.map p).entries i, ?_⟩
    rw [bands, List.getElem?_map, State.setMap_bands, List.getElem?_mapIdx, hb]
    simp [Band.leftCleaning, Band.emptied, hs]
  · rw [bands, State.setMap_bands] at hc
    obtain ⟨d, hd, rfl⟩ := List.mem_map.mp hc
    obtain ⟨i, hi, rfl⟩ := List.mem_mapIdx.mp hd
    have before : s.bands[i].prior ≠ some x := hx _ (List.getElem_mem hi)
    exact Band.leftCleaning_prior before

/-- The inserts of a footer's pieces in order, each within the headroom. -/
theorem insertFooterPieces (band base : Nat) (ps : List FooterPiece) (s : State) :
    FooterKept s (ps.foldl (State.insertFooterPiece band base) s) ∧
      (ps.foldl (State.insertFooterPiece band base) s).map =
        ps.foldl (fun m p => (footerInsert band base (2 * s.inUse) m p).entries) s.map := by
  induction ps generalizing s with
  | nil => exact ⟨.refl s, rfl⟩
  | cons p ps ih =>
    have one := footerKept_insert band base s p
    obtain ⟨kept, map⟩ := ih (s.insertFooterPiece band base p)
    refine ⟨one.trans kept, ?_⟩
    rw [List.foldl_cons, List.foldl_cons, map, inUse_congr one.queues one.window, insertFooterPiece_map]

/-! ### The next footer, or service, behind a footer read (R178, R179) -/

theorem enterService_fields (s : State) : s.enterService.map = s.map ∧ s.enterService.service = .inService ∧
    s.enterService.stage = .done := by
  obtain ⟨y, work, entered⟩ := enterService_only s
  obtain ⟨_, _, _, _, _, rfl⟩ := work.only
  rw [entered]
  exact ⟨rfl, rfl, rfl⟩

theorem enterService_settled (s : State) : ∀ v ∈ s.enterService.bands, v.issued ≤ v.completed := by
  rw [enterService_bands]
  intro v hv
  obtain ⟨c, _, rfl⟩ := List.mem_map.mp hv
  exact c.served_settled

/-- Behind a footer read the map is as it was, and so are the counts of a band that is not CLEANING. -/
theorem nextFooter_counts (s : State) : s.nextFooter.map = s.map ∧ ∀ (i : Nat) (b v : Band), s.bands[i]? = some b →
    b.state ≠ .cleaning → s.nextFooter.bands[i]? = some v →
    v.issued = b.issued ∧ v.completed = b.completed ∧ v.skipped = b.skipped ∧ v.retire = b.retire := by
  obtain settled | ⟨i, v, hi, hv, first⟩ := settled_or_first s.bands
  · rw [nextFooter_none settled]
    refine ⟨(enterService_fields s).1, fun i b v hb hs hv => ?_⟩
    rw [enterService_bands, List.getElem?_map, hb] at hv
    obtain rfl := Option.some.inj hv
    exact Band.served_counts hs (settled b (List.mem_of_getElem? hb))
  · rw [nextFooter_some hi hv first]
    refine ⟨rfl, fun j b u hb _ hu => ?_⟩
    obtain rfl := Option.some.inj (hb.symm.trans hu)
    exact ⟨rfl, rfl, rfl, rfl⟩

/-- The footer of the first track in flight is read next. -/
theorem nextFooter_reads {s : State} {i : Nat} {v : Band} (hi : s.nextFooter.bands[i]? = some v) (hv : v.completed < v.issued)
    (first : ∀ j u, j < i → s.nextFooter.bands[j]? = some u → u.issued ≤ u.completed) :
    s.nextFooter.stage = .reconcile i v.completed 0 false [] ∧ s.nextFooter.service = s.service := by
  obtain settled | ⟨k, u, hk, hu, least⟩ := settled_or_first s.bands
  · rw [nextFooter_none settled] at hi
    exact absurd (enterService_settled s v (List.mem_of_getElem? hi)) (Nat.not_le.mpr hv)
  · rw [nextFooter_some hk hu least] at hi first ⊢
    obtain below | rfl | above := Nat.lt_trichotomy i k
    · exact absurd (least i v below hi) (Nat.not_le.mpr hv)
    · obtain rfl := Option.some.inj (hi.symm.trans hk)
      exact ⟨rfl, rfl⟩
    · exact absurd (first k u above hk) (Nat.not_le.mpr hu)

/-- With no track in flight left the part is in service. -/
theorem nextFooter_serves {s : State} (prior : ∀ b ∈ s.bands, b.prior ≠ some .opened ∧ b.prior ≠ some .cleaning)
    (settled : ∀ v ∈ s.nextFooter.bands, v.issued ≤ v.completed) :
    s.nextFooter.service = .inService ∧ s.nextFooter.stage = .done ∧
      (∀ v ∈ s.nextFooter.bands, v.state ≠ .opened ∧ v.state ≠ .cleaning ∧ v.pendingReads = 0) ∧
      (s.nextFooter.headroom < 65536 → PendingOnBoth s.nextFooter .mapLow) := by
  obtain reached | ⟨k, u, hk, hu, least⟩ := settled_or_first s.bands
  · rw [nextFooter_none reached]
    obtain ⟨_, service, stage⟩ := enterService_fields s
    refine ⟨service, stage, fun v hv => ?_, enterService_headroom s⟩
    rw [enterService_bands] at hv
    obtain ⟨c, hc, rfl⟩ := List.mem_map.mp hv
    exact Band.served_state (prior c hc).1 (prior c hc).2
  · rw [nextFooter_some hk hu least] at settled
    exact absurd (settled u (List.mem_of_getElem? hk)) (Nat.not_le.mpr hu)

/-! ### A footer read that has ended (R178) -/

section
variable {s : State} {band track : Nat} {b : Band}

/-- A track confirmed: its footer's pieces in the map and one track more completed. -/
def State.confirmed (s : State) (band track : Nat) (ps : List FooterPiece) : State :=
  (ps.foldl (State.insertFooterPiece band (track * s.trackData band)) s).modBand band fun b => { b with completed := b.completed + 1 }

theorem footerRead_intact (hb : s.bands[band]? = some b) {footer : Option Sector} {ps : List FooterPiece}
    (h : (footer.bind fun f => intactFooter f band b.generation track b.profile (s.shapeOf band).sectors) = some ps) :
    s.footerRead band track footer = (s.confirmed band track ps).nextFooter := by
  simp only [State.footerRead, hb, Option.bind_some, h]
  rfl

/-- A footer that is not intact is as good as none. -/
theorem footerRead_notIntact (hb : s.bands[band]? = some b) {footer : Option Sector}
    (h : (footer.bind fun f => intactFooter f band b.generation track b.profile (s.shapeOf band).sectors) = none) :
    s.footerRead band track footer = s.footerRead band track none := by
  simp only [State.footerRead, hb, Option.bind_some, h, Option.bind_none]

theorem footerTaken_intact (h : Reconciled s band b) (ps : List FooterPiece) :
    FooterTaken s band track b (some ps) (s.confirmed band track ps).nextFooter := by
  obtain ⟨hb, hs, _, prior⟩ := h
  obtain ⟨kept, map⟩ := insertFooterPieces band (track * s.trackData band) ps s
  obtain ⟨n, inserted⟩ := kept.band band b hb hs
  have counted : (s.confirmed band track ps).bands[band]? = some { b with valid := n, completed := b.completed + 1 } := by
    rw [State.confirmed, State.modBand, List.getElem?_modify_eq, inserted]
    rfl
  have priors : ∀ c ∈ (s.confirmed band track ps).bands, c.prior ≠ some .opened ∧ c.prior ≠ some .cleaning := by
    intro c hc
    obtain ⟨j, hj⟩ := List.mem_iff_getElem?.mp hc
    rw [State.confirmed, State.modBand, List.getElem?_modify] at hj
    obtain ⟨u, hu, rfl⟩ := Option.map_eq_some_iff.mp hj
    have before : u.prior ≠ some .opened ∧ u.prior ≠ some .cleaning :=
      ⟨kept.prior _ (fun v hv => (prior v hv).1) u (List.mem_of_getElem? hu),
        kept.prior _ (fun v hv => (prior v hv).2) u (List.mem_of_getElem? hu)⟩
    split
    · exact before
    · exact before
  obtain ⟨same, counts⟩ := nextFooter_counts (s.confirmed band track ps)
  refine ⟨fun qs hq => ?_, nofun, fun i v hi hv first => ?_, nextFooter_serves priors⟩
  · obtain rfl := Option.some.inj hq
    refine ⟨same.trans map, fun v hv => ?_⟩
    obtain ⟨issued, completed, skipped, _⟩ := counts band _ v counted hs hv
    exact ⟨completed, issued, skipped⟩
  · obtain ⟨stage, service⟩ := nextFooter_reads hi hv first
    exact ⟨stage, service.trans kept.service⟩

/-- A footer read that has ended, with the footer's data or none. -/
theorem footerTaken (h : Reconciled s band b) (footer : Option Sector) :
    FooterTaken s band track b
      (footer.bind fun f => intactFooter f band b.generation track b.profile (s.shapeOf band).sectors)
      (s.footerRead band track footer) := by
  obtain ⟨hb, _⟩ := id h
  cases found : footer.bind fun f => intactFooter f band b.generation track b.profile (s.shapeOf band).sectors with
  | none =>
    rw [footerRead_notIntact hb found]
    exact footerTaken_none h
  | some ps =>
    rw [footerRead_intact hb found]
    exact footerTaken_intact h ps

end

/-- Settles O53, by the owner of the read: the engine's track in hand, a reset's leftover, a slot not ACTIVE, and start-up. -/
theorem otherReadsComplete : Obligations.OtherReadsComplete := by
  unfold Obligations.OtherReadsComplete
  intro s r rest c hp hw ha hc
  dsimp only
  refine ⟨fun h ho hv hh => ?relocation, fun ho => ?stale, fun f ho inactive => ?ending, fun b ho reconciled => ?footer⟩
  case relocation =>
    have taken := takeCompletion_relocation hp hw ha hc ho
    exact ⟨fun all => gives_readCompletion (taken.trans (relocRead_records (s := s.oldestLeft rest) hv hh all)),
      fun left => gives_readCompletion (taken.trans (relocRead_reread (s := s.oldestLeft rest) hv hh left))⟩
  case stale => exact gives_readCompletion (takeCompletion_relocation hp hw ha hc ho)
  case ending =>
    have gives : Gives (.readTrackCompletion c) s ((s.oldestLeft rest).releaseRead f.band) :=
      gives_readCompletion ((takeCompletion_fetch hp hw ho ha hc).trans (fetchCompleted_inactive (s := s.oldestLeft rest) inactive _))
    refine ⟨gives, fun ending idle => ?_⟩
    obtain ⟨t, ht, ends⟩ := gives
    obtain ⟨slot, reads⟩ := releaseRead_slotReads (s.oldestLeft rest) f.band f.slot
    refine ⟨t, ht, ?_⟩
    rw [ends.settled]
    exact settle_frees (by rw [slot]; exact ending) (reads.trans idle) s
  case footer =>
    refine ⟨_, gives_readCompletion (takeCompletion_footer hp hw ha hc ho), ?_⟩
    have pieces : ((if r.counts c r.first then some s.footerData else none).bind fun f =>
        intactFooter f r.band b.generation r.track b.profile (s.shapeOf r.band).sectors) =
        if r.counts c r.first then
          intactFooter s.footerData r.band b.generation r.track b.profile (s.shapeOf r.band).sectors else none := by
      split <;> rfl
    exact pieces ▸ footerTaken (s := s.oldestLeft rest) reconciled (if r.counts c r.first then some s.footerData else none)

end Sys2Proof.Machine

namespace Sys2Proof.Machine

/-! PROOFS. The records of a track in hand: the runs its still-live sectors fall into, what each record says of its run, and the step that
gives the records to Q15 (O60). -/

/-! ### The runs of the still-live sectors (R132) -/

/-- A sector of the live set that is still live, with the sequence of the entry that covers it. -/
abbrev Placed := LiveSector × Nat

section
variable {v : Nat}

/-- The run that begins with the second sector takes the first: the test of a run looks at its first sector alone. -/
def Placed.joins (v : Nat) (x y : Placed) : Bool :=
  joinsRun x.1.piece (x.1.fragment v x.2) y.1.piece (y.1.fragment v y.2)

theorem Placed.joins_iff {x y : Placed} : x.joins v y = true ↔ x.1.piece = y.1.piece ∧
    (x.1.outcome = some true ↔ y.1.outcome = some true) ∧ x.2 = y.2 ∧ x.1.index + 1 = y.1.index := by
  have kinds : ((if x.1.outcome = some true then RecordKind.reloc else .lostrel) =
      if y.1.outcome = some true then .reloc else .lostrel) ↔ (x.1.outcome = some true ↔ y.1.outcome = some true) := by
    by_cases hx : x.1.outcome = some true <;> by_cases hy : y.1.outcome = some true <;> simp [hx, hy]
  simp [Placed.joins, joinsRun, LiveSector.fragment, Location.plus, kinds, and_assoc]

/-- The still-live sectors cut into runs, each its first sector and those behind it. -/
def placedRuns (v : Nat) (l : List Placed) : List (Placed × List Placed) :=
  l.foldr (fun x acc => match acc with
    | [] => [(x, [])]
    | (y, g) :: rest => if x.joins v y then (x, y :: g) :: rest else (x, []) :: (y, g) :: rest) []

/-- The record of a run. -/
def runRecord (v : Nat) (g : Placed × List Placed) : Fragment :=
  { g.1.1.fragment v g.1.2 with
    length := g.2.length + 1
    data := if g.1.1.outcome = some true then (g.1 :: g.2).map (·.1.data) else [] }

theorem placedRuns_cons {l : List Placed} {y : Placed} {g : List Placed} {rest : List (Placed × List Placed)}
    (h : placedRuns v l = (y, g) :: rest) (x : Placed) :
    placedRuns v (x :: l) = if x.joins v y then (x, y :: g) :: rest else (x, []) :: (y, g) :: rest := by
  have step : placedRuns v (x :: l) = match placedRuns v l with
    | [] => [(x, [])]
    | (y, g) :: rest => if x.joins v y then (x, y :: g) :: rest else (x, []) :: (y, g) :: rest := rfl
  rw [step, h]

theorem placedRuns_head (x : Placed) (l : List Placed) : ∃ g rest, placedRuns v (x :: l) = (x, g) :: rest := by
  induction l generalizing x with
  | nil => exact ⟨[], [], rfl⟩
  | cons y l ih =>
    obtain ⟨g, rest, h⟩ := ih y
    rw [placedRuns_cons h]
    split
    · exact ⟨_, _, rfl⟩
    · exact ⟨_, _, rfl⟩

/-- An induction over the runs as they are made, from the last sector to the first. -/
theorem placedRuns_induction {P : List Placed → List (Placed × List Placed) → Prop} (nil : P [] [])
    (one : ∀ x, P [x] [(x, [])])
    (join : ∀ x y l g rest, x.joins v y = true → P l ((y, g) :: rest) → P (x :: l) ((x, y :: g) :: rest))
    (new : ∀ x y l g rest, x.joins v y = false → P l ((y, g) :: rest) → P (x :: l) ((x, []) :: (y, g) :: rest))
    (l : List Placed) : P l (placedRuns v l) := by
  induction l with
  | nil => exact nil
  | cons x l ih =>
    cases l with
    | nil => exact one x
    | cons y l =>
      obtain ⟨g, rest, h⟩ := placedRuns_head (v := v) y l
      rw [h] at ih
      rw [placedRuns_cons h]
      split
      · next hj => exact join x y _ g rest hj ih
      · next hj => exact new x y _ g rest (Bool.eq_false_iff.mpr hj) ih

/-- The model's runs are the records of these. -/
theorem relocRuns_eq (l : List Placed) :
    relocRuns v l = (placedRuns v l).map fun g => (g.1.1.piece, runRecord v g) := by
  have step : ∀ (x : Placed) (l : List Placed), relocRuns v (x :: l) = match relocRuns v l with
    | [] => [(x.1.piece, x.1.fragment v x.2)]
    | (p, r) :: rest =>
      if joinsRun x.1.piece (x.1.fragment v x.2) p r then
        (p, { x.1.fragment v x.2 with length := r.length + 1, data := (x.1.fragment v x.2).data ++ r.data }) :: rest
      else (x.1.piece, x.1.fragment v x.2) :: (p, r) :: rest := fun _ _ => rfl
  have single : ∀ x : Placed, runRecord v (x, []) = x.1.fragment v x.2 := fun x => by
    by_cases h : x.1.outcome = some true <;> simp [runRecord, LiveSector.fragment, h]
  have first : ∀ (x y : Placed) g, joinsRun x.1.piece (x.1.fragment v x.2) y.1.piece (runRecord v (y, g)) = x.joins v y :=
    fun _ _ _ => rfl
  refine placedRuns_induction (v := v) (P := fun l gs => relocRuns v l = gs.map fun g => (g.1.1.piece, runRecord v g))
    rfl (fun x => ?_) (fun x y l g rest hj ih => ?_) (fun x y l g rest hj ih => ?_) l
  · rw [List.map_cons, single]
    rfl
  · obtain ⟨piece, read, _, _⟩ := Placed.joins_iff.mp hj
    rw [step, ih, List.map_cons]
    simp only [first, hj, if_true, List.map_cons]
    rw [piece]
    congr 2
    by_cases h : x.1.outcome = some true
    · simp [runRecord, LiveSector.fragment, h, read.mp h]
    · simp [runRecord, LiveSector.fragment, h, mt read.mpr h]
  · rw [step, ih, List.map_cons]
    simp only [first, hj, Bool.false_eq_true, if_false, List.map_cons, single]

theorem placedRuns_flatten (l : List Placed) : ((placedRuns v l).flatMap fun g => g.1 :: g.2) = l := by
  refine placedRuns_induction (v := v) (P := fun l gs => (gs.flatMap fun g => g.1 :: g.2) = l)
    rfl (fun x => rfl) (fun x y l g rest _ ih => ?_) (fun x y l g rest _ ih => ?_) l
  · rw [← ih]
    rfl
  · rw [← ih]
    rfl

/-- Within a run each sector joins the next. -/
theorem placedRuns_chain (l : List Placed) :
    ∀ g ∈ placedRuns v l, (g.1 :: g.2).IsChain fun x y => x.joins v y = true := by
  refine placedRuns_induction (v := v)
    (P := fun _ gs => ∀ g ∈ gs, (g.1 :: g.2).IsChain fun x y => x.joins v y = true)
    nofun (fun x => ?_) (fun x y l g rest hj ih => ?_) (fun x y l g rest _ ih => ?_) l
  · exact List.forall_mem_singleton.mpr (.singleton x)
  · obtain ⟨head, tail⟩ := List.forall_mem_cons.mp ih
    exact List.forall_mem_cons.mpr ⟨.cons_cons hj head, tail⟩
  · exact List.forall_mem_cons.mpr ⟨.singleton x, ih⟩

/-- Sectors that follow one another and join stand in one run. -/
theorem placedRuns_joined {x y : Placed} (h : x.joins v y = true) (a b : List Placed) :
    ∃ g ∈ placedRuns v (a ++ x :: y :: b), x ∈ g.1 :: g.2 ∧ y ∈ g.1 :: g.2 := by
  induction a with
  | nil =>
    obtain ⟨g, rest, hy⟩ := placedRuns_head (v := v) y b
    refine ⟨(x, y :: g), ?_, List.mem_cons_self, List.mem_cons_of_mem _ List.mem_cons_self⟩
    rw [List.nil_append, placedRuns_cons hy, if_pos h]
    exact List.mem_cons_self
  | cons z a ih =>
    obtain ⟨g, hg, hx, hy⟩ := ih
    cases hl : placedRuns v (a ++ x :: y :: b) with
    | nil => exact absurd (hl ▸ hg) List.not_mem_nil
    | cons k rest =>
      obtain ⟨w, k⟩ := k
      rw [hl] at hg
      rw [List.cons_append, placedRuns_cons hl]
      split
      · obtain rfl | hr := List.mem_cons.mp hg
        · exact ⟨_, List.mem_cons_self, List.mem_cons_of_mem _ hx, List.mem_cons_of_mem _ hy⟩
        · exact ⟨g, List.mem_cons_of_mem _ hr, hx, hy⟩
      · exact ⟨g, List.mem_cons_of_mem _ hg, hx, hy⟩

end

/-! ### The still-live sectors of a track in hand -/

section
variable {s : State} {v : Nat} {h : TrackInHand}

/-- The still-live sectors of the live set, in its order. -/
def State.placed (s : State) (v : Nat) (h : TrackInHand) : List Placed :=
  h.live.filterMap fun x => (s.stillLive v x).map fun q => (x, q)

theorem mem_placed {x : Placed} : x ∈ s.placed v h ↔ x.1 ∈ h.live ∧ s.stillLive v x.1 = some x.2 := by
  obtain ⟨x, q⟩ := x
  simp only [State.placed, List.mem_filterMap, Option.map_eq_some_iff, Prod.mk.injEq]
  constructor
  · rintro ⟨_, hx, _, hq, rfl, rfl⟩
    exact ⟨hx, hq⟩
  · exact fun ⟨hx, hq⟩ => ⟨x, hx, q, hq, rfl, rfl⟩

theorem placed_length (s : State) (v : Nat) (h : TrackInHand) :
    (s.placed v h).length = (h.live.filter fun x => (s.stillLive v x).isSome).length := by
  rw [State.placed, List.length_filterMap_eq_countP, List.countP_eq_length_filter]
  congr 2
  funext x
  exact Option.isSome_map

theorem placed_ascending (asc : (h.live.map (·.index)).Pairwise (· < ·)) :
    (s.placed v h).Pairwise fun x y => x.1.index < y.1.index := by
  rw [List.pairwise_map] at asc
  refine List.Pairwise.filterMap _ (fun x y hxy a ha b hb => ?_) asc
  obtain ⟨_, _, rfl⟩ := Option.map_eq_some_iff.mp ha
  obtain ⟨_, _, rfl⟩ := Option.map_eq_some_iff.mp hb
  exact hxy

theorem relocRecords_eq (s : State) (v : Nat) (h : TrackInHand) :
    s.relocRecords v h = (placedRuns v (s.placed v h)).map (runRecord v) := by
  rw [State.relocRecords, ← State.placed, relocRuns_eq, List.map_map]
  rfl

theorem mem_relocRecords {r : Fragment} :
    r ∈ s.relocRecords v h ↔ ∃ g ∈ placedRuns v (s.placed v h), runRecord v g = r := by
  rw [relocRecords_eq, List.mem_map]

/-- The sectors of the runs are the still-live ones. -/
theorem mem_run_placed {g : Placed × List Placed} (hg : g ∈ placedRuns v (s.placed v h)) {y : Placed} (hy : y ∈ g.1 :: g.2) :
    y ∈ s.placed v h := by
  rw [← placedRuns_flatten (v := v) (s.placed v h)]
  exact List.mem_flatMap.mpr ⟨g, hg, hy⟩

theorem relocRecords_sum (s : State) (v : Nat) (h : TrackInHand) :
    ((s.relocRecords v h).map (·.length)).sum = (h.live.filter fun x => (s.stillLive v x).isSome).length := by
  rw [← placed_length, relocRecords_eq, List.map_map]
  conv_rhs => rw [← placedRuns_flatten (v := v) (s.placed v h), List.length_flatMap]
  rfl

/-- y stands i sectors behind x in a run. -/
structure Placed.Behind (x : Placed) (i : Nat) (y : Placed) : Prop where
  index : y.1.index = x.1.index + i
  lsa : y.1.lsa = x.1.lsa + i
  sequence : y.2 = x.2
  read : y.1.outcome = some true ↔ x.1.outcome = some true

/-- In a chain of sectors that join, in whose read pieces LSA and index rise together, each stands at its distance behind the first. -/
theorem behind_of_chain {x : Placed} {l : List Placed} (hc : (x :: l).IsChain fun a b => a.joins v b = true)
    (rise : ∀ a ∈ x :: l, ∀ b ∈ x :: l, a.1.piece = b.1.piece → a.1.lsa + b.1.index = b.1.lsa + a.1.index)
    {i : Nat} {y : Placed} (hi : (x :: l)[i]? = some y) : x.Behind i y := by
  induction l generalizing x i with
  | nil =>
    obtain ⟨short, rfl⟩ := List.getElem?_eq_some_iff.mp hi
    obtain rfl : i = 0 := by simpa using short
    exact ⟨rfl, rfl, rfl, Iff.rfl⟩
  | cons z l ih =>
    obtain ⟨hj, hc⟩ := List.isChain_cons_cons.mp hc
    cases i with
    | zero =>
      obtain rfl : x = y := by simpa using hi
      exact ⟨rfl, rfl, rfl, Iff.rfl⟩
    | succ i =>
      have next := ih hc (fun a ha b hb => rise a (List.mem_cons_of_mem _ ha) b (List.mem_cons_of_mem _ hb)) hi
      obtain ⟨piece, read, sequence, index⟩ := Placed.joins_iff.mp hj
      have lsa := rise x List.mem_cons_self z (List.mem_cons_of_mem _ List.mem_cons_self) piece
      exact ⟨by rw [next.index]; omega, by rw [next.lsa]; omega, next.sequence.trans sequence.symm, next.read.trans read.symm⟩

/-! ### What a record says of its sectors (R129, R132) -/

/-- A record holds a sector of the live set: at its source index and its LSA, with the sequence of the covering entry, as read or not. -/
def State.holdsLive (s : State) (v : Nat) (r : Fragment) (x : LiveSector) : Prop :=
  ∃ d, r.source = some d ∧ d.index ≤ x.index ∧ x.index < d.index + r.length ∧
    x.lsa = r.lsa + (x.index - d.index) ∧ s.stillLive v x = some r.sequence ∧ (r.kind = .reloc ↔ x.outcome = some true)

theorem runRecord_reloc (v : Nat) (g : Placed × List Placed) : (runRecord v g).kind = .reloc ↔ g.1.1.outcome = some true := by
  simp [runRecord, LiveSector.fragment]

theorem runRecord_data {g : Placed × List Placed} (hk : (runRecord v g).kind = .reloc) :
    (runRecord v g).data = (g.1 :: g.2).map (·.1.data) := if_pos ((runRecord_reloc v g).mp hk)

theorem runRecord_noData {g : Placed × List Placed} (hk : (runRecord v g).kind = .lostrel) : (runRecord v g).data = [] :=
  if_neg fun read => RecordKind.noConfusion (hk.symm.trans ((runRecord_reloc v g).mpr read))

/-- What a record made of a track in hand is, whichever sectors it holds. -/
theorem runRecord_form (v : Nat) (g : Placed × List Placed) :
    (runRecord v g).filling = 0 ∧ (runRecord v g).origin = none ∧ (runRecord v g).attempts = 0 ∧
      (runRecord v g).acknowledged = false ∧ (runRecord v g).drain = false ∧
      ((runRecord v g).kind = .reloc ∨ (runRecord v g).kind = .lostrel) ∧ 0 < (runRecord v g).length := by
  refine ⟨rfl, rfl, rfl, rfl, rfl, ?_, Nat.succ_pos _⟩
  by_cases read : g.1.1.outcome = some true
  · exact .inl ((runRecord_reloc v g).mpr read)
  · exact .inr (if_neg read)

/-- The records of runs apart: each run's sectors lie below those of the runs behind it, and end where its record ends. -/
theorem relocRecords_apart (asc : (h.live.map (·.index)).Pairwise (· < ·))
    (behind : ∀ g ∈ placedRuns v (s.placed v h), ∀ (i : Nat) (y : Placed), (g.1 :: g.2)[i]? = some y → g.1.Behind i y) :
    (s.relocRecords v h).Pairwise fun a b =>
      ∀ d e, a.source = some d → b.source = some e → d.index + a.length ≤ e.index := by
  have apart := placed_ascending (s := s) (v := v) asc
  rw [← placedRuns_flatten (v := v) (s.placed v h), List.pairwise_flatMap] at apart
  obtain ⟨_, apart⟩ := apart
  rw [relocRecords_eq, List.pairwise_map]
  refine List.Pairwise.imp_of_mem (fun {a b} ha _ hab d e hd he => ?_) apart
  obtain rfl : ⟨v, a.1.1.index⟩ = d := Option.some.inj hd
  obtain rfl : ⟨v, b.1.1.index⟩ = e := Option.some.inj he
  obtain ⟨y, hy⟩ : ∃ y, (a.1 :: a.2)[a.2.length]? = some y := ⟨_, List.getElem?_eq_getElem (by simp)⟩
  have last := (behind a ha _ y hy).index
  have below := hab y (List.mem_of_getElem? hy) b.1 List.mem_cons_self
  show a.1.1.index + (a.2.length + 1) ≤ b.1.1.index
  omega

section
variable (rise : ∀ x ∈ h.live, ∀ y ∈ h.live, x.piece = y.piece → x.lsa + y.index = y.lsa + x.index)
  {g : Placed × List Placed} (hg : g ∈ placedRuns v (s.placed v h))
include rise hg

/-- Each sector of a run stands at its distance behind the run's first. -/
theorem run_behind {i : Nat} {y : Placed} (hy : (g.1 :: g.2)[i]? = some y) : g.1.Behind i y := by
  have live : ∀ a ∈ g.1 :: g.2, a.1 ∈ h.live := fun a ha => (mem_placed.mp (mem_run_placed hg ha)).1
  exact behind_of_chain (placedRuns_chain _ g hg) (fun a ha b hb => rise a.1 (live a ha) b.1 (live b hb)) hy

/-- The record of a run holds each sector of it. -/
theorem runRecord_holds {y : Placed} (hy : y ∈ g.1 :: g.2) : s.holdsLive v (runRecord v g) y.1 := by
  obtain ⟨i, hi⟩ := List.mem_iff_getElem?.mp hy
  have behind := run_behind rise hg hi
  have short : i < g.2.length + 1 := (List.getElem?_eq_some_iff.mp hi).1
  obtain ⟨_, live⟩ := mem_placed.mp (mem_run_placed hg hy)
  refine ⟨⟨v, g.1.1.index⟩, rfl, ?_, ?_, ?_, ?_, (runRecord_reloc v g).trans behind.read.symm⟩
  · rw [behind.index]
    exact Nat.le_add_right _ _
  · rw [behind.index]
    exact Nat.add_lt_add_left short _
  · show y.1.lsa = g.1.1.lsa + (y.1.index - g.1.1.index)
    rw [behind.index, behind.lsa, Nat.add_sub_cancel_left]
  · exact live.trans (congrArg some behind.sequence)

/-- The record of a run holds a sector at each of its indexes, with its data where it was read. -/
theorem runRecord_sectors {i : Nat} (hi : i < (runRecord v g).length) : ∃ x ∈ h.live, x.index = g.1.1.index + i ∧
    s.holdsLive v (runRecord v g) x ∧ ((runRecord v g).kind = .reloc → (runRecord v g).data[i]? = some x.data) := by
  obtain ⟨y, hy⟩ : ∃ y, (g.1 :: g.2)[i]? = some y := ⟨_, List.getElem?_eq_getElem (by exact hi)⟩
  have mem := List.mem_of_getElem? hy
  refine ⟨y.1, (mem_placed.mp (mem_run_placed hg mem)).1, (run_behind rise hg hy).index, runRecord_holds rise hg mem, fun hk => ?_⟩
  rw [runRecord_data hk, List.getElem?_map, hy, Option.map_some]

end

/-- Every sector the map still places is held. -/
theorem relocRecords_hold (rise : ∀ x ∈ h.live, ∀ y ∈ h.live, x.piece = y.piece → x.lsa + y.index = y.lsa + x.index)
    {x : LiveSector} (hx : x ∈ h.live) (live : s.stillLive v x ≠ none) : ∃ r ∈ s.relocRecords v h, s.holdsLive v r x := by
  obtain ⟨q, hq⟩ := Option.ne_none_iff_exists'.mp live
  have placed : (x, q) ∈ s.placed v h := mem_placed.mpr ⟨hx, hq⟩
  rw [← placedRuns_flatten (v := v) (s.placed v h)] at placed
  obtain ⟨g, hg, mem⟩ := List.mem_flatMap.mp placed
  exact ⟨_, mem_relocRecords.mpr ⟨g, hg, rfl⟩, runRecord_holds rise hg mem⟩

/-- In a list in ascending order, two whose keys differ by 1 follow one another. -/
theorem adjacent_of_ascending {l : List Placed} (asc : l.Pairwise fun x y => x.1.index < y.1.index) {x y : Placed} (hx : x ∈ l)
    (hy : y ∈ l) (next : y.1.index = x.1.index + 1) : ∃ a b, l = a ++ x :: y :: b := by
  obtain ⟨a, l', rfl⟩ := List.append_of_mem hx
  obtain ⟨_, tail, before⟩ := List.pairwise_append.mp asc
  obtain ⟨above, tail⟩ := List.pairwise_cons.mp tail
  have behind : y ∈ l' := by
    obtain hy | hy := List.mem_append.mp hy
    · have := before y hy x List.mem_cons_self
      omega
    · obtain rfl | hy := List.mem_cons.mp hy
      · omega
      · exact hy
  cases l' with
  | nil => exact absurd behind List.not_mem_nil
  | cons z b =>
    obtain rfl | hy := List.mem_cons.mp behind
    · exact ⟨a, b, rfl⟩
    · have := (List.pairwise_cons.mp tail).1 y hy
      have := above z List.mem_cons_self
      omega

/-- Neighbours of one read piece with the same outcome and sequence share a record. -/
theorem relocRecords_share (asc : (h.live.map (·.index)).Pairwise (· < ·))
    (rise : ∀ x ∈ h.live, ∀ y ∈ h.live, x.piece = y.piece → x.lsa + y.index = y.lsa + x.index)
    {x y : LiveSector} (hx : x ∈ h.live) (hy : y ∈ h.live) (piece : x.piece = y.piece) (next : y.index = x.index + 1)
    (live : s.stillLive v x ≠ none) (same : s.stillLive v x = s.stillLive v y)
    (read : x.outcome = some true ↔ y.outcome = some true) :
    ∃ r ∈ s.relocRecords v h, s.holdsLive v r x ∧ s.holdsLive v r y := by
  obtain ⟨q, hq⟩ := Option.ne_none_iff_exists'.mp live
  obtain ⟨a, b, split⟩ := adjacent_of_ascending (placed_ascending (s := s) (v := v) asc)
    (mem_placed.mpr ⟨hx, hq⟩ : (x, q) ∈ _) (mem_placed.mpr ⟨hy, same.symm.trans hq⟩ : (y, q) ∈ _) next
  have joins : Placed.joins v (x, q) (y, q) = true := Placed.joins_iff.mpr ⟨piece, read, rfl, next.symm⟩
  obtain ⟨g, hg, memx, memy⟩ := placedRuns_joined joins a b
  rw [← split] at hg
  exact ⟨_, mem_relocRecords.mpr ⟨g, hg, rfl⟩, runRecord_holds rise hg memx, runRecord_holds rise hg memy⟩

end

/-! ### The records claimed and given to Q15 (R132) -/

section
variable {s : State} {v : Nat} {h : TrackInHand}

theorem makeRecords_hand (hv : s.engine.victim = some v) (hh : s.engine.hand = some h) (hp : h.phase = .records) :
    s.makeRecords = if (s.relocRecords v h).length ≤ s.poolFree ∧ 2 * (s.relocRecords v h).length ≤ s.headroom then
      State.noteFalls { s with
        queues := s.queues.set 15 { s.queue 15 with records := (s.queue 15).records ++ s.relocRecords v h }
        engine := { s.engine with cursor := some (h.track + 1), hand := none } } s
    else s := by
  simp only [State.makeRecords, State.modQueue, hv, hh, hp, if_true]
  rfl

theorem makeRecords_same (hp : ∀ h, s.engine.hand = some h → h.phase ≠ .records) : s.makeRecords = s := by
  unfold State.makeRecords
  split
  · next hh => exact if_neg (hp _ hh)
  · rfl

theorem gives_relocationRecords {s X : State} (h : s.makeRecords = X) : Gives .relocationRecords s X := gives_of_finish (h ▸ rfl)

end

/-- Settles O60: the step by whether the records are granted, and the records by the runs the still-live sectors fall into. -/
theorem relocationRecords : Obligations.RelocationRecords := by
  unfold Obligations.RelocationRecords
  refine ⟨fun s => ⟨fun v h hv hh hp => ?step, fun absent => ?noHand, fun h hh hp => ?otherPhase⟩, fun s v h asc rise => ?records⟩
  case step =>
    have step := makeRecords_hand hv hh hp
    exact ⟨fun pool headroom => gives_relocationRecords (step.trans (if_pos ⟨pool, headroom⟩)),
      fun short => gives_relocationRecords (step.trans (if_neg (by omega)))⟩
  case noHand => exact gives_relocationRecords (makeRecords_same (by simp [absent]))
  case otherPhase =>
    exact gives_relocationRecords (makeRecords_same fun x hx => Option.some.inj (hh.symm.trans hx) ▸ hp)
  case records =>
    refine ⟨relocRecords_sum s v h, fun r hr => ?form, fun x hx => relocRecords_hold rise hx,
      relocRecords_apart asc fun g hg _ _ => run_behind rise hg,
      fun x hx y hy piece next live same read => relocRecords_share asc rise hx hy piece next live same read⟩
    obtain ⟨g, hg, rfl⟩ := mem_relocRecords.mp hr
    obtain ⟨filling, origin, attempts, acknowledged, drain, kind, length⟩ := runRecord_form v g
    refine ⟨filling, origin, attempts, acknowledged, drain, kind, length, ⟨v, g.1.1.index⟩, rfl, rfl,
      fun i hi => runRecord_sectors rise hg hi, fun hk => ?_, runRecord_noData⟩
    rw [runRecord_data hk, List.length_map]
    rfl

end Sys2Proof.Machine

namespace Sys2Proof.Machine

/-! PROOFS. The checks of a Quiesce, the Wake in each state of the spindle, Media Restart, and the release (O36, O37). -/

/-! ### The checks of a Quiesce (R139) -/

/-- Check 5 of R139: the path, the window, the Gets, and with PLACE in the release set the queues and the engine. -/
theorem restless_iff {s : State} {place : Bool} : s.restless place = true ↔
    s.path = .offline ∨ s.path = .recovering ∨ s.window ≠ [] ∨ s.awaitsMedia = true ∨
      (place = true ∧ ((∃ q, s.ready q = true) ∨ s.engine.state ≠ .idle)) := by
  simp [State.restless, mem_allQueues, or_assoc]

/-- Check 1 of R139: the target, the release set and, with TIMER in it, the interval are in range. -/
def QuiesceFits (target release interval : Nat) : Prop :=
  target ≤ 1 ∧ release < 8 ∧ (release.testBit 2 = true → 1 ≤ interval ∧ interval ≤ 86400)

section
variable {s : State} {target release interval : Nat}

theorem quiesceFits_iff : QuiesceFits target release interval ↔
    (target ≤ 1 && release < 8 && (!release.testBit 2 || (1 ≤ interval && interval ≤ 86400))) = true := by
  simp only [QuiesceFits, Bool.and_eq_true, decide_eq_true_eq, Bool.or_eq_true, Bool.not_eq_true', and_assoc, imp_iff_not_or,
    Bool.not_eq_true]

theorem quiesceRefusal_invalid (unfit : ¬ QuiesceFits target release interval) :
    s.quiesceRefusal target release interval = some .invalid :=
  if_pos (by rwa [quiesceFits_iff, Bool.not_eq_true, ← Bool.not_eq_true'] at unfit)

variable (fit : QuiesceFits target release interval)
include fit

/-- Behind the operands come the service, the state of the spindle, the path, and what is not idle. -/
theorem quiesceRefusal_fit : s.quiesceRefusal target release interval = s.serviceRefusal.or
    (if s.spindle.state ≠ .spinning then some .busy
      else if s.path = .down then some .mediaDown
      else if s.restless (release.testBit 1) then some .notIdle
      else none) := by
  unfold State.quiesceRefusal
  rw [quiesceFits_iff.mp fit]
  cases s.serviceRefusal <;> rfl

theorem quiesceRefusal_unserving {r : Status} (hu : Unserving s r) : s.quiesceRefusal target release interval = some r := by
  rw [quiesceRefusal_fit fit, serviceRefusal_unserving hu, Option.some_or]

theorem quiesceRefusal_moving (hs : Serving s) (h : s.spindle.state ≠ .spinning) :
    s.quiesceRefusal target release interval = some .busy := by
  rw [quiesceRefusal_fit fit, serviceRefusal_serving hs, Option.none_or, if_pos h]

/-- Of a spinning spindle the path and the work left can refuse. -/
theorem quiesceRefusal_spinning (hs : Serving s) (h : s.spindle.state = .spinning) :
    s.quiesceRefusal target release interval =
      if s.path = .down then some .mediaDown else if s.restless (release.testBit 1) then some .notIdle else none := by
  rw [quiesceRefusal_fit fit, serviceRefusal_serving hs, Option.none_or, if_neg (not_not.mpr h)]

end

theorem takeQuiesce_refused {s : State} {target release interval : Nat} {r : Status}
    (h : s.quiesceRefusal target release interval = some r) (k : Key) :
    State.takeQuiesce target release interval k s = s.answerNow k 11 r .none := by
  simp only [State.takeQuiesce, h]

theorem takeQuiesce_passes {s : State} {target release interval : Nat}
    (h : s.quiesceRefusal target release interval = none) (k : Key) :
    State.takeQuiesce target release interval k s =
      State.enterTable { s with spindle := Spindle.quiesced target release interval k } k .quiesce := by
  simp only [State.takeQuiesce, h]

theorem gives_quiesce {s p X : State} {l : Link} {tag : Tag} {target release interval : Nat}
    (h : Takes s l tag (.quiesce target release interval) p)
    (hX : State.takeQuiesce target release interval (key l tag) p = X) :
    Gives (.quiesce l tag target release interval) s X := gives_takes rfl h hX

/-- Settles O36, by the first check that refuses. -/
theorem quiesces : Obligations.Quiesces := by
  intro s l tag target release interval p h
  dsimp only
  refine ⟨fun unfit => ?invalid, fun fit => ⟨fun r hu => ?service, fun hs => ⟨fun moving => ?busy, fun spinning => ?spinning⟩⟩⟩
  case invalid => exact gives_quiesce h (takeQuiesce_refused (quiesceRefusal_invalid unfit) _)
  case service => exact gives_quiesce h (takeQuiesce_refused (quiesceRefusal_unserving fit hu) _)
  case busy => exact gives_quiesce h (takeQuiesce_refused (quiesceRefusal_moving fit hs moving) _)
  case spinning =>
    rw [← restless_iff]
    have checked := quiesceRefusal_spinning fit hs spinning
    refine ⟨fun down => ?down, fun up restless => ?notIdle, fun up idle => ?passes⟩
    case down => exact gives_quiesce h (takeQuiesce_refused (checked.trans (if_pos down)) _)
    case notIdle =>
      exact gives_quiesce h (takeQuiesce_refused (checked.trans ((if_neg up).trans (if_pos restless))) _)
    case passes => exact gives_quiesce h (takeQuiesce_passes (checked.trans ((if_neg up).trans (if_neg idle))) _)

/-! ### The release (R141) -/

theorem release_coming {s : State} (h : s.spindle.state = .parking ∨ s.spindle.state = .stopping) :
    s.release = { s with spindle := { s.spindle with releasePending := true } } := by
  obtain h | h := h
  · simp only [State.release, h]
  · simp only [State.release, h]

theorem release_turning {s : State} (h : s.spindle.state = .starting ∨ s.spindle.state = .spinning) : s.release = s := by
  obtain h | h := h
  · simp only [State.release, h]
  · simp only [State.release, h]

/-- The relocation read presented is another one than stood presented before (log 22). -/
theorem presentedRead_new {s old : State} (h : s.relocPresented = true) : (s.presentedRead != old.presentedRead) = true ↔
    old.relocPresented = false ∨ s.engine.victim ≠ old.engine.victim ∨
      s.engine.hand.map (·.track) ≠ old.engine.hand.map (·.track) := by
  cases before : old.relocPresented with
  | false => simp [State.presentedRead, h, before]
  | true => simp [State.presentedRead, h, before, imp_iff_not_or]

/-- A queue is newly offered, or a relocation read newly presented, since the step began (log 22). -/
def State.asksRelease (s old : State) : Prop :=
  (∃ q, s.offered q = true ∧ old.offered q = false) ∨
    (s.relocPresented = true ∧ (old.relocPresented = false ∨ s.engine.victim ≠ old.engine.victim ∨
      s.engine.hand.map (·.track) ≠ old.engine.hand.map (·.track)))

theorem asksRelease_iff {s old : State} : s.asksRelease old ↔
    (allQueues.any (fun q => s.offered q && !old.offered q) || (s.relocPresented && s.presentedRead != old.presentedRead)) = true := by
  have read : (s.relocPresented && s.presentedRead != old.presentedRead) = true ↔ s.relocPresented = true ∧
      (old.relocPresented = false ∨ s.engine.victim ≠ old.engine.victim ∨
        s.engine.hand.map (·.track) ≠ old.engine.hand.map (·.track)) := by
    rw [Bool.and_eq_true]
    exact and_congr_right presentedRead_new
  rw [Bool.or_eq_true, read, State.asksRelease]
  simp [mem_allQueues]

theorem askRelease_releases {s old : State} (hp : s.placeReleases = true) (h : s.asksRelease old) :
    s.askRelease old = s.release := if_pos (by rw [hp, Bool.true_and]; exact asksRelease_iff.mp h)

theorem askRelease_unasked {s old : State} (h : ¬ s.asksRelease old) : s.askRelease old = s :=
  if_neg fun asked => h (asksRelease_iff.mpr (Bool.and_eq_true_iff.mp asked).2)

/-! ### Wake (R145) -/

theorem gives_wake {s p X : State} {l : Link} {tag : Tag} (h : Takes s l tag .wake p)
    (hX : State.takeWake (key l tag) p = X) : Gives (.wake l tag) s X := gives_takes rfl h hX

theorem rests_iff {x : SpindleState} : x.rests = true ↔ x = .parked ∨ x = .stopped := by
  cases x <;> simp [SpindleState.rests]

/-- A Wake that waits, before the release it makes. -/
def State.wakeJoined (s : State) (k : Key) : State :=
  State.enterTable { s with spindle := { s.spindle with wakes := s.spindle.wakes ++ [k] } } k .wake

theorem wakeJoined_spindle (s : State) (k : Key) :
    (s.wakeJoined k).spindle = { s.spindle with wakes := s.spindle.wakes ++ [k] } := State.enterTable_spindle _ _ _

section
variable {s : State} (k : Key)

theorem takeWake_starting (h : s.service = .starting) : State.takeWake k s = s.answerNow k 12 .starting .none := if_pos h

variable (hs : s.service = .inService)
include hs

theorem takeWake_spinning (h : s.spindle.state = .spinning) : State.takeWake k s = s.answerNow k 12 .ok .none := by
  simp [State.takeWake, hs, h]

theorem takeWake_down (hr : s.spindle.state = .parked ∨ s.spindle.state = .stopped) (hp : s.path = .down) :
    State.takeWake k s = s.answerNow k 12 .mediaDown .none := by
  have turning : s.spindle.state ≠ .spinning := by rintro h; simp [h] at hr
  simp [State.takeWake, hs, turning, rests_iff.mpr hr, hp]

/-- A Wake that none of the checks answers joins the waiting Wakes, and makes a release. -/
theorem takeWake_joins (hn : s.spindle.state ≠ .spinning)
    (hr : ¬ ((s.spindle.state = .parked ∨ s.spindle.state = .stopped) ∧ s.path = .down)) :
    State.takeWake k s = (s.wakeJoined k).release := by
  rw [← rests_iff] at hr
  rw [State.takeWake, if_neg (by simp [hs]), if_neg hn, if_neg hr]
  rfl

theorem takeWake_rests (hr : s.spindle.state = .parked ∨ s.spindle.state = .stopped) (hp : s.path ≠ .down) :
    State.takeWake k s = { s.wakeJoined k with spindle := { (s.wakeJoined k).spindle with
      state := .starting, attempts := some 0, wakeTimer := none, releasePending := false
      motion := some (if s.spindle.resting = some .parked then .unpark else .spinUp) } } := by
  have spindle := wakeJoined_spindle s k
  rw [takeWake_joins k hs (by rintro h; simp [h] at hr) fun down => hp down.2, release_rests (by rwa [spindle]), State.startSpin,
    spindle]

theorem takeWake_coming (h : s.spindle.state = .parking ∨ s.spindle.state = .stopping) :
    State.takeWake k s = { s.wakeJoined k with spindle := { (s.wakeJoined k).spindle with releasePending := true } } := by
  rw [takeWake_joins k hs (by rintro n; simp [n] at h) (by rintro ⟨n | n, -⟩ <;> simp [n] at h),
    release_coming (by rwa [wakeJoined_spindle])]

theorem takeWake_turning (h : s.spindle.state = .starting) : State.takeWake k s = s.wakeJoined k := by
  rw [takeWake_joins k hs (by simp [h]) (by simp [h]), release_turning (.inl (by rwa [wakeJoined_spindle]))]

end

/-! ### Media Restart (R101, R106) -/

theorem gives_mediaRestart {s p X : State} {l : Link} {tag : Tag} (h : Takes s l tag .mediaRestart p)
    (hX : State.takeRestart (key l tag) p = X) : Gives (.mediaRestart l tag) s X := gives_takes rfl h hX

/-- An entry into RECOVERING with an empty window and no GEOMETRY order waiting hands nothing over. -/
theorem enterRecovering_empty {s : State} (hw : s.window = []) (hg : s.geometry = []) : s.enterRecovering =
    State.raiseBoth { s with path := .recovering, deadline := none, mediaReset := false, recoveryWait := true }
      .mediaRecovering 0 := by
  have first : s.secondSpinFailure = false := by simp [State.secondSpinFailure, hw]
  have failed : failOrders false s.window { s with path := .recovering } = { s with path := .recovering } := by rw [hw]; rfl
  have waiting : s.geometry.filter GeoOrder.forLoad = s.geometry := by rw [hg]; rfl
  rw [enterRecovering_first first, failed, State.recovering]
  simp only [waiting]

theorem takeRestart_down {s : State} (hp : s.path = .down) (hw : s.window = []) (hg : s.geometry = []) (k : Key) :
    State.takeRestart k s = State.release (State.raiseBoth { s.enterTable k .mediaRestart with
      path := .recovering, deadline := none, mediaReset := false, recoveryWait := true } .mediaRecovering 0) := by
  rw [State.takeRestart, if_pos hp,
    enterRecovering_empty ((State.enterTable_window _ _ _).trans hw) ((State.enterTable_geometry _ _ _).trans hg)]

/-- Settles O37, by the state of the spindle and of the path. -/
theorem wakesAndMediaRestarts : Obligations.WakesAndMediaRestarts := by
  refine ⟨fun s l tag p h => ?wake, fun s l tag p h => ?restart, fun s => ⟨?_, release_coming, release_turning⟩,
    fun s old => ⟨askRelease_releases, fun h => h.elim (askRelease_same · old) askRelease_unasked⟩⟩
  case wake =>
    exact ⟨fun starting => gives_wake h (takeWake_starting _ starting), fun hs =>
      ⟨fun spinning => gives_wake h (takeWake_spinning _ hs spinning),
        fun rests down => gives_wake h (takeWake_down _ hs rests down),
        fun rests up => gives_wake h (takeWake_rests _ hs rests up),
        fun coming => gives_wake h (takeWake_coming _ hs coming),
        fun starting => gives_wake h (takeWake_turning _ hs starting)⟩⟩
  case restart =>
    exact ⟨fun up => gives_mediaRestart h (if_neg up),
      fun down hw hg => gives_mediaRestart h (takeRestart_down down hw hg _)⟩
  · exact release_rests

end Sys2Proof.Machine

namespace Sys2Proof.Machine

/-! PROOFS. A motion order that completes (O55). -/

/-! ### Answers beside the spindle and the start-up -/

/-- A change of the state that neither reads nor changes the Request Table and the link ports. -/
def ApartFromAnswers (f : State → State) : Prop :=
  ∀ (s : State) t a b, f { s with table := t, portA := a, portB := b } = { f s with table := t, portA := a, portB := b }

namespace ApartFromAnswers

variable {f : State → State} (hf : ApartFromAnswers f)
include hf

theorem answerEntry (s : State) (k : Key) (x : Status) (r : Result) : (f s).answerEntry k x r = f (s.answerEntry k x r) := by
  have same : f s = { f s with table := s.table, portA := s.portA, portB := s.portB } := hf s s.table s.portA s.portB
  have entry : State.entry { f s with table := s.table, portA := s.portA, portB := s.portB } k = s.entry k := rfl
  rw [same]
  unfold State.answerEntry
  rw [entry]
  cases s.entry k with
  | none => exact same.symm
  | some e =>
    dsimp only
    split
    · exact same.symm
    · split
      · exact (hf s _ _ _).symm
      · cases e.reply
        · exact (hf s _ _ _).symm
        · exact (hf s _ _ _).symm

theorem answerAll (ks : List Key) (s : State) (x : Status) : (f s).answerAll ks x = f (s.answerAll ks x) := by
  induction ks generalizing s with
  | nil => rfl
  | cons k ks ih => exact (congrArg (State.answerAll · ks x) (hf.answerEntry s k x .none)).trans (ih _)

end ApartFromAnswers

theorem startSpin_apart : ApartFromAnswers State.startSpin := fun _ _ _ _ => rfl

/-- The start-up's spin-up is over: its GEOMETRY orders are presented, or the reinstalls stand in their place (R177, log 23). -/
def State.startUpTurning (reinstalled : Bool) (s : State) : State :=
  { s with stage := .geometry, geometry := if reinstalled then s.geometry else s.reinstalls .startUp ++ s.geometry }

theorem startUpTurning_apart (reinstalled : Bool) : ApartFromAnswers (State.startUpTurning reinstalled) := fun _ _ _ _ => rfl

/-! ### The completion of a motion order -/

theorem Motion.code_range (m : Motion) : 4 ≤ m.code ∧ m.code ≤ 7 := by cases m <;> decide

theorem Motion.up_rising {m : Motion} (h : m = .unpark ∨ m = .spinUp) : m.up = true := by obtain rfl | rfl := h <;> rfl

theorem Motion.up_resting {m : Motion} (h : m = .park ∨ m = .spinDown) : m.up = false := by obtain rfl | rfl := h <;> rfl

theorem motion_accepts {c : Completion} {m : Motion} (hu : c.unreadable = []) (hs : c.status = 0 ∨ c.status = 4) :
    (Order.motion m).accepts c = true := by
  rcases hs with hs | hs <;> simp [Order.accepts, hu, hs]

/-- A motion order that leaves the window DONE or failed gives what its hand-over makes of the state behind it. -/
theorem gives_motionCompletion {s X : State} {m : Motion} {rest : List Order} {c : Completion} (hp : s.path = .ready)
    (hw : s.window = .motion m :: rest) (hu : c.unreadable = []) (hc : c.check = checkValue (completionBytes m.code c))
    {done : Bool} (hs : c.status = if done then 0 else 4) (hX : (s.oldestLeft rest).motionCompleted m done = X) :
    Gives (.motionCompletion m.code c) s X := by
  have status : c.status = 0 ∨ c.status = 4 := by cases done <;> simp [hs]
  have ended : (c.status == 0) = done := by cases done <;> simp [hs]
  have handed : (s.oldestLeft rest).orderCompleted c (.motion m) = X := by rw [← hX, ← ended]; rfl
  refine gives_motionRecord (fun _ _ => ?_) fun outside => ?_
  · rw [takeCompletion_oldest hp hw hc rfl (motion_accepts hu status), handed]
  · obtain ⟨low, high⟩ := m.code_range
    omega

section
variable {s : State} {m : Motion}

theorem motionCompleted_rests (h : m = .park ∨ m = .spinDown) : s.motionCompleted m true = s.comeToRest := by
  simp only [State.motionCompleted, Motion.up_resting h]

theorem motionCompleted_turns (h : m = .unpark ∨ m = .spinUp) : s.motionCompleted m true = s.spunUp := by
  simp only [State.motionCompleted, Motion.up_rising h]

theorem motionCompleted_stays (h : m = .park ∨ m = .spinDown) : s.motionCompleted m false = s.returnSpinning .failed := by
  simp only [State.motionCompleted, Motion.up_resting h]

theorem motionCompleted_fails (h : m = .unpark ∨ m = .spinUp) : s.motionCompleted m false =
    if s.spindle.attempts = some 0 then (s.spinAgain m).enterRecovering else s.enterDown := by
  simp only [State.motionCompleted, Motion.up_rising h]

end

/-! ### PARK and SPIN DOWN (R140, R141, R142) -/

section
variable {s : State} {k : Key} (hk : s.spindle.quiesce = some k)
include hk

/-- No release pending: the spindle rests, and the wake timer runs where TIMER is in the release set (R142). -/
theorem comeToRest_unreleased (h : s.spindle.releasePending = false) :
    s.comeToRest = State.answerEntry { s with spindle := { s.spindle with
      state := if s.spindle.resting = some .parked then .parked else .stopped
      quiesce := none, releasePending := false
      wakeTimer := if s.spindle.release.any (·.timer) then s.spindle.wakeInterval else none } } k .ok .none := by
  simp [State.comeToRest, hk, h]

/-- A release pending: the Quiesce is answered, and the spindle is released at once (R141). -/
theorem comeToRest_released (h : s.spindle.releasePending = true) :
    s.comeToRest = State.answerEntry { s with spindle := { s.spindle with
      state := .starting, quiesce := none, releasePending := false, wakeTimer := none, attempts := some 0
      motion := some (if s.spindle.resting = some .parked then .unpark else .spinUp) } } k .ok .none := by
  have unstarted : s.comeToRest = State.startSpin (State.answerEntry { s with spindle := { s.spindle with
      state := if s.spindle.resting = some .parked then .parked else .stopped
      quiesce := none, wakeTimer := none, releasePending := false } } k .ok .none) := by
    simp [State.comeToRest, hk, h]
  rw [unstarted, ← startSpin_apart.answerEntry]
  rfl

theorem returnSpinning_quiesced (x : Status) : s.returnSpinning x =
    (State.answerEntry { s with spindle := Spindle.turning } k x .none).answerAll s.spindle.wakes .ok := by
  simp only [State.returnSpinning, hk]

end

/-! ### UNPARK and SPIN UP (R143, R146, R177) -/

/-- The spindle turns, and the waiting Wakes are answered (R143). -/
def State.wakesAnswered (s : State) : State := State.answerAll { s with spindle := Spindle.turning } s.spindle.wakes .ok

theorem wakesAnswered_leaves (s : State) : s.wakesAnswered.service = s.service ∧ s.wakesAnswered.stage = s.stage := by
  obtain ⟨_, _, _, only⟩ := answerAll_only { s with spindle := Spindle.turning } s.spindle.wakes .ok
  rw [State.wakesAnswered, only]
  exact ⟨rfl, rfl⟩

section
variable {s : State}

theorem spunUp_inService (hs : s.service = .inService) (hd : s.stage = .done) :
    s.spunUp = s.wakesAnswered.raiseBoth .wake 0 := by
  obtain ⟨service, stage⟩ := wakesAnswered_leaves s
  simp only [State.spunUp]
  rw [← State.wakesAnswered, if_pos (service.trans hs)]
  simp only [State.raiseBoth_stage, stage, hd]

/-- The start-up's own spin-up raises no WAKE (R146), and calls for the start-up GEOMETRY orders, or finds the reinstalls in their
place (R177, log 23). -/
theorem spunUp_starting {reinstalled : Bool} (hs : s.service = .starting) (hd : s.stage = .spinUp reinstalled) :
    s.spunUp = State.answerAll { s with
      spindle := Spindle.turning, stage := .geometry
      geometry := if reinstalled then s.geometry else s.reinstalls .startUp ++ s.geometry } s.spindle.wakes .ok := by
  obtain ⟨service, stage⟩ := wakesAnswered_leaves s
  have shaped : s.spunUp = s.wakesAnswered.startUpTurning reinstalled := by
    simp only [State.spunUp]
    rw [← State.wakesAnswered, if_neg (by simp [service, hs])]
    simp only [stage, hd]
    rfl
  rw [shaped, State.wakesAnswered, ← (startUpTurning_apart reinstalled).answerAll]
  rfl

end

/-- Settles O55, by the order's direction, its status, and what waits for its end. -/
theorem motionCompletes : Obligations.MotionCompletes := by
  intro s m rest c hp hw hu hc
  have given {done : Bool} {X : State} (hs : c.status = if done then 0 else 4)
      (hX : (s.oldestLeft rest).motionCompleted m done = X) : Gives (.motionCompletion m.code c) s X :=
    gives_motionCompletion hp hw hu hc hs hX
  refine ⟨fun hm h pending k hk => ?rests, fun hm h pending k hk => ?released, fun reinstalled hm h hs hd => ?startUp,
    fun hm h k hk => ?stays, fun hm h hs hd => ?turns, fun hm h => ⟨fun first => ?again, fun second => ?down⟩⟩
  case rests => exact given (done := true) h ((motionCompleted_rests hm).trans (comeToRest_unreleased (s := s.oldestLeft rest) hk pending))
  case released => exact given (done := true) h ((motionCompleted_rests hm).trans (comeToRest_released (s := s.oldestLeft rest) hk pending))
  case startUp => exact given (done := true) h ((motionCompleted_turns hm).trans (spunUp_starting (s := s.oldestLeft rest) hs hd))
  case stays => exact given (done := false) h ((motionCompleted_stays hm).trans (returnSpinning_quiesced (s := s.oldestLeft rest) hk .failed))
  case turns => exact given (done := true) h ((motionCompleted_turns hm).trans (spunUp_inService (s := s.oldestLeft rest) hs hd))
  case again => exact given (done := false) h ((motionCompleted_fails hm).trans (if_pos first))
  case down => exact given (done := false) h ((motionCompleted_fails hm).trans (if_neg second))

end Sys2Proof.Machine

namespace Sys2Proof.Machine

/-! PROOFS. The units received and sent on a link, and Hold Link (O40, O42, O43). -/

/-! ### Units received (R147 to R151) -/

/-- A READY link made RUNNING by a unit, with PEER_LINK raised on the other (R148, R157). -/
def State.nowRunning (s : State) (l : Link) : State :=
  (s.modPort l fun x => { x with state := .running }).raise l.other .peerLink 0

section
variable {s : State} {l : Link}

theorem nowRunning_port (s : State) (l : Link) : (s.nowRunning l).port l = { s.port l with state := .running } := by
  cases l <;> rfl

/-- What is done to a port, and PEER_LINK on the other, go in either order. -/
theorem nowRunning_modPort (s : State) (l : Link) (f : Port → Port) : (s.nowRunning l).modPort l f =
    (s.modPort l fun x => f { x with state := .running }).raise l.other .peerLink 0 := by
  cases l <;> rfl

theorem unitArrives_ready (h : (s.port l).state = .ready) : s.unitArrives l = s.nowRunning l := if_pos h

theorem unitArrives_same (h : (s.port l).state ≠ .ready) : s.unitArrives l = s := if_neg h

theorem unitArrives_nowRunning (s : State) (l : Link) : (s.nowRunning l).unitArrives l = s.nowRunning l :=
  unitArrives_same (by simp [nowRunning_port])

theorem not_running_of_cut (h : (s.port l).state = .error ∨ (s.port l).state = .held) :
    (s.port l).state ≠ .ready ∧ (s.port l).state ≠ .running := by
  obtain h | h := h <;> simp [h]

/-- A READY link takes a CREDIT as the RUNNING one it becomes. -/
theorem creditArrives_ready (h : (s.port l).state = .ready) : s.creditArrives l = (s.nowRunning l).creditArrives l := by
  rw [State.creditArrives, unitArrives_ready h, State.creditArrives, unitArrives_nowRunning]

theorem creditArrives_running (h : (s.port l).state = .running) : s.creditArrives l =
    if (s.port l).creditsHeld = 16 then s.linkFails l .error
    else s.modPort l fun x => { x with creditsHeld := x.creditsHeld + 1 } := by
  rw [State.creditArrives, unitArrives_same (by simp [h])]
  exact if_pos h

theorem creditArrives_cut (h : (s.port l).state = .error ∨ (s.port l).state = .held) : s.creditArrives l = s := by
  obtain ⟨ready, running⟩ := not_running_of_cut h
  rw [State.creditArrives, unitArrives_same ready]
  exact if_neg running

variable {good : Bool} {f : InFrame}

/-- A READY link takes a FRAME as the RUNNING one it becomes. -/
theorem frameArrives_ready (h : (s.port l).state = .ready) : s.frameArrives l good f = (s.nowRunning l).frameArrives l good f := by
  rw [State.frameArrives, unitArrives_ready h, State.frameArrives, unitArrives_nowRunning]

theorem frameArrives_running (h : (s.port l).state = .running) : s.frameArrives l good f =
    if good = false ∨ (s.port l).creditsGranted = 0 then s.linkFails l .error
    else s.modPort l fun x => { x with rx := x.rx ++ [f], creditsGranted := x.creditsGranted - 1 } := by
  rw [State.frameArrives, unitArrives_same (by simp [h])]
  simp [h]

/-- A FRAME with a right check value within the credits granted. -/
theorem frameArrives_taken (h : (s.port l).state = .running) (hg : good = true) (hc : 1 ≤ (s.port l).creditsGranted) :
    s.frameArrives l good f = s.modPort l fun x => { x with rx := x.rx ++ [f], creditsGranted := x.creditsGranted - 1 } := by
  rw [frameArrives_running h, if_neg (by simp [hg]; omega)]

theorem frameArrives_fails (h : (s.port l).state = .running) (hf : good = false ∨ (s.port l).creditsGranted = 0) :
    s.frameArrives l good f = s.linkFails l .error := (frameArrives_running h).trans (if_pos hf)

theorem frameArrives_cut (h : (s.port l).state = .error ∨ (s.port l).state = .held) : s.frameArrives l good f = s := by
  obtain ⟨ready, running⟩ := not_running_of_cut h
  rw [State.frameArrives, unitArrives_same ready]
  exact if_neg running

end

section
variable {s X : State} {l : Link}

theorem gives_idleReceived (h : s.idleArrives l = X) : Gives (.idleReceived l) s X := gives_of_finish (h ▸ rfl)

theorem gives_creditReceived (h : s.creditArrives l = X) : Gives (.creditReceived l) s X := gives_of_finish (h ▸ rfl)

theorem gives_frameReceived {bytes : List Byte} (h : s.frameArrives l (checkRight bytes) (readFrame bytes) = X) :
    Gives (.frameReceived l bytes) s X := gives_of_finish (h ▸ rfl)

end

/-- Settles O42: each unit by the state of the link, a READY one taken as the RUNNING one it becomes. -/
theorem unitsReceived : Obligations.UnitsReceived := by
  have running (s : State) (l : Link) : ((s.nowRunning l).port l).state = .running := by rw [nowRunning_port]
  have held (s : State) (l : Link) : ((s.nowRunning l).port l).creditsHeld = (s.port l).creditsHeld := by rw [nowRunning_port]
  have granted (s : State) (l : Link) : ((s.nowRunning l).port l).creditsGranted = (s.port l).creditsGranted := by
    rw [nowRunning_port]
  refine ⟨fun s l => ⟨fun h => gives_idleReceived (unitArrives_ready h), fun h => gives_idleReceived (unitArrives_same h)⟩,
    fun s l => ?credit, fun s l bytes => ?frame⟩
  case credit =>
    refine ⟨fun h below => ?_, fun h full => ?_, fun h below => ?_, fun h full => ?_,
      fun h => gives_creditReceived (creditArrives_cut h)⟩
    · exact gives_creditReceived ((creditArrives_running h).trans (if_neg below))
    · exact gives_creditReceived ((creditArrives_running h).trans (if_pos full))
    · refine gives_creditReceived ?_
      rw [creditArrives_ready h, creditArrives_running (running s l), held, if_neg below, nowRunning_modPort]
    · refine gives_creditReceived ?_
      rw [creditArrives_ready h, creditArrives_running (running s l), held, if_pos full]
      rfl
  case frame =>
    refine ⟨fun h right within => gives_frameReceived (frameArrives_taken h right within),
      fun h wrong => gives_frameReceived (frameArrives_fails h wrong), fun h right within => ?_, fun h wrong => ?_,
      fun h => gives_frameReceived (frameArrives_cut h)⟩
    · refine gives_frameReceived ?_
      rw [frameArrives_ready h, frameArrives_taken (running s l) right (by rwa [granted]), nowRunning_modPort]
    · refine gives_frameReceived ?_
      rw [frameArrives_ready h, frameArrives_fails (running s l) (by rwa [granted])]
      rfl

/-! ### Hold Link (R152) -/

section
variable {s : State} {l : Link}

theorem holdLink_running (h : (s.port l).state = .running) : s.holdLink l = s.linkFails l .held := by
  rw [State.holdLink, h]

theorem holdLink_cuts (h : (s.port l).state = .ready ∨ (s.port l).state = .error) :
    s.holdLink l = s.modPort l (Port.cut .held) := by
  obtain h | h := h <;> rw [State.holdLink, h]

theorem holdLink_held (h : (s.port l).state = .held) : s.holdLink l = s := by
  rw [State.holdLink, h]

variable {k : Key} {named : Nat}

theorem takeHold_invalid (h : named ≠ k.origin.other.code) : s.takeHold k named = s.answerNow k 14 .invalid .none := if_neg h

theorem takeHold_named (h : named = k.origin.other.code) :
    s.takeHold k named = (s.holdLink k.origin.other).answerNow k 14 .ok .none := if_pos h

theorem takeRelease_invalid (h : named ≠ k.origin.other.code) : s.takeRelease k named = s.answerNow k 14 .invalid .none := if_neg h

theorem takeRelease_state (h : named = k.origin.other.code) (hs : (s.port k.origin.other).state ≠ .held) :
    s.takeRelease k named = s.answerNow k 14 .state .none := (if_pos h).trans (if_neg hs)

theorem takeRelease_held (h : named = k.origin.other.code) (hs : (s.port k.origin.other).state = .held) :
    s.takeRelease k named = (s.modPort k.origin.other Port.toReady).answerNow k 14 .ok .none := (if_pos h).trans (if_pos hs)

end

section
variable {s p X : State} {l : Link} {tag : Tag} {named : Nat}

theorem gives_hold (h : Takes s l tag (.hold named) p) (hX : p.takeHold (key l tag) named = X) :
    Gives (.holdLinkHold l tag named) s X := gives_takes rfl h hX

theorem gives_release (h : Takes s l tag (.release named) p) (hX : p.takeRelease (key l tag) named = X) :
    Gives (.holdLinkRelease l tag named) s X := gives_takes rfl h hX

end

/-- Settles O40: HOLD and RELEASE by the link named and its state. -/
theorem holdAndRelease : Obligations.HoldAndRelease := by
  intro s l tag named p
  have hold {x : State} (other : named = l.other.code) (hx : p.holdLink l.other = x) :
      p.takeHold (key l tag) named = x.answerNow (key l tag) 14 .ok .none := hx ▸ takeHold_named (k := key l tag) other
  refine ⟨fun h => ⟨fun other => gives_hold h (takeHold_invalid other), fun other => ⟨fun hs => ?_, fun hs => ?_, fun hs => ?_⟩⟩,
    fun h => ⟨fun other => gives_release h (takeRelease_invalid other), fun other => ⟨fun hs => ?_, fun hs => ?_⟩⟩⟩
  · exact gives_hold h (hold other (holdLink_running hs))
  · exact gives_hold h (hold other (holdLink_cuts hs))
  · exact gives_hold h (hold other (holdLink_held hs))
  · exact gives_release h (takeRelease_state other hs)
  · exact gives_release h (takeRelease_held other hs)

/-! ### Units sent (R149, R150, R160, R164, R167) -/

/-- The frame at the head of a transmit queue gone from it with its credit. -/
def State.headSent (s : State) (l : Link) (rest : List OutFrame) : State :=
  s.modPort l fun x => { x with txq := rest, creditsHeld := x.creditsHeld - 1, sending := none }

section
variable {s : State} {l : Link} {f : OutFrame}

theorem frameGone_sent {rest : List OutFrame} (hs : (s.port l).sending = some .frame) (hq : (s.port l).txq = f :: rest) :
    s.frameGone l = (s.headSent l rest).frameReleases l f := by
  simp only [State.frameGone, hs, hq]
  rfl

theorem frameGone_none (h : (s.port l).sending ≠ some .frame) : s.frameGone l = s := by
  unfold State.frameGone
  split
  · next sending _ => exact absurd sending h
  · rfl

theorem frameReleases_slot (h : f.holds = .slotAndTag ∨ f.holds = .slot) : s.frameReleases l f = s.freeSlot l := by
  obtain h | h := h <;> rw [State.frameReleases, h]

theorem frameReleases_entry (h : f.holds = .entry) : s.frameReleases l f = s.dropEntry ⟨f.origin, f.tag⟩ := by
  rw [State.frameReleases, h]

theorem frameReleases_same (h : f.holds = .resetTag ∨ f.holds = .nothing) : s.frameReleases l f = s := by
  obtain h | h := h <;> rw [State.frameReleases, h]

theorem headSent_dropEntry (s : State) (l : Link) (rest : List OutFrame) (k : Key) :
    (s.headSent l rest).dropEntry k = { s.headSent l rest with table := s.table.filter fun e => !e.has k } := by
  rw [State.dropEntry, State.headSent, State.modPort_table]

theorem modPort_same {g : Port → Port} (h : g (s.port l) = s.port l) : s.modPort l g = s := by
  rw [State.modPort, h]
  exact modPort_id s l

/-- A notice's end acts on its port by what the port is sending. -/
theorem modPort_noticeGone {g : Port → Port} (h : (s.port l).noticeGone = g (s.port l)) :
    s.modPort l Port.noticeGone = s.modPort l g := by
  rw [State.modPort, State.modPort, h]

variable {X : State}

theorem gives_frameSent (h : s.frameGone l = X) : Gives (.frameSent l) s X := gives_of_finish (h ▸ rfl)

theorem gives_noticeSent (h : s.modPort l Port.noticeGone = X) : Gives (.noticeSent l) s X := gives_of_finish (h ▸ rfl)

end

/-- Settles O43: a frame by what it holds, a notice by what the port says it is sending. -/
theorem unitsSent : Obligations.UnitsSent := by
  refine ⟨fun s l => ⟨fun f rest hs hq => ?frame, fun h => gives_frameSent (frameGone_none h)⟩,
    fun s l => ⟨fun k hs => ?notice, fun hs => ?cleared, fun hs => ?none⟩⟩
  case frame =>
    have sent := frameGone_sent hs hq
    refine ⟨fun hf => ?_, fun hf => ?_, fun hf => ?_⟩
    · exact gives_frameSent (sent.trans (frameReleases_slot hf))
    · exact gives_frameSent (sent.trans ((frameReleases_entry hf).trans (headSent_dropEntry s l rest _)))
    · exact gives_frameSent (sent.trans (frameReleases_same hf))
  case notice => exact gives_noticeSent (modPort_noticeGone (by rw [Port.noticeGone, hs]))
  case cleared => exact gives_noticeSent (modPort_noticeGone (by rw [Port.noticeGone, hs]))
  case none =>
    refine gives_noticeSent (modPort_same ?_)
    obtain hs | hs := hs <;> rw [Port.noticeGone, hs]

end Sys2Proof.Machine

namespace Sys2Proof.Machine

/-! PROOFS. What a level 2 reset and the answers of a step leave of a link on which no response is owed, and of the staged records and
the write orders in flight (R153; used for O41 and O44). -/

/-! ### A link on which nothing is owed (R153, R156) -/

theorem modPort_apart {m l : Link} (h : m ≠ l) (s : State) (f : Port → Port) : (s.modPort m f).port l = s.port l := by
  cases m <;> cases l
  case a.a | b.b => exact absurd rfl h
  all_goals rfl

theorem eq_other_of_ne {m l : Link} (h : m ≠ l) : m = l.other := by
  cases m <;> cases l
  case a.a | b.b => exact absurd rfl h
  all_goals rfl

theorem other_ne (l : Link) : l.other ≠ l := by cases l <;> decide

/-- Every entry that replies on the link is discarded. -/
def State.owesNone (s : State) (l : Link) : Prop := ∀ e ∈ s.table, e.reply = l → e.discarded = true

theorem Continued.owesNone {s t : State} {l : Link} (h : Continued s t) (hs : s.owesNone l) : t.owesNone l := fun e he hr => by
  obtain ⟨x, hx, continues⟩ := h.entries e he
  exact continues.discarded (hs x hx (continues.reply.trans hr))

theorem discardOwed_owesNone (s : State) (l : Link) : (s.discardOwed l).owesNone l := fun e he hr => by
  obtain ⟨x, _, rfl, _⟩ := mem_discardOwed he
  rw [discard_reply] at hr
  rw [ReqEntry.discard, if_pos hr]

/-- An answer is no frame of such a link. -/
theorem answerEntry_port_unowed {s : State} {l : Link} (h : s.owesNone l) (k : Key) (x : Status) (r : Result) :
    (s.answerEntry k x r).port l = s.port l := by
  unfold State.answerEntry
  split
  · rfl
  · next e he =>
    split
    · rfl
    · split
      · exact State.port_congr rfl rfl l
      · next kept =>
        have apart : e.reply ≠ l := fun hr => kept (h e (entry_mem he) hr)
        rw [State.pushFrame, modPort_apart apart, modEntry_port]

/-- Every pending notice is still pending, with its detail. -/
def NoticesStay (ps qs : List PendingNotice) : Prop := ∀ n ∈ ps, ∃ m ∈ qs, m.kind = n.kind ∧ m.detail = n.detail

theorem NoticesStay.refl (ps : List PendingNotice) : NoticesStay ps ps := fun n hn => ⟨n, hn, rfl, rfl⟩

theorem NoticesStay.trans {ps qs rs : List PendingNotice} (h : NoticesStay ps qs) (g : NoticesStay qs rs) : NoticesStay ps rs := by
  intro n hn
  obtain ⟨m, hm, kind, detail⟩ := h n hn
  obtain ⟨o, ho, kind', detail'⟩ := g m hm
  exact ⟨o, ho, kind'.trans kind, detail'.trans detail⟩

/-- A raise of a kind already pending keeps the detail of its first (R167). -/
theorem noticesStay_raiseIn (k : Notice) (d : Nat) (ps : List PendingNotice) : NoticesStay ps (raiseIn k d ps) := by
  induction ps with
  | nil => exact fun _ => nofun
  | cons n rest ih =>
    have tail {m : PendingNotice} (hm : m.kind = n.kind ∧ m.detail = n.detail) {rest' : List PendingNotice}
        (h : NoticesStay rest rest') : NoticesStay (n :: rest) (m :: rest') := by
      intro x hx
      obtain rfl | hx := List.mem_cons.mp hx
      · exact ⟨m, List.mem_cons_self, hm⟩
      · obtain ⟨y, hy, same⟩ := h x hx
        exact ⟨y, List.mem_cons_of_mem m hy, same⟩
    rw [raiseIn]
    split
    · exact tail (m := { n with repeated := true }) ⟨rfl, rfl⟩ (.refl rest)
    · split
      · exact fun x hx => ⟨x, List.mem_cons_of_mem _ hx, rfl, rfl⟩
      · exact tail ⟨rfl, rfl⟩ ih

/-- t continues the entries of s, and where s owes nothing on the link, t has its port as s has it, but for notices raised. -/
structure Unaddressed (l : Link) (s t : State) : Prop where
  continued : Continued s t
  port : s.owesNone l → ∃ ns, t.port l = { s.port l with pending := ns } ∧ NoticesStay (s.port l).pending ns

namespace Unaddressed
variable {l : Link} {s t u : State}

theorem of_port (hc : Continued s t) (hp : s.owesNone l → t.port l = s.port l) : Unaddressed l s t :=
  ⟨hc, fun h => ⟨_, hp h, .refl _⟩⟩

/-- A change of neither the table nor the ports. -/
theorem of_same (ht : t.table = s.table := by rfl) (ha : t.portA = s.portA := by rfl) (hb : t.portB = s.portB := by rfl) :
    Unaddressed l s t := of_port (.of_same ht) fun _ => State.port_congr ha hb l

theorem refl (l : Link) (s : State) : Unaddressed l s s := of_same

theorem trans (h : Unaddressed l s t) (g : Unaddressed l t u) : Unaddressed l s u where
  continued := h.continued.trans g.continued
  port := fun hs => by
    obtain ⟨ns, port, stay⟩ := h.port hs
    obtain ⟨ms, port', stay'⟩ := g.port (h.continued.owesNone hs)
    rw [port] at port' stay'
    exact ⟨ms, port', stay.trans stay'⟩

theorem foldl {α : Type} {f : State → α → State} (h : ∀ s a, Unaddressed l s (f s a)) (xs : List α) (s : State) :
    Unaddressed l s (xs.foldl f s) := by
  induction xs generalizing s with
  | nil => exact refl l s
  | cons a xs ih => exact (h s a).trans (ih (f s a))

/-- The same of a fold that carries something beside the state. -/
theorem foldl_fst {α β : Type} {f : State × β → α → State × β} (h : ∀ x a, Unaddressed l x.1 (f x a).1) (xs : List α)
    (x : State × β) : Unaddressed l x.1 (xs.foldl f x).1 := by
  induction xs generalizing x with
  | nil => exact refl l x.1
  | cons a xs ih => exact (h x a).trans (ih (f x a))

theorem ite {c : Prop} [Decidable c] (ht : Unaddressed l s t) (hu : Unaddressed l s u) : Unaddressed l s (if c then t else u) := by
  split
  · exact ht
  · exact hu

/-- A further change where a condition holds. -/
theorem thenIf {c : Prop} [Decidable c] (ht : Unaddressed l s t) (hu : Unaddressed l t u) :
    Unaddressed l s (if c then u else t) := .ite (ht.trans hu) ht

end Unaddressed

section
variable (l : Link)

theorem unaddressed_raiseBoth (s : State) (k : Notice) (d : Nat) : Unaddressed l s (s.raiseBoth k d) :=
  ⟨.of_same, fun _ => ⟨_, raiseBoth_port s k d l, noticesStay_raiseIn k d _⟩⟩

theorem unaddressed_answerEntry (s : State) (k : Key) (x : Status) (r : Result) : Unaddressed l s (s.answerEntry k x r) :=
  .of_port (continued_answerEntry s k x r) fun h => answerEntry_port_unowed h k x r

theorem unaddressed_answerAll (s : State) (ks : List Key) (x : Status) : Unaddressed l s (s.answerAll ks x) :=
  .foldl (fun s k => unaddressed_answerEntry l s k x .none) ks s

theorem unaddressed_endRun (s : State) (x : Status) : Unaddressed l s (s.endRun x) := by
  have idle : Unaddressed l s { s with engine := { Engine.reset with deferred := s.engine.deferred } } := .of_same
  cases hc : s.engine.clean with
  | none => exact endRun_of_none hc x ▸ idle
  | some k => exact endRun_of_some hc x ▸ idle.trans (unaddressed_answerEntry l _ _ _ _)

theorem unaddressed_releaseEmptied (s : State) : Unaddressed l s s.releaseEmptied := by
  have victim : ∀ t : State, Unaddressed l t t.victimReleased := fun t =>
    (.of_same : Unaddressed l t { t with engine := { t.engine with deferred := none } }).trans
      (.ite (unaddressed_endRun l _ _) (.ite .of_same (unaddressed_endRun l _ _)))
  have released : ∀ (t : State) b, Unaddressed l t (t.releaseBand b) := fun t b =>
    .thenIf ((.of_same : Unaddressed l t (t.modBand b Band.released)).trans (unaddressed_raiseBoth l _ _ _)) (victim _)
  refine .foldl (fun t x => ?_) _ s
  exact released t x.2

/-! ### Such a link through a reset (R172) -/

theorem unaddressed_convertRecord (acc : State × Nat) (r : Fragment) : Unaddressed l acc.1 (convertRecord acc r).1 := by
  have measured : ∀ (t : State) x y, Unaddressed l t (t.noteHeadroom x y) := fun t x y =>
    .ite (unaddressed_raiseBoth l t _ _) (.refl l t)
  have lost : ∀ (t : State) xs, Unaddressed l t (t.raiseLost xs) := fun t xs => by
    unfold State.raiseLost
    split
    · exact .refl l t
    · exact unaddressed_raiseBoth l t _ _
  exact ((.of_same : Unaddressed l acc.1 (acc.1.setMap _)).trans (measured _ _ _)).trans (lost _ _)

theorem unaddressed_resetPuts (s : State) : Unaddressed l s s.resetPuts := by
  have converted : Unaddressed l s s.convertRecords := .foldl_fst (unaddressed_convertRecord l) _ (s, 0)
  have settled : ∀ (t : State) (e : ReqEntry), e.Continues (t.settleEntry e) := fun t e => by
    unfold State.settleEntry
    split
    · exact .refl e
    · exact ReqEntry.Continues.modPut e _
  have mapped : ∀ t : State, Unaddressed l t { t with table := t.table.map t.settleEntry } := fun t =>
    .of_port (.mapTable (settled t) rfl) fun _ => State.port_congr rfl rfl l
  exact (converted.trans (unaddressed_releaseEmptied l _)).trans (mapped _)

theorem unaddressed_resetQueues (s : State) : Unaddressed l s s.resetQueues := by
  have abandoned : ∀ t : State, Unaddressed l t
      { (State.endRun { t with window := t.window.map Order.staleRead } .aborted) with engine := Engine.reset } := fun t =>
    ((.of_same : Unaddressed l t { t with window := t.window.map Order.staleRead }).trans
      (unaddressed_endRun l _ .aborted)).trans .of_same
  have engine : ∀ t : State, Unaddressed l t t.resetEngine := fun t => by
    unfold State.resetEngine
    dsimp only
    split
    · exact abandoned t
    · next b _ => exact (.of_same : Unaddressed l t (t.modBand b Band.uncleaned)).trans (abandoned _)
  have emptied : Unaddressed l s (((s.mapQueues fun _ q => q.emptied).mapWrites WriteOrder.orphan).mapBands Band.shut) :=
    .of_same (by simp) (by simp) (by simp)
  exact emptied.trans (engine _)

theorem unaddressed_acknowledge (s : State) (k : Key) : Unaddressed l s (s.acknowledge k) :=
  .of_same (by simp [State.acknowledge]) (by simp [State.acknowledge]) (by simp [State.acknowledge])

theorem unaddressed_answerPut (s : State) (k : Key) (p : PutInfo) : Unaddressed l s (s.answerPut k p) :=
  (Unaddressed.thenIf (.refl l s) (unaddressed_acknowledge l s k)).trans (unaddressed_answerEntry l _ _ _ _)

theorem unaddressed_answerPuts (s : State) : Unaddressed l s s.answerPuts := by
  refine .foldl (fun s e => ?_) _ s
  unfold State.answerPutEntry
  split
  · exact .thenIf (.refl l s) (unaddressed_answerPut l s _ _)
  · exact .refl l s

theorem unaddressed_resetAnswers (flushes : List Key) (s : State) : Unaddressed l s (s.resetAnswers flushes) := by
  have cancelled : ∀ (t : State) i, Unaddressed l t (t.cancelSlot i) := fun t i =>
    .of_port (.of_same (cancelSlot_table t i)) fun _ => cancelSlot_port t i l
  have aborted : ∀ (t : State) i, Unaddressed l t (t.abortSlot i) := fun t i =>
    .ite ((unaddressed_answerEntry l t _ _ _).trans (cancelled _ i)) (.refl l t)
  exact (Unaddressed.foldl aborted allQueues s).trans
    (((unaddressed_answerAll l _ _ _).trans (unaddressed_answerAll l _ _ _)).trans (unaddressed_answerPuts l _))

theorem unaddressed_levelTwo (s : State) : Unaddressed l s (s.performReset false) := by
  have worked : Unaddressed l s s.resetWork :=
    ((unaddressed_resetPuts l s).trans (unaddressed_resetQueues l _)).trans (unaddressed_resetAnswers l _ _)
  have counted : ∀ (t : State) n, Unaddressed l t { t with resetWaits := n } := fun _ _ => .of_same
  rw [performReset_eq, if_neg Bool.false_ne_true]
  exact worked.trans (counted _ _)

end

/-! ### The staged records and the write orders through a reset (R85, R172) -/

/-- No record is staged, and every write order in flight is orphaned. -/
structure StagingCleared (s : State) : Prop where
  records : ∀ q, (s.queue q).records = []
  orphaned : ∀ w ∈ s.writeOrders, w.orphaned = true

section
variable {s t : State}

theorem StagingCleared.of_orders (h : StagingCleared s) (hr : ∀ q, (t.queue q).records = (s.queue q).records)
    (hw : t.writeOrders = s.writeOrders) : StagingCleared t :=
  ⟨fun q => (hr q).trans (h.records q), fun w hm => h.orphaned w (hw ▸ hm)⟩

theorem StagingKept.cleared (h : StagingKept s t) (hs : StagingCleared s) : StagingCleared t :=
  hs.of_orders h.records h.writeOrders

theorem stagingKept_answerAll (s : State) (ks : List Key) (x : Status) : StagingKept s (s.answerAll ks x) :=
  .foldl (fun s k => stagingKept_answerEntry s k x .none) ks s

theorem stagingKept_cancelSlot (s : State) (i : Fin 16) : StagingKept s (s.cancelSlot i) := by
  obtain ⟨_, _, _, _, only⟩ := cancelSlot_only s i
  rw [only]
  exact .of_same rfl rfl rfl

theorem stagingKept_abortSlot (s : State) (i : Fin 16) : StagingKept s (s.abortSlot i) :=
  .ite ((stagingKept_answerEntry s _ _ _).trans (stagingKept_cancelSlot _ i)) (.refl s)

theorem StagingCleared.acknowledge (h : StagingCleared s) (k : Key) : StagingCleared (s.acknowledge k) where
  records := fun q => by rw [acknowledge_records, h.records, List.map_nil]
  orphaned := fun w hw => by
    rw [State.acknowledge, writeOrders_mapWrites, writeOrders_congr (State.mapQueues_window s _)] at hw
    obtain ⟨v, hv, rfl⟩ := List.mem_map.mp hw
    exact h.orphaned v hv

theorem StagingCleared.answerPutEntry (h : StagingCleared s) (e : ReqEntry) : StagingCleared (s.answerPutEntry e) := by
  obtain same | ⟨t, x, r, ht, answered⟩ := answerPutEntry_cases s e
  · rwa [same]
  · rw [answered]
    refine (stagingKept_answerEntry t _ _ _).cleared ?_
    obtain rfl | rfl := ht
    · exact h
    · exact h.acknowledge _

theorem StagingCleared.answerPuts (h : StagingCleared s) : StagingCleared s.answerPuts := by
  have turns : ∀ (l : List ReqEntry) {t : State}, StagingCleared t → StagingCleared (l.foldl State.answerPutEntry t) := by
    intro l
    induction l with
    | nil => exact id
    | cons e l ih => exact fun ht => ih (ht.answerPutEntry e)
  exact turns _ h

/-- A relocation read left over is no write order. -/
theorem writeOrders_staleReads (s : State) : State.writeOrders { s with window := s.window.map Order.staleRead } = s.writeOrders := by
  have writes : Order.write? ∘ Order.staleRead = Order.write? := funext fun o => by
    cases o with
    | read r => cases hr : r.owner <;> simp [Order.staleRead, hr, Order.write?]
    | _ => rfl
  rw [State.writeOrders, List.filterMap_map, writes, State.writeOrders]

theorem StagingCleared.resetEngine (h : StagingCleared s) : StagingCleared s.resetEngine := by
  have abandoned : ∀ t : State, StagingCleared t → StagingCleared
      { (State.endRun { t with window := t.window.map Order.staleRead } .aborted) with engine := Engine.reset } := fun t ht => by
    have stale : StagingCleared { t with window := t.window.map Order.staleRead } :=
      ht.of_orders (fun _ => rfl) (writeOrders_staleReads t)
    exact ((stagingKept_endRun _ .aborted).cleared stale).of_orders (fun _ => rfl) rfl
  unfold State.resetEngine
  dsimp only
  split
  · exact abandoned s h
  · exact abandoned _ (h.of_orders (fun _ => rfl) rfl)

theorem resetQueues_clears (s : State) : StagingCleared s.resetQueues := by
  have emptied : StagingCleared ((s.mapQueues fun _ q => q.emptied).mapWrites WriteOrder.orphan) := by
    refine ⟨fun q => ?_, fun w hw => ?_⟩
    · rw [State.queue_congr (State.mapWrites_queues _ _), State.mapQueues_queue, Queue.emptied]
    · rw [writeOrders_mapWrites] at hw
      obtain ⟨v, _, rfl⟩ := List.mem_map.mp hw
      rfl
  have shut : ∀ {t : State}, StagingCleared t → StagingCleared (t.mapBands Band.shut) := fun ht => ht.of_orders (fun _ => rfl) rfl
  exact (shut emptied).resetEngine

theorem levelTwo_clears (s : State) : StagingCleared (s.performReset false) := by
  have answers : ∀ (flushes : List Key) {t : State}, StagingCleared t → StagingCleared (t.resetAnswers flushes) := fun flushes t ht =>
    StagingCleared.answerPuts (((StagingKept.foldl stagingKept_abortSlot allQueues t).trans
      ((stagingKept_answerAll _ _ _).trans (stagingKept_answerAll _ _ _))).cleared ht)
  have counted : ∀ {t : State}, StagingCleared t → ∀ n, StagingCleared { t with resetWaits := n } := fun ht _ =>
    ht.of_orders (fun _ => rfl) rfl
  have worked : StagingCleared s.resetWork := answers _ (resetQueues_clears s.resetPuts)
  rw [performReset_eq, if_neg Bool.false_ne_true]
  exact counted worked _

end

end Sys2Proof.Machine

namespace Sys2Proof.Machine

/-! PROOFS. The Puts of a failed link that are abandoned, and what they are answered on a survivor (R155, R156; used for O44). -/

/-! ### Puts still filling (R51) -/

/-- A record that waits for data frames of a request. -/
def Fragment.fillsFor (r : Fragment) (k : Key) : Bool := r.origin == some k && r.filling != 0

/-- A Put abandoned with so many filling records gone (R156). -/
def PutInfo.abandon (n : Nat) (p : PutInfo) : PutInfo :=
  { p with settling := true, pieces := p.pieces - n, outcome := p.outcome.record .aborted }

/-- The entry of a Put abandoned in s. -/
def ReqEntry.abandon (s : State) (e : ReqEntry) : ReqEntry :=
  { e with info := e.info.modPut (PutInfo.abandon (s.fillingRecords e.key)) }

theorem stillFills_iff {l : Link} {e : ReqEntry} : e.stillFills l = true ↔
    e.key.origin = l ∧ e.answered = false ∧ ∃ put, e.info = .put put ∧ put.next < put.count ∧ put.settling = false := by
  unfold ReqEntry.stillFills
  split
  · next put h => simp [h, and_assoc]
  · next other => exact iff_of_false (by simp) fun ⟨_, _, put, info, _⟩ => other put info

theorem fillingPuts_eq (s : State) (l : Link) : s.fillingPuts l = (s.table.filter (ReqEntry.stillFills l)).map (·.key) := by
  unfold State.fillingPuts
  refine congrArg (List.map ReqEntry.key) (List.filter_congr fun e _ => ?_)
  cases h : e.info <;> simp [ReqEntry.stillFills, h, PutInfo.filling]

theorem mem_fillingPuts {s : State} {l : Link} {e : ReqEntry} (he : e ∈ s.table) (h : e.stillFills l = true) :
    e.key ∈ s.fillingPuts l := by
  rw [fillingPuts_eq]
  exact List.mem_map_of_mem (List.mem_filter.mpr ⟨he, h⟩)

/-- Distinct keys: the Puts still filling are those of the entries that say so. -/
theorem not_mem_fillingPuts {s : State} {l : Link} {e : ReqEntry} (hn : (s.table.map (·.key)).Nodup) (he : e ∈ s.table)
    (h : e.stillFills l = false) : e.key ∉ s.fillingPuts l := by
  rw [fillingPuts_eq]
  intro hk
  obtain ⟨x, hx, key⟩ := List.mem_map.mp hk
  obtain ⟨mem, fills⟩ := List.mem_filter.mp hx
  obtain rfl : x = e := List.inj_on_of_nodup_map hn mem he key
  simp [fills] at h

theorem any_fillingPuts (s : State) (l : Link) (r : Fragment) : (s.fillingPuts l).any r.fillsFor =
    (r.filling != 0 && s.table.any fun e => e.stillFills l && r.origin == some e.key) := by
  rw [fillingPuts_eq, List.any_map, List.any_filter, Bool.and_comm]
  induction s.table with
  | nil => rfl
  | cons e es ih =>
    rw [List.any_cons, List.any_cons, ih, Bool.and_or_distrib_right, Function.comp_apply, Fragment.fillsFor, Bool.and_assoc]

theorem fillingRecords_eq (s : State) (k : Key) :
    s.fillingRecords k = (hostQueues.flatMap fun q => (s.queue q).records).countP fun r => r.fillsFor k := rfl

theorem fillingRecords_congr {s t : State} (h : t.queues = s.queues) (k : Key) : t.fillingRecords k = s.fillingRecords k := by
  rw [fillingRecords_eq, fillingRecords_eq, funext fun q => congrArg Queue.records (State.queue_congr h q)]

/-! ### A Put abandoned (R156) -/

theorem PutInfo.abandon_again (n : Nat) (p : PutInfo) : (p.abandon n).abandon 0 = p.abandon n := by
  have outcome : (p.outcome.record .aborted).record .aborted = p.outcome.record .aborted := by cases p.outcome <;> rfl
  rw [PutInfo.abandon, PutInfo.abandon, outcome]
  rfl

/-- The filling records of a Put leave their queues. -/
def State.dropFilling (s : State) (k : Key) : State :=
  s.mapQueues fun _ x => { x with records := x.records.filter fun r => !r.fillsFor k }

section
variable (s : State) (k : Key)

theorem abandonPut_eq : s.abandonPut k = (s.dropFilling k).modPut k (PutInfo.abandon (s.fillingRecords k)) := rfl

theorem abandonPut_only : ∃ tb qs, s.abandonPut k = { s with table := tb, queues := qs } := by
  have changed : ∀ (t : State) f, ∃ tb, t.modPut k f = { t with table := tb } := fun _ _ => ⟨_, rfl⟩
  have dropped : ∃ qs, s.dropFilling k = { s with queues := qs } := ⟨_, rfl⟩
  obtain ⟨_, changed⟩ := changed (s.dropFilling k) (PutInfo.abandon (s.fillingRecords k))
  obtain ⟨_, dropped⟩ := dropped
  rw [abandonPut_eq, changed, dropped]
  exact ⟨_, _, rfl⟩

theorem abandonPut_records (q : Fin 16) :
    ((s.abandonPut k).queue q).records = (s.queue q).records.filter fun r => !r.fillsFor k := by
  rw [abandonPut_eq, State.queue_congr (State.modPut_queues _ _ _), State.dropFilling, State.mapQueues_queue]

theorem abandonPut_table : (s.abandonPut k).table = s.table.map fun e => if e.key = k then e.abandon s else e := by
  have marked : ∀ (t : State) f, (t.modPut k f).table =
      t.table.map fun e => if e.has k then { e with info := e.info.modPut f } else e := fun _ _ => rfl
  rw [abandonPut_eq, marked, State.dropFilling, State.mapQueues_table]
  refine List.map_congr_left fun e _ => ?_
  by_cases hk : e.key = k
  · subst hk
    simp [ReqEntry.has, ReqEntry.abandon]
  · simp [ReqEntry.has, hk]

/-- No filling record of an abandoned Put is left, and those of the others are. -/
theorem abandonPut_fillingRecords (x : Key) :
    (s.abandonPut k).fillingRecords x = if x = k then 0 else s.fillingRecords x := by
  rw [fillingRecords_eq, funext fun q => abandonPut_records s k q, ← List.filter_flatMap, List.countP_filter, fillingRecords_eq]
  split
  · next hx =>
    rw [List.countP_eq_zero]
    intro r _
    simp [hx]
  · next hx =>
    refine List.countP_congr fun r _ => ?_
    have apart : r.fillsFor x = true → r.fillsFor k = false := fun h => by
      simp only [Fragment.fillsFor, Bool.and_eq_true, beq_iff_eq] at h
      simp [Fragment.fillsFor, h.1, hx]
    simpa using apart

end

/-- Puts abandoned one after another change the table and the queues alone. -/
theorem abandons_only (ks : List Key) (s : State) :
    ∃ tb qs, ks.foldl State.abandonPut s = { s with table := tb, queues := qs } := by
  induction ks generalizing s with
  | nil => exact ⟨_, _, rfl⟩
  | cons k ks ih =>
    obtain ⟨_, _, first⟩ := abandonPut_only s k
    obtain ⟨_, _, rest⟩ := ih (s.abandonPut k)
    rw [List.foldl_cons, rest, first]
    exact ⟨_, _, rfl⟩

theorem abandons_records (ks : List Key) (s : State) (q : Fin 16) :
    ((ks.foldl State.abandonPut s).queue q).records = (s.queue q).records.filter fun r => !ks.any r.fillsFor := by
  induction ks generalizing s with
  | nil => simp
  | cons k ks ih =>
    rw [List.foldl_cons, ih, abandonPut_records, List.filter_filter]
    refine List.filter_congr fun r _ => ?_
    rw [List.any_cons, Bool.not_or, Bool.and_comm]

theorem abandons_table (ks : List Key) (s : State) :
    (ks.foldl State.abandonPut s).table = s.table.map fun e => if e.key ∈ ks then e.abandon s else e := by
  induction ks generalizing s with
  | nil => simp
  | cons k ks ih =>
    rw [List.foldl_cons, ih, abandonPut_table, List.map_map]
    refine List.map_congr_left fun e _ => ?_
    by_cases hk : e.key = k
    · have again : (e.abandon s).abandon (s.abandonPut k) = e.abandon s := by
        have gone : (s.abandonPut k).fillingRecords e.key = 0 := by rw [abandonPut_fillingRecords, if_pos hk]
        cases hi : e.info <;> simp [ReqEntry.abandon, hi, EntryInfo.modPut, gone, PutInfo.abandon_again]
      have key : (e.abandon s).key = k := hk
      simp [hk, key, again]
    · have other : e.abandon (s.abandonPut k) = e.abandon s := by
        rw [ReqEntry.abandon, abandonPut_fillingRecords, if_neg hk, ReqEntry.abandon]
      simp [hk, other]

section
variable (s : State) (l : Link)

theorem abandonPuts_records (q : Fin 16) : ((s.abandonPuts l).queue q).records =
    (s.queue q).records.filter fun r => !(s.fillingPuts l).any r.fillsFor := abandons_records _ s q

theorem abandonPuts_port (m : Link) : (s.abandonPuts l).port m = s.port m := by
  obtain ⟨_, _, only⟩ := abandons_only (s.fillingPuts l) s
  rw [State.abandonPuts, only]
  exact State.port_congr rfl rfl m

theorem entry_mapTable {s t : State} {f : ReqEntry → ReqEntry} (hf : ∀ e, (f e).key = e.key) (ht : t.table = s.table.map f)
    (k : Key) : t.entry k = (s.entry k).map f := by
  have keys : (fun e : ReqEntry => e.has k) ∘ f = fun e => e.has k := funext fun e => by simp [ReqEntry.has, hf]
  rw [State.entry, ht, List.find?_map, keys, State.entry]

theorem abandonPuts_entry (k : Key) :
    (s.abandonPuts l).entry k = (s.entry k).map fun e => if e.key ∈ s.fillingPuts l then e.abandon s else e :=
  entry_mapTable (fun e => by split <;> rfl) (abandons_table _ s) k

end

/-! ### The answers of the Puts abandoned (R155) -/

/-- Every Put in the table under a key takes no more data. -/
def State.settled (s : State) (k : Key) : Prop := ∀ e ∈ s.table, e.key = k → ∀ p, e.info = .put p → p.settling = true

theorem abandonPuts_settled {s : State} {l : Link} {k : Key} (h : k ∈ s.fillingPuts l) : (s.abandonPuts l).settled k := by
  intro e he hk p hp
  rw [State.abandonPuts, abandons_table] at he
  obtain ⟨x, _, rfl⟩ := List.mem_map.mp he
  have key : x.key = k := by
    split at hk <;> exact hk
  rw [if_pos (key ▸ h)] at hp
  cases hx : x.info with
  | put put =>
    rw [ReqEntry.abandon, hx] at hp
    cases hp
    rfl
  | _ =>
    rw [ReqEntry.abandon, hx] at hp
    cases hp

section
variable {s : State} {k : Key}

/-- An answer changes neither key nor kind of an entry, nor what it holds. -/
theorem answerEntry_infos {x : Status} {r : Result} {e : ReqEntry} (he : e ∈ (s.answerEntry k x r).table) :
    ∃ y ∈ s.table, y.key = e.key ∧ y.info = e.info := by
  unfold State.answerEntry at he
  split at he
  · exact ⟨e, he, rfl, rfl⟩
  · split at he
    · exact ⟨e, he, rfl, rfl⟩
    · split at he
      · exact ⟨e, List.mem_of_mem_filter he, rfl, rfl⟩
      · rw [State.pushFrame_table] at he
        obtain ⟨y, hy, rfl⟩ := List.mem_map.mp he
        exact ⟨y, hy, by split <;> exact ⟨rfl, rfl⟩⟩

/-- The answer of a Put that takes no more data acknowledges nothing. -/
theorem answerAbandoned_settled (h : s.settled k) :
    s.answerAbandoned k = s ∨ ∃ x r, s.answerAbandoned k = s.answerEntry k x r := by
  cases hp : s.putInfo k with
  | none => exact .inl (by rw [State.answerAbandoned, hp])
  | some p =>
    obtain ⟨e, he⟩ : ∃ e, s.entry k = some e := by
      cases he : s.entry k with
      | none => simp [State.putInfo, he] at hp
      | some e => exact ⟨e, rfl⟩
    rw [answerAbandoned_eq hp (h e (entry_mem he) (entry_key he) p (info_of_putInfo he hp))]
    split
    · exact .inr ⟨_, _, rfl⟩
    · exact .inl rfl

/-- Such answers change the table and the ports alone. -/
theorem answersAbandoned_only {ks : List Key} (h : ∀ k ∈ ks, s.settled k) :
    ∃ tb a b, ks.foldl State.answerAbandoned s = { s with table := tb, portA := a, portB := b } := by
  induction ks generalizing s with
  | nil => exact ⟨_, _, _, rfl⟩
  | cons k ks ih =>
    obtain same | ⟨x, r, answered⟩ := answerAbandoned_settled (h k List.mem_cons_self)
    · rw [List.foldl_cons, same]
      exact ih fun j hj => h j (List.mem_cons_of_mem k hj)
    · have settled : ∀ j ∈ ks, (s.answerEntry k x r).settled j := fun j hj e he hk p hp => by
        obtain ⟨y, hy, key, info⟩ := answerEntry_infos he
        exact h j (List.mem_cons_of_mem k hj) y hy (key.trans hk) p (info.trans hp)
      obtain ⟨_, _, _, rest⟩ := ih settled
      obtain ⟨_, _, _, first⟩ := answerEntry_only s k x r
      rw [List.foldl_cons, answered, rest, first]
      exact ⟨_, _, _, rfl⟩

/-- The answer of a Put acknowledges it or not, and answers its entry. -/
theorem answerPut_cases (s : State) (k : Key) (p : PutInfo) :
    ∃ t : State, t.table = s.table ∧ (∀ m, t.port m = s.port m) ∧ s.answerPut k p = t.answerEntry k p.outcome.status p.result := by
  refine ⟨if !p.durable && !p.settling then s.acknowledge k else s, ?_, fun m => ?_, rfl⟩
  · split <;> simp [State.acknowledge]
  · split
    · exact State.port_congr (by simp [State.acknowledge]) (by simp [State.acknowledge]) m
    · rfl

/-- Its turn leaves the state, or answers it. -/
theorem answerAbandoned_cases (s : State) (k : Key) : s.answerAbandoned k = s ∨
    ∃ (t : State) (x : Status) (r : Result), t.table = s.table ∧ (∀ m, t.port m = s.port m) ∧
      s.answerAbandoned k = t.answerEntry k x r := by
  unfold State.answerAbandoned
  split
  · next p _ =>
    split
    · obtain ⟨t, table, port, answered⟩ := answerPut_cases s k p
      exact .inr ⟨t, _, _, table, port, answered⟩
    · exact .inl rfl
  · exact .inl rfl

theorem continued_answerAbandoned (s : State) (k : Key) : Continued s (s.answerAbandoned k) := by
  obtain same | ⟨t, x, r, table, _, answered⟩ := answerAbandoned_cases s k
  · rw [same]
    exact .refl s
  · rw [answered]
    exact (Continued.of_same table).trans (continued_answerEntry t k x r)

theorem answersAbandoned_port {l : Link} (h : s.owesNone l) (ks : List Key) :
    (ks.foldl State.answerAbandoned s).port l = s.port l := by
  induction ks generalizing s with
  | nil => rfl
  | cons k ks ih =>
    refine (ih ((continued_answerAbandoned s k).owesNone h)).trans ?_
    obtain same | ⟨t, x, r, table, port, answered⟩ := answerAbandoned_cases s k
    · rw [same]
    · rw [answered, answerEntry_port_unowed (fun e he => h e (table ▸ he)), port]

/-- An answer leaves an entry in the table, but that of a request whose answer is discarded. -/
theorem answerEntry_keeps {j : Key} {e : ReqEntry} (he : s.entry j = some e) (h : j ≠ k ∨ e.discarded = false) (x : Status)
    (r : Result) : ∃ a, (s.answerEntry k x r).entry j = some { e with answered := a } := by
  by_cases hk : k = j
  · subst hk
    have kept : e.discarded = false := h.resolve_left (· rfl)
    cases ha : e.answered with
    | true =>
      have same : s.answerEntry k x r = s := by simp [State.answerEntry, he, ha]
      exact ⟨e.answered, same.symm ▸ he⟩
    | false =>
      refine ⟨true, ?_⟩
      rw [answerEntry_open he ha kept, pushFrame_entry, entry_modEntry (by exact fun _ => rfl), he]
      simp
  · exact ⟨e.answered, (spares_answerEntry hk s x r).entry.trans he⟩

theorem answersAbandoned_keep {j : Key} {e : ReqEntry} {ks : List Key} (he : s.entry j = some e)
    (h : j ∉ ks ∨ e.discarded = false) : ∃ a, (ks.foldl State.answerAbandoned s).entry j = some { e with answered := a } := by
  induction ks generalizing s e with
  | nil => exact ⟨e.answered, he⟩
  | cons k ks ih =>
    obtain ⟨a, ha⟩ : ∃ a, (s.answerAbandoned k).entry j = some { e with answered := a } := by
      obtain same | ⟨t, x, r, table, _, answered⟩ := answerAbandoned_cases s k
      · exact ⟨e.answered, same.symm ▸ he⟩
      · rw [answered]
        refine answerEntry_keeps ?_ (h.imp_left fun hj hk => hj (hk ▸ List.mem_cons_self)) x r
        rwa [State.entry, table]
    exact ih (e := { e with answered := a }) ha (h.imp_left fun hj hk => hj (List.mem_cons_of_mem k hk))

end

end Sys2Proof.Machine

namespace Sys2Proof.Machine

/-! PROOFS. What a link failure leaves under LINK scope, with a survivor and without one (R155, R156; used for O44). -/

/-! ### With a survivor (R155) -/

/-- The responses owed on a link are owed on the other. -/
def State.redirected (s : State) (l : Link) : State :=
  { s with table := s.table.map (ReqEntry.redirect l), resetRecord := s.resetRecord.map (ResetRecord.redirect l) }

/-- The Puts of a failed link abandoned, and those of them that wait for no piece answered on the survivor. -/
def State.putsMoved (s : State) (l : Link) : State :=
  (s.fillingPuts l).foldl State.answerAbandoned ((s.redirected l).abandonPuts l)

section
variable {s : State} {l : Link}

theorem redirect_key (l : Link) (e : ReqEntry) : (e.redirect l).key = e.key := by
  unfold ReqEntry.redirect
  split <;> rfl

theorem redirect_reply (l : Link) (e : ReqEntry) : (e.redirect l).reply = l.other := by
  unfold ReqEntry.redirect
  split
  · rfl
  · next h => exact eq_other_of_ne h

/-- Nothing else of an entry changes. -/
theorem redirect_only (l : Link) (e : ReqEntry) :
    e.redirect l = { e with reply := l.other, redirected := e.redirected || e.reply == l } := by
  unfold ReqEntry.redirect
  split
  · next h => simp [h]
  · next h =>
    obtain ⟨k, reply, redirected, discarded, answered, info⟩ := e
    obtain rfl : reply = l.other := eq_other_of_ne h
    simp [other_ne]

theorem redirect_stillFills (l : Link) (e : ReqEntry) : (e.redirect l).stillFills l = e.stillFills l := by
  rw [redirect_only]
  rfl

theorem redirected_fillingPuts (s : State) (l : Link) : (s.redirected l).fillingPuts l = s.fillingPuts l := by
  have fills : ReqEntry.stillFills l ∘ ReqEntry.redirect l = ReqEntry.stillFills l := funext (redirect_stillFills l)
  have keys : (fun e : ReqEntry => e.key) ∘ ReqEntry.redirect l = fun e => e.key := funext (redirect_key l)
  rw [fillingPuts_eq, State.redirected, List.filter_map, List.map_map, fills, keys, fillingPuts_eq]

theorem redirected_owesNone (s : State) (l : Link) : (s.redirected l).owesNone l := fun e he hr => by
  obtain ⟨x, _, rfl⟩ := List.mem_map.mp he
  rw [redirect_reply] at hr
  exact absurd hr (other_ne l)

theorem failPaired_eq (s : State) (l : Link) (st : LinkState) (frames : List OutFrame) : s.failPaired l st frames =
    ((s.putsMoved l).modPort l.other fun p => { p with txq := p.txq ++ frames.filterMap OutFrame.redirect }).raise l.other .peerLink
      (peerDetail st) := by
  rw [State.putsMoved, ← redirected_fillingPuts]
  rfl

theorem continued_putsMoved (s : State) (l : Link) : Continued (s.redirected l) (s.putsMoved l) :=
  (continued_abandonPuts _ l).trans (.foldl continued_answerAbandoned _ _)

/-- Behind the redirection, the queues change by the records abandoned, and else the table and the ports alone. -/
theorem putsMoved_only (s : State) (l : Link) :
    ∃ tb a b, s.putsMoved l = { (s.redirected l).abandonPuts l with table := tb, portA := a, portB := b } :=
  answersAbandoned_only fun _ hk => abandonPuts_settled ((redirected_fillingPuts s l).symm ▸ hk)

theorem failPaired_only (s : State) (l : Link) (st : LinkState) (frames : List OutFrame) : ∃ tb r a b,
    s.failPaired l st frames =
      { s with table := tb, resetRecord := r, queues := ((s.redirected l).abandonPuts l).queues, portA := a, portB := b } := by
  obtain ⟨_, _, _, moved⟩ := putsMoved_only s l
  obtain ⟨_, _, abandoned⟩ := abandons_only ((s.redirected l).fillingPuts l) (s.redirected l)
  rw [failPaired_eq, moved, State.abandonPuts, abandoned]
  cases l <;> exact ⟨_, _, _, _, rfl⟩

theorem failPaired_records (s : State) (l : Link) (st : LinkState) (frames : List OutFrame) (q : Fin 16) :
    ((s.failPaired l st frames).queue q).records =
      (s.queue q).records.filter fun r => !(s.fillingPuts l).any r.fillsFor := by
  obtain ⟨_, _, _, _, only⟩ := failPaired_only s l st frames
  have queues : (s.failPaired l st frames).queues = ((s.redirected l).abandonPuts l).queues := by rw [only]
  rw [State.queue_congr queues, abandonPuts_records, redirected_fillingPuts]
  rfl

theorem putsMoved_port (s : State) (l : Link) : (s.putsMoved l).port l = s.port l := by
  have owed : ((s.redirected l).abandonPuts l).owesNone l := (continued_abandonPuts _ l).owesNone (redirected_owesNone s l)
  rw [State.putsMoved, answersAbandoned_port owed, abandonPuts_port]
  exact State.port_congr rfl rfl l

/-- The failed link's port is left as it is. -/
theorem failPaired_port (s : State) (l : Link) (st : LinkState) (frames : List OutFrame) :
    (s.failPaired l st frames).port l = s.port l := by
  rw [failPaired_eq, State.raise, modPort_apart (other_ne l), modPort_apart (other_ne l), putsMoved_port]

theorem failPaired_table (s : State) (l : Link) (st : LinkState) (frames : List OutFrame) :
    (s.failPaired l st frames).table = (s.putsMoved l).table := by
  rw [failPaired_eq, State.raise_table, State.modPort_table]

theorem failPaired_entry (s : State) (l : Link) (st : LinkState) (frames : List OutFrame) (k : Key) :
    (s.failPaired l st frames).entry k = (s.putsMoved l).entry k := by
  rw [State.entry, failPaired_table, State.entry]

/-- Every response is owed on the survivor. -/
theorem failPaired_replies (st : LinkState) (frames : List OutFrame) {e : ReqEntry} (he : e ∈ (s.failPaired l st frames).table) :
    e.reply = l.other := by
  rw [failPaired_table] at he
  obtain ⟨x, hx, continues⟩ := (continued_putsMoved s l).entries e he
  obtain ⟨y, _, rfl⟩ := List.mem_map.mp hx
  exact continues.reply ▸ redirect_reply l y

theorem failPaired_raises (s : State) (l : Link) (st : LinkState) (frames : List OutFrame) :
    ∃ n ∈ ((s.failPaired l st frames).port l.other).pending, n.kind = .peerLink := by
  rw [failPaired_eq, State.raise, State.modPort_self]
  exact raiseIn_mem _ _ _

theorem redirected_entry (s : State) (l : Link) (k : Key) : (s.redirected l).entry k = (s.entry k).map (ReqEntry.redirect l) :=
  entry_mapTable (redirect_key l) rfl k

/-- An entry in the state in which the answers are given. -/
theorem redirected_abandonPuts_entry (s : State) (l : Link) (k : Key) : ((s.redirected l).abandonPuts l).entry k =
    (s.entry k).map fun e => if e.key ∈ s.fillingPuts l then (e.redirect l).abandon s else e.redirect l := by
  have records : ∀ e : ReqEntry, e.abandon (s.redirected l) = e.abandon s := fun _ => rfl
  rw [abandonPuts_entry, redirected_entry, Option.map_map, redirected_fillingPuts]
  congr 1
  funext e
  rw [Function.comp_apply, redirect_key, records]

/-- An entry that is not the discarded one of a Put abandoned is still there. -/
theorem putsMoved_keeps {e : ReqEntry} (fits : s.tableFits) (he : e ∈ s.table)
    (h : e.discarded = false ∨ e.stillFills l = false) : ∃ a, (s.putsMoved l).entry e.key =
      some { (if e.key ∈ s.fillingPuts l then (e.redirect l).abandon s else e.redirect l) with answered := a } := by
  refine answersAbandoned_keep ?_ (h.symm.imp (not_mem_fillingPuts fits.distinct he) fun kept => ?_)
  · rw [redirected_abandonPuts_entry, entry_of_mem fits.distinct he, Option.map_some]
  · rw [redirect_only]
    split <;> exact kept

theorem failPaired_redirects {e : ReqEntry} (fits : s.tableFits) (he : e ∈ s.table) (hr : e.reply = l)
    (h : e.discarded = false ∨ e.stillFills l = false) (st : LinkState) (frames : List OutFrame) :
    ∃ f ∈ (s.failPaired l st frames).table, f.key = e.key ∧ f.redirected = true := by
  obtain ⟨a, kept⟩ := putsMoved_keeps fits he h
  rw [← failPaired_entry s l st frames] at kept
  refine ⟨_, entry_mem kept, entry_key kept, ?_⟩
  rw [redirect_only]
  split <;> simp [ReqEntry.abandon, hr]

end

/-! ### The answers on the survivor (R155) -/

section
variable {s t : State} {l : Link} {e : ReqEntry}

theorem abandonedAnswer_filling (h : e.stillFills l = false) : s.abandonedAnswer l e = none := by
  unfold State.abandonedAnswer
  split
  · simp [h]
  · rfl

/-- The answer of an abandoned Put of a link on the survivor. -/
def ReqEntry.abandonFrame (l : Link) (e : ReqEntry) (put : PutInfo) : OutFrame :=
  { tag := e.key.tag, origin := l, redirected := e.redirected || e.reply == l, holds := .entry
    body := .response 1 (if put.outcome = .mediaError then .mediaError else .aborted)
      (.put (some put.sequence) put.queue.val put.almostFull) }

theorem abandonedAnswer_due {put : PutInfo} (hf : e.stillFills l = true) (hi : e.info = .put put) (hd : e.discarded = false)
    (hp : put.pieces ≤ s.fillingRecords e.key) : s.abandonedAnswer l e = some (e.abandonFrame l put) := by
  simp [State.abandonedAnswer, hi, hf, hd, hp, ReqEntry.abandonFrame]

/-- The turn of a Put abandoned, where its entry stands as the redirection and the abandonment left it. -/
theorem answerAbandoned_txq (hf : e.stillFills l = true) (he : t.entry e.key = some ((e.redirect l).abandon s)) :
    ((t.answerAbandoned e.key).port l.other).txq = (t.port l.other).txq ++ (s.abandonedAnswer l e).toList := by
  obtain ⟨origin, unanswered, put, info, _⟩ := stillFills_iff.mp hf
  have entry : (e.redirect l).abandon s = { e with
      reply := l.other, redirected := e.redirected || e.reply == l, info := .put (put.abandon (s.fillingRecords e.key)) } := by
    rw [redirect_only, ReqEntry.abandon, info]
    rfl
  rw [entry] at he
  have settled : (put.abandon (s.fillingRecords e.key)).settling = true := rfl
  have pieces : (put.abandon (s.fillingRecords e.key)).pieces = put.pieces - s.fillingRecords e.key := rfl
  have status : (put.abandon (s.fillingRecords e.key)).outcome.status =
      if put.outcome = .mediaError then .mediaError else .aborted := by
    cases ho : put.outcome <;> simp [PutInfo.abandon, Outcome.record, ho, Outcome.status]
  rw [answerAbandoned_eq (putInfo_of_entry he rfl unanswered) settled, pieces]
  by_cases waits : put.pieces ≤ s.fillingRecords e.key
  · rw [if_pos (Nat.sub_eq_zero_of_le waits)]
    cases discarded : e.discarded with
    | true =>
      have dropped : t.answerEntry e.key (put.abandon (s.fillingRecords e.key)).outcome.status
          (put.abandon (s.fillingRecords e.key)).result = t.dropEntry e.key := by
        simp [State.answerEntry, he, unanswered, discarded]
      have ports : (t.dropEntry e.key).port l.other = t.port l.other := State.port_congr rfl rfl _
      rw [dropped, ports]
      simp [State.abandonedAnswer, info, discarded]
    | false =>
      rw [answerEntry_open he unanswered discarded, State.pushFrame, State.modPort_self, modEntry_port,
        abandonedAnswer_due hf info discarded waits, status, origin]
      rfl
  · rw [if_neg (Nat.sub_ne_zero_of_lt (Nat.lt_of_not_le waits))]
    simp [State.abandonedAnswer, info, waits]

/-- The turns of the Puts abandoned, in the order of their entries. -/
theorem answersAbandoned_txq {es : List ReqEntry} (hn : (es.map (·.key)).Nodup) (hf : ∀ e ∈ es, e.stillFills l = true)
    (he : ∀ e ∈ es, t.entry e.key = some ((e.redirect l).abandon s)) :
    (((es.map (·.key)).foldl State.answerAbandoned t).port l.other).txq =
      (t.port l.other).txq ++ es.filterMap (s.abandonedAnswer l) := by
  induction es generalizing t with
  | nil => simp
  | cons e es ih =>
    obtain ⟨apart, hn⟩ := List.nodup_cons.mp hn
    have spared : ∀ x ∈ es, (t.answerAbandoned e.key).entry x.key = t.entry x.key := fun x hx => by
      have other : e.key ≠ x.key := fun hk => apart (List.mem_map.mpr ⟨x, hx, hk.symm⟩)
      obtain same | ⟨u, st, r, table, _, answered⟩ := answerAbandoned_cases t e.key
      · rw [same]
      · rw [answered, (spares_answerEntry other u st r).entry, State.entry, table, State.entry]
    have rest := ih hn (fun x hx => hf x (List.mem_cons_of_mem e hx)) fun x hx =>
      (spared x hx).trans (he x (List.mem_cons_of_mem e hx))
    rw [List.map_cons, List.foldl_cons, rest, answerAbandoned_txq (hf e List.mem_cons_self) (he e List.mem_cons_self),
      List.append_assoc, List.filterMap_cons]
    cases s.abandonedAnswer l e <;> rfl

theorem putsMoved_txq (fits : s.tableFits) : ((s.putsMoved l).port l.other).txq =
    (s.port l.other).txq ++ s.table.filterMap (s.abandonedAnswer l) := by
  have entries : ∀ e ∈ s.table.filter (ReqEntry.stillFills l),
      ((s.redirected l).abandonPuts l).entry e.key = some ((e.redirect l).abandon s) := fun e he => by
    obtain ⟨mem, fills⟩ := List.mem_filter.mp he
    rw [redirected_abandonPuts_entry, entry_of_mem fits.distinct mem, Option.map_some, if_pos (mem_fillingPuts mem fills)]
  have ports : ((s.redirected l).abandonPuts l).port l.other = s.port l.other :=
    (abandonPuts_port _ l _).trans (State.port_congr rfl rfl _)
  rw [State.putsMoved, fillingPuts_eq, answersAbandoned_txq ((List.filter_sublist.map _).nodup fits.distinct)
    (fun e he => (List.mem_filter.mp he).2) entries, ports, List.filterMap_filter]
  congr 2
  funext e
  split
  · rfl
  · next h => exact (abandonedAnswer_filling (by simpa using h)).symm

theorem redirect_frames (frames : List OutFrame) : frames.filterMap OutFrame.redirect =
    (frames.filter fun f => f.holds != .slotAndTag && f.holds != .slot).map fun f => { f with redirected := true } := by
  induction frames with
  | nil => rfl
  | cons f frames ih =>
    rw [List.filterMap_cons, List.filter_cons, ih]
    cases h : f.holds <;> simp [OutFrame.redirect, h]

/-- The survivor's transmit queue: its own frames, the answers, and the frames moved (log 47). -/
theorem failPaired_txq (fits : s.tableFits) (st : LinkState) (frames : List OutFrame) :
    ((s.failPaired l st frames).port l.other).txq = (s.port l.other).txq ++ s.table.filterMap (s.abandonedAnswer l) ++
      (frames.filter fun f => f.holds != .slotAndTag && f.holds != .slot).map fun f => { f with redirected := true } := by
  rw [failPaired_eq, State.raise, State.modPort_self, State.modPort_self, putsMoved_txq fits, redirect_frames]

end

/-! ### Without a survivor (R156) -/

section
variable {s : State} {l : Link}

/-- Gets dropped change the table, the reads, the Band Table, the engine and the slots alone. -/
theorem dropGets_only (is : List (Fin 16)) (s : State) : ∃ tb fs bs g xs, is.foldl State.dropGet s =
    { s with table := tb, fetchList := fs, bands := bs, engine := g, slots := xs } := by
  have first : ∀ (t : State) i, ∃ tb fs bs g xs, t.dropGet i =
      { t with table := tb, fetchList := fs, bands := bs, engine := g, slots := xs } := fun t i => by
    unfold State.dropGet
    dsimp only
    split
    · obtain ⟨_, _, _, _, cancelled⟩ := cancelSlot_only t i
      rw [State.dropEntry, cancelled]
      exact ⟨_, _, _, _, _, rfl⟩
    · exact ⟨_, _, _, _, _, rfl⟩
  induction is generalizing s with
  | nil => exact ⟨_, _, _, _, _, rfl⟩
  | cons i is ih =>
    obtain ⟨_, _, _, _, _, first⟩ := first s i
    obtain ⟨_, _, _, _, _, rest⟩ := ih (s.dropGet i)
    rw [List.foldl_cons, rest, first]
    exact ⟨_, _, _, _, _, rfl⟩

theorem failUnpaired_only (s : State) (l : Link) : ∃ tb r fs bs g xs, s.failUnpaired l =
    { s with
      table := tb, resetRecord := r, queues := ((s.discardOwed l).abandonPuts l).queues, fetchList := fs, bands := bs, engine := g
      slots := xs } := by
  obtain ⟨_, _, _, _, _, dropped⟩ := dropGets_only allQueues ((s.discardOwed l).abandonPuts l)
  obtain ⟨_, _, abandoned⟩ := abandons_only ((s.discardOwed l).fillingPuts l) (s.discardOwed l)
  rw [State.failUnpaired, dropped, State.abandonPuts, abandoned]
  exact ⟨_, _, _, _, _, _, rfl⟩

/-- Both links' ports are left as they are. -/
theorem failUnpaired_port (s : State) (l m : Link) : (s.failUnpaired l).port m = s.port m := by
  obtain ⟨_, _, _, _, _, _, only⟩ := failUnpaired_only s l
  rw [only]
  exact State.port_congr rfl rfl m

theorem stillFills_kept {e : ReqEntry} (h : e.stillFills l = true) : (e.reply == l && (e.answered || e.info.isPattern)) = false := by
  obtain ⟨_, unanswered, put, info, _⟩ := stillFills_iff.mp h
  simp [unanswered, info, EntryInfo.isPattern]

theorem discard_stillFills (l : Link) (e : ReqEntry) : (e.discard l).stillFills l = e.stillFills l := by
  unfold ReqEntry.discard
  split <;> rfl

/-- A Put still filling is not among the responses discarded at once. -/
theorem discardOwed_fillingPuts (s : State) (l : Link) : (s.discardOwed l).fillingPuts l = s.fillingPuts l := by
  have fills : ReqEntry.stillFills l ∘ ReqEntry.discard l = ReqEntry.stillFills l := funext (discard_stillFills l)
  have keys : (fun e : ReqEntry => e.key) ∘ ReqEntry.discard l = fun e => e.key := funext (discard_key l)
  rw [fillingPuts_eq, State.discardOwed, List.filter_map, List.map_map, fills, keys, List.filter_filter, fillingPuts_eq]
  congr 1
  refine List.filter_congr fun e _ => ?_
  cases h : e.stillFills l with
  | true => rw [stillFills_kept h]; rfl
  | false => rfl

theorem failUnpaired_records (s : State) (l : Link) (q : Fin 16) : ((s.failUnpaired l).queue q).records =
    (s.queue q).records.filter fun r => !(s.fillingPuts l).any r.fillsFor := by
  obtain ⟨_, _, _, _, _, _, only⟩ := failUnpaired_only s l
  have queues : (s.failUnpaired l).queues = ((s.discardOwed l).abandonPuts l).queues := by rw [only]
  rw [State.queue_congr queues, abandonPuts_records, discardOwed_fillingPuts]
  rfl

theorem discardOwed_entry {e : ReqEntry} (hn : (s.table.map (·.key)).Nodup) (he : e ∈ s.table) (h : e.stillFills l = true) :
    (s.discardOwed l).entry e.key = some (e.discard l) := by
  have mem : e.discard l ∈ (s.discardOwed l).table :=
    List.mem_map_of_mem (List.mem_filter.mpr ⟨he, by rw [stillFills_kept h]; rfl⟩)
  rw [← discard_key l e]
  exact entry_of_mem ((keysKept_discardOwed s l).keys.nodup hn) mem

/-- No ACTIVE slot is of the request. -/
def State.unfetched (s : State) (k : Key) : Prop := ∀ i, (s.slot i).state = .active → (s.slot i).key ≠ k

theorem unfetched_cancelSlot {k : Key} (h : s.unfetched k) (i : Fin 16) : (s.cancelSlot i).unfetched k := by
  have released : ∀ t : State, ∀ reads : List FetchRead, (reads.foldl (fun t r => t.releaseRead r.band) t).slots = t.slots :=
    fun t reads => slots_foldl (fun t r => by
      obtain ⟨_, _, only⟩ := releaseRead_only t r.band
      rw [only]) reads t
  unfold State.cancelSlot
  split
  · intro j
    dsimp only
    rw [State.modSlot_slot]
    split
    · exact nofun
    · rw [State.slot, released]
      exact h j
  · exact h

theorem dropGets_spare {k : Key} (h : s.unfetched k) (is : List (Fin 16)) : (is.foldl State.dropGet s).entry k = s.entry k := by
  induction is generalizing s with
  | nil => rfl
  | cons i is ih =>
    have turn : (s.dropGet i).unfetched k ∧ (s.dropGet i).entry k = s.entry k := by
      unfold State.dropGet
      dsimp only
      split
      · next hi =>
        have apart : (s.slot i).key ≠ k := h i (by simpa [FetchSlot.isActive] using (Bool.and_eq_true_iff.mp hi).1)
        exact ⟨unfetched_cancelSlot h i, by rw [entry_dropEntry apart, State.entry, cancelSlot_table, State.entry]⟩
      · exact ⟨h, rfl⟩
    exact (ih turn.1).trans turn.2

theorem failUnpaired_entry {e : ReqEntry} (fits : s.tableFits) (he : e ∈ s.table) (hf : e.stillFills l = true)
    (hu : s.unfetched e.key) : (s.failUnpaired l).entry e.key = some ((e.discard l).abandon s) := by
  have unfetched : ((s.discardOwed l).abandonPuts l).unfetched e.key := by
    obtain ⟨_, _, only⟩ := abandons_only ((s.discardOwed l).fillingPuts l) (s.discardOwed l)
    rw [State.abandonPuts, only]
    exact hu
  rw [State.failUnpaired, dropGets_spare unfetched, abandonPuts_entry, discardOwed_entry fits.distinct he hf, Option.map_some,
    discard_key, discardOwed_fillingPuts, if_pos (mem_fillingPuts he hf)]
  rfl

end

end Sys2Proof.Machine

namespace Sys2Proof.Machine

/-! PROOFS. A link failure under the error scope in force (O44), and frames whose header cannot be read (O41). -/

/-! ### The error scopes (R151 to R156) -/

section
variable {s : State} {l : Link}

/-- The other link survives under LINK scope with pairing. -/
def State.survives (s : State) (l : Link) : Prop :=
  s.scope.link = true ∧ s.scope.paired = true ∧ (s.port l.other).state = .running

theorem linkFails_starting (h : s.service = .starting) (st : LinkState) : s.linkFails l st = s.modPort l (Port.cut st) := by
  unfold State.linkFails
  exact if_pos (by rwa [State.modPort_service])

/-- In service, the scope decides. -/
theorem linkFails_inService (h : s.service = .inService) (st : LinkState) : s.linkFails l st =
    if s.scope.link = false then (s.modPort l (Port.cut st)).failPart l
    else if s.scope.paired = true ∧ (s.port l.other).state = .running then
      (s.modPort l (Port.cut st)).failPaired l st (s.port l).txq
    else (s.modPort l (Port.cut st)).failUnpaired l := by
  unfold State.linkFails
  simp [h]

theorem linkFails_part (h : s.service = .inService) (hl : s.scope.link = false) (st : LinkState) :
    s.linkFails l st = (s.modPort l (Port.cut st)).failPart l := (linkFails_inService h st).trans (if_pos hl)

theorem linkFails_paired (h : s.service = .inService) (hp : s.survives l) (st : LinkState) :
    s.linkFails l st = (s.modPort l (Port.cut st)).failPaired l st (s.port l).txq := by
  obtain ⟨link, paired⟩ := hp
  rw [linkFails_inService h, if_neg (by simp [link]), if_pos paired]

theorem linkFails_unpaired (h : s.service = .inService) (hl : s.scope.link = true) (hp : ¬ s.survives l) (st : LinkState) :
    s.linkFails l st = (s.modPort l (Port.cut st)).failUnpaired l := by
  rw [linkFails_inService h, if_neg (by simp [hl]), if_neg fun paired => hp ⟨hl, paired⟩]

/-- Under PART scope the link owes nothing once its responses are discarded. -/
theorem failPart_port (s : State) (l : Link) :
    ∃ ns, (s.failPart l).port l = { s.port l with pending := ns } ∧ NoticesStay (s.port l).pending ns := by
  have discarded : (s.discardOwed l).port l = s.port l := State.port_congr rfl rfl l
  have failed : Unaddressed l (s.discardOwed l) (s.failPart l) := .ite (.refl l _) (unaddressed_levelTwo l _)
  exact discarded ▸ failed.port (discardOwed_owesNone s l)

theorem starting_of_not_inService (h : s.service ≠ .inService) : s.service = .starting := by
  cases hs : s.service with
  | starting => rfl
  | inService => exact absurd hs h

/-- The failed link's port is cut off, and else has notices raised alone, and those under PART scope alone. -/
theorem linkFails_port (s : State) (l : Link) (st : LinkState) :
    ∃ ns, (s.linkFails l st).port l = { Port.cut st (s.port l) with pending := ns } ∧ NoticesStay (s.port l).pending ns ∧
      (s.scope.link = true → ns = (s.port l).pending) := by
  have cut : (s.modPort l (Port.cut st)).port l = Port.cut st (s.port l) := State.modPort_self s l _
  have asCut {t : State} (ht : t.port l = (s.modPort l (Port.cut st)).port l) : ∃ ns,
      t.port l = { Port.cut st (s.port l) with pending := ns } ∧ NoticesStay (s.port l).pending ns ∧
        (s.scope.link = true → ns = (s.port l).pending) := ⟨_, ht.trans cut, .refl _, fun _ => rfl⟩
  by_cases service : s.service = .inService
  · cases link : s.scope.link with
    | false =>
      obtain ⟨ns, port, stay⟩ := failPart_port (s.modPort l (Port.cut st)) l
      rw [cut] at port stay
      exact ⟨ns, (linkFails_part service link st).symm ▸ port, stay, nofun⟩
    | true =>
      rw [link] at asCut
      by_cases paired : s.survives l
      · exact asCut ((linkFails_paired service paired st).symm ▸ failPaired_port _ l st _)
      · exact asCut ((linkFails_unpaired service link paired st).symm ▸ failUnpaired_port _ l l)
  · exact asCut (congrArg (State.port · l) (linkFails_starting (starting_of_not_inService service) st))

theorem linkFails_rx (s : State) (l : Link) (st : LinkState) : ((s.linkFails l st).port l).rx = [] := by
  obtain ⟨_, port, _⟩ := linkFails_port s l st
  rw [port]
  rfl

end

/-! ### Frames whose header cannot be read, and unknown items (R151, R159, R182) -/

section
variable {s p X : State} {l : Link} {bytes : List Byte} {kind : Nat} {tag : Tag}

theorem takeMalformed_malformed (h : readFrame bytes = .malformed kind tag) : s.takeMalformed l bytes =
    s.takeFrame l (checkRight bytes) (.malformed kind tag) fun s => s.answerMalformed l kind tag := by
  simp only [State.takeMalformed, h]

theorem takeMalformed_unknown (h : readFrame bytes = .request tag (.unknown kind)) : s.takeMalformed l bytes =
    s.takeFrame l (checkRight bytes) (.request tag (.unknown kind)) fun s =>
      s.handOver (key l tag) (.unknown kind) fun k s => s.answerNow k kind .invalid .none := by
  simp only [State.takeMalformed, h]

theorem gives_malformed (h : s.takeMalformed l bytes = X) : Gives (.malformed l bytes) s X := gives_of_finish (h ▸ rfl)

/-- A frame that did not come to stand in the receive buffer is not taken. -/
theorem takeFrame_untaken {good : Bool} {f : InFrame} (h : ((s.frameReady l good f).port l).rx = []) (m : State → State) :
    s.takeFrame l good f m = s.frameReady l good f := by
  simp only [State.takeFrame, State.frameTaken, h]

theorem frameReady_arrives (h : (s.port l).rx = []) (good : Bool) (f : InFrame) :
    s.frameReady l good f = s.frameArrives l good f := by
  simp [State.frameReady, h]

/-- A frame with a wrong check value, where none waits: a link error, before anything is looked at in it. -/
theorem takeFrame_wrong (hx : (s.port l).rx = []) {f : InFrame} (hf : s.frameArrives l false f = p.linkFails l .error)
    (m : State → State) : s.takeFrame l false f m = p.linkFails l .error := by
  have arrived := (frameReady_arrives hx false f).trans hf
  rw [takeFrame_untaken (by rw [arrived, linkFails_rx]), arrived]

/-- So it is for a frame of either kind that this command stands for. -/
theorem takeMalformed_wrong (hr : checkRight bytes = false) (hx : (s.port l).rx = [])
    (hb : (∃ kind tag, readFrame bytes = .malformed kind tag) ∨ ∃ kind tag, readFrame bytes = .request tag (.unknown kind))
    (hf : ∀ f, s.frameArrives l false f = p.linkFails l .error) : s.takeMalformed l bytes = p.linkFails l .error := by
  obtain ⟨kind, tag, h⟩ | ⟨kind, tag, h⟩ := hb
  · rw [takeMalformed_malformed h, hr, takeFrame_wrong hx (hf _)]
  · rw [takeMalformed_unknown h, hr, takeFrame_wrong hx (hf _)]

/-- A frame of a type that does not travel inbound. -/
theorem readFrame_outbound (h1 : fieldAt bytes 0 1 ≠ 1) (h3 : fieldAt bytes 0 1 ≠ 3) :
    readFrame bytes = .malformed (fieldAt bytes 1 1) (BitVec.ofNat 16 (fieldAt bytes 2 2)) := by
  unfold readFrame
  dsimp only
  split
  · next h => exact absurd h h3
  · next h => exact absurd h h1
  · rfl

end

/-- Settles O41: a right check value by what the bytes are read as, a wrong one by the state of the link. -/
theorem malformedFrames : Obligations.MalformedFrames := by
  refine ⟨fun s l bytes p right => ⟨fun kind tag read taken => ?malformed, fun kind tag read taken => ?unknown, ?outbound⟩,
    fun s l bytes wrong empty read => ⟨fun running => ?running, fun ready => ?ready⟩⟩
  case malformed => exact gives_malformed (by rw [takeMalformed_malformed read, right, takeFrame_taken taken]; rfl)
  case unknown =>
    refine gives_malformed ?_
    rw [takeMalformed_unknown read, right, takeFrame_taken taken.taken, State.handOver, taken.passes]
  case outbound =>
    rintro kind tag ⟨h1, h3⟩ rfl rfl
    exact readFrame_outbound h1 h3
  case running => exact gives_malformed (takeMalformed_wrong wrong empty read fun f => frameArrives_fails running (.inl rfl))
  case ready =>
    refine gives_malformed (takeMalformed_wrong (p := s.nowRunning l) wrong empty read fun f => ?_)
    rw [frameArrives_ready ready, frameArrives_fails (by rw [nowRunning_port]) (.inl rfl)]

/-! ### What a failure leaves (R151 to R156) -/

section
variable {s : State} {l : Link}

theorem gives_linkSilenceTimeout {X : State} (h : s.linkSilent l = X) : Gives (.linkSilenceTimeout l) s X :=
  gives_of_finish (h ▸ rfl)

theorem gives_quietIntervalEnd {X : State} (h : s.quietEnds l = X) : Gives (.quietIntervalEnd l) s X := gives_of_finish (h ▸ rfl)

theorem modPort_tableFits (fits : s.tableFits) (f : Port → Port) : (s.modPort l f).tableFits := (keysKept_modPort s l f).fits fits

/-- What a failure answers of a Put is read in the queues. -/
theorem abandonedAnswer_modPort (s : State) (l m : Link) (f : Port → Port) :
    (s.modPort m f).abandonedAnswer l = s.abandonedAnswer l := by
  funext e
  unfold State.abandonedAnswer
  cases e.info with
  | put put => simp only [fillingRecords_congr (State.modPort_queues s m f)]
  | _ => rfl

/-- Without a survivor, every response owed on the failed link is discarded. -/
theorem linkFails_discarded (hs : s.service = .inService) (hp : ¬ s.survives l) (st : LinkState) :
    (s.linkFails l st).owesNone l :=
  (linkFails_discards hs hp st).1.owesNone (discardOwed_owesNone _ l)

/-- PART scope, a reset in progress: the link takes its share in it. -/
theorem failPart_resetting (h : s.resetting = true) : s.failPart l = s.discardOwed l := if_pos h

theorem failPart_resets (h : s.resetting = false) : s.failPart l = (s.discardOwed l).performReset false :=
  if_neg (ne_true_of_eq_false h)

theorem modPort_resetting (s : State) (l : Link) (f : Port → Port) : (s.modPort l f).resetting = s.resetting := by
  rw [State.resetting, State.modPort_resetWaits, State.resetting]

theorem linkFails_shares (hs : s.service = .inService) (hl : s.scope.link = false) (hr : s.resetting = true) (st : LinkState) :
    (s.linkFails l st).resetWaits = s.resetWaits := by
  rw [linkFails_part hs hl, failPart_resetting (by rwa [modPort_resetting])]
  exact State.modPort_resetWaits s l _

theorem linkFails_resets (hs : s.service = .inService) (hl : s.scope.link = false) (hr : s.resetting = false) (st : LinkState) :
    StagingCleared (s.linkFails l st) := by
  rw [linkFails_part hs hl, failPart_resets (by rwa [modPort_resetting])]
  exact levelTwo_clears _

/-- Under LINK scope the records of the Puts abandoned go, and the map, the orders in flight and a reset in progress stay. -/
theorem linkFails_linkScope (hs : s.service = .inService) (hl : s.scope.link = true) (st : LinkState) :
    (∀ q, ((s.linkFails l st).queue q).records = (s.queue q).records.filter fun r => !(s.fillingPuts l).any r.fillsFor) ∧
      (s.linkFails l st).map = s.map ∧ (s.linkFails l st).window = s.window ∧ (s.linkFails l st).resetWaits = s.resetWaits := by
  have puts : (s.modPort l (Port.cut st)).fillingPuts l = s.fillingPuts l := by
    rw [fillingPuts_eq, State.modPort_table, fillingPuts_eq]
  have queues (q : Fin 16) : (s.modPort l (Port.cut st)).queue q = s.queue q := State.queue_congr (State.modPort_queues s l _) q
  by_cases paired : s.survives l
  · obtain ⟨_, _, _, _, only⟩ := failPaired_only (s.modPort l (Port.cut st)) l st (s.port l).txq
    rw [linkFails_paired hs paired]
    refine ⟨fun q => by rw [failPaired_records, puts, queues], ?_, ?_, ?_⟩
    all_goals rw [only]; simp
  · obtain ⟨_, _, _, _, _, _, only⟩ := failUnpaired_only (s.modPort l (Port.cut st)) l
    rw [linkFails_unpaired hs hl paired]
    refine ⟨fun q => by rw [failUnpaired_records, puts, queues], ?_, ?_, ?_⟩
    all_goals rw [only]; simp

/-- The survivor's transmit queue behind the failure (R155, log 47). -/
theorem linkFails_txq (hs : s.service = .inService) (hp : s.survives l) (fits : s.tableFits) (st : LinkState) :
    ((s.linkFails l st).port l.other).txq = (s.port l.other).txq ++ s.table.filterMap (s.abandonedAnswer l) ++
      (((s.port l).txq.filter fun f => f.holds != .slotAndTag && f.holds != .slot).map fun f => { f with redirected := true }) := by
  rw [linkFails_paired hs hp, failPaired_txq (modPort_tableFits fits _), State.modPort_other, State.modPort_table,
    abandonedAnswer_modPort]

/-- The entry of a Put abandoned, where it is not dropped with its answer (R156). -/
theorem linkFails_abandons {e : ReqEntry} {put : PutInfo} (hs : s.service = .inService) (hl : s.scope.link = true)
    (fits : s.tableFits) (he : e ∈ s.table) (hi : e.info = .put put) (hf : e.stillFills l = true) (hu : s.unfetched e.key)
    (hd : e.discarded = false ∨ ¬ s.survives l) (st : LinkState) :
    ((s.linkFails l st).entry e.key).map (·.info) = some (.put (put.abandon (s.fillingRecords e.key))) := by
  have cutFits : (s.modPort l (Port.cut st)).tableFits := modPort_tableFits fits _
  have mem : e ∈ (s.modPort l (Port.cut st)).table := by rwa [State.modPort_table]
  have records := fillingRecords_congr (State.modPort_queues s l (Port.cut st)) e.key
  by_cases paired : s.survives l
  · obtain ⟨a, kept⟩ := putsMoved_keeps cutFits mem (.inl (hd.resolve_right (not_not_intro paired)))
    rw [linkFails_paired hs paired, failPaired_entry, kept, if_pos (mem_fillingPuts mem hf), redirect_only]
    simp [ReqEntry.abandon, hi, EntryInfo.modPut, records]
  · have unfetched : (s.modPort l (Port.cut st)).unfetched e.key := by
      unfold State.unfetched State.slot
      rwa [State.modPort_slots]
    rw [linkFails_unpaired hs hl paired, failUnpaired_entry cutFits mem hf unfetched, Option.map_some, ReqEntry.abandon,
      discard_key, discard_info, hi, records]
    rfl

end

/-- Settles O44: the two timeouts by the state of the link; a failure by the error scope; and the Puts abandoned. -/
theorem silenceQuietAndLinkFailures : Obligations.SilenceQuietAndLinkFailures := by
  refine ⟨fun s l => ⟨fun h => gives_linkSilenceTimeout (if_pos h), fun h => gives_linkSilenceTimeout (if_neg h),
    fun h => gives_quietIntervalEnd (if_pos h), fun h => gives_quietIntervalEnd (if_neg h)⟩, fun s l st => ?failure,
    fun s l st hs hl => ?abandoned⟩
  case failure =>
    obtain ⟨ns, port, stay, same⟩ := linkFails_port s l st
    dsimp only
    rw [port]
    refine ⟨rfl, rfl, rfl, rfl, stay, same, fun starting => linkFails_starting starting st, fun hs =>
      ⟨fun part => ⟨linkFails_discarded hs (fun paired => by simp [paired.1] at part) st, fun hr => linkFails_shares hs part hr st,
        fun hr => ⟨fun q => ?_, ?_⟩⟩, fun paired => ?_, fun link alone => ?_⟩⟩
    · exact (linkFails_resets hs part hr st).records q
    · exact (linkFails_resets hs part hr st).orphaned
    · refine ⟨fun e he => ?_, fun fits e he hr h => ?_, ?_, (linkFails_linkScope hs paired.1 st).2.2.2,
        fun fits => linkFails_txq hs paired fits st⟩
      · rw [linkFails_paired hs paired] at he
        exact failPaired_replies st _ he
      · rw [linkFails_paired hs paired]
        exact failPaired_redirects (modPort_tableFits fits _) (by rwa [State.modPort_table]) hr h st _
      · rw [linkFails_paired hs paired]
        exact failPaired_raises _ l st _
    · refine ⟨linkFails_discarded hs alone st, (linkFails_linkScope hs link st).2.2.2, ?_⟩
      rw [linkFails_unpaired hs link alone, failUnpaired_port, State.modPort_other]
  case abandoned =>
    obtain ⟨records, map, window, _⟩ := linkFails_linkScope (l := l) hs hl st
    refine ⟨fun q => ?_, map, window, fun e put fits he hi origin unanswered filling settling unfetched => ?_⟩
    · rw [records]
      exact List.filter_congr fun r _ => by rw [any_fillingPuts]
    · have fills : e.stillFills l = true := stillFills_iff.mpr ⟨origin, unanswered, put, hi, filling, settling⟩
      refine ⟨fun h => ?_, fun running paired survivor kept waits => ?_⟩
      · refine linkFails_abandons hs hl fits he hi fills unfetched (h.imp_right fun h alone => ?_) st
        exact h.elim (fun unpaired => by simp [alone.2.1] at unpaired) fun failed => failed alone.2.2
      · have answer := abandonedAnswer_due fills hi kept waits
        obtain ⟨x, exec, ends⟩ := gives_linkSilenceTimeout (s := s) (l := l) (if_pos running)
        refine ⟨x, _, exec, answer, (ends.kept.port l.other).txq.subset ?_⟩
        rw [linkFails_txq hs ⟨hl, paired, survivor⟩ fits]
        exact List.mem_append_left _ (List.mem_append_right _ (List.mem_filterMap.mpr ⟨e, he, answer⟩))

end Sys2Proof.Machine

namespace Sys2Proof.Machine

/-! PROOFS. The Request Unit's checks of every request (O16). -/

/-! ### The checks of R159, in order -/

section
variable {s : State} {k : Key} {r : Request}

theorem requestRefusal_inUse (inUse : s.tagInUse k = true) : s.requestRefusal k r = some .tagInUse := if_pos inUse

theorem requestRefusal_unused (unused : s.tagInUse k = false) : s.requestRefusal k r =
    if s.resetting && !r.isQuery then some .busy
    else if s.tableFull k.origin && !(r.isQuery || r.isReset) then some .busy
    else if (s.port k.origin).pattern && !r.inPattern then some .mode
    else if s.service == .starting && !r.ownStarting then some .starting
    else none := if_neg (by simp [unused])

theorem requestRefusal_resetting (unused : s.tagInUse k = false) (resets : s.resetting = true) (other : r.isQuery = false) :
    s.requestRefusal k r = some .busy := by
  rw [requestRefusal_unused unused, if_pos (by simp [resets, other])]

/-- What a request that no reset in progress holds up is refused with. -/
theorem requestRefusal_unheld (unused : s.tagInUse k = false) (unheld : s.resetting = false ∨ r.isQuery = true) :
    s.requestRefusal k r =
    if s.tableFull k.origin && !(r.isQuery || r.isReset) then some .busy
    else if (s.port k.origin).pattern && !r.inPattern then some .mode
    else if s.service == .starting && !r.ownStarting then some .starting
    else none := by
  rw [requestRefusal_unused unused, if_neg]
  rcases unheld with h | h <;> simp [h]

/-- What a request that needs no room in the table, or finds it, is refused with. -/
theorem requestRefusal_room (unused : s.tagInUse k = false) (unheld : s.resetting = false ∨ r.isQuery = true)
    (room : s.tableFull k.origin = false ∨ r.isQuery = true ∨ r.isReset = true) : s.requestRefusal k r =
    if (s.port k.origin).pattern && !r.inPattern then some .mode
    else if s.service == .starting && !r.ownStarting then some .starting
    else none := by
  rw [requestRefusal_unheld unused unheld, if_neg]
  rcases room with h | h | h <;> simp [h]

/-- What a request of a kind its link's mode allows is refused with. -/
theorem requestRefusal_inMode (unused : s.tagInUse k = false) (unheld : s.resetting = false ∨ r.isQuery = true)
    (room : s.tableFull k.origin = false ∨ r.isQuery = true ∨ r.isReset = true)
    (mode : (s.port k.origin).pattern = false ∨ r.inPattern = true) : s.requestRefusal k r =
    if s.service == .starting && !r.ownStarting then some .starting else none := by
  rw [requestRefusal_room unused unheld room, if_neg]
  rcases mode with h | h <;> simp [h]

end

/-! ### Requests as commands -/

/-- A request command takes its frame and hands the request to its owner, whichever that is. -/
theorem exec_request {c : Instr} {l : Link} {tag : Tag} {r : Request} (h : requestOf c = some (l, tag, r)) (s : State) :
    ∃ owner : Key → State → State, exec c s = finish s (s.takeRequest l tag r owner) := by
  cases c <;> cases h <;> exact ⟨_, rfl⟩

theorem gives_refused {c : Instr} {s p : State} {l : Link} {tag : Tag} {r : Request} {x : Status}
    (hc : requestOf c = some (l, tag, r)) (h : Taken s l (.request tag r) p) (hx : p.requestRefusal (key l tag) r = some x) :
    Gives c s (p.answerNow (key l tag) r.kind x .none) := by
  obtain ⟨owner, run⟩ := exec_request hc s
  exact gives_of_finish (by rw [run, takeRequest_refused h hx])

/-- Settles O16: each check, where the ones before it pass. -/
theorem requestUnitChecks : Obligations.RequestUnitChecks := by
  intro c s l tag r p hc h
  refine ⟨fun inUse => gives_refused hc h (requestRefusal_inUse inUse),
    fun unused resets other => gives_refused hc h (requestRefusal_resetting unused resets other), fun unused unheld =>
    ⟨fun full query reset => gives_refused hc h ?full, fun room =>
      ⟨fun pattern kind => gives_refused hc h ?mode, fun mode starting kind => gives_refused hc h ?starting⟩⟩⟩
  case full => rw [requestRefusal_unheld unused unheld, if_pos (by simp [full, query, reset])]
  case mode => rw [requestRefusal_room unused unheld room, if_pos (by simp [pattern, kind])]
  case starting => rw [requestRefusal_inMode unused unheld room mode, if_pos (by simp [starting, kind])]

end Sys2Proof.Machine

namespace Sys2Proof.Machine

/-! PROOFS. Set notice enables and Set clear pending notices (O32). -/

/-! ### The link and the kinds a value names (R164, R180) -/

theorem linkOf_code (m : Link) : linkOf m.code = some m := by cases m <;> rfl

theorem linkOf_none {n : Nat} (h0 : n ≠ 0) (h1 : n ≠ 1) : linkOf n = none := by
  match n with
  | 0 => exact absurd rfl h0
  | 1 => exact absurd rfl h1
  | _ + 2 => rfl

theorem Notice.mem_all (k : Notice) : k ∈ Notice.all := by cases k <;> decide

/-- A kind is of a set where the set has its bit (R180). -/
theorem contains_noticesOf (set : Nat) (k : Notice) : (noticesOf set).contains k = set.testBit (k.code - 1) := by
  rw [Bool.eq_iff_iff, List.contains_iff_mem, noticesOf, List.mem_filter]
  exact and_iff_right k.mem_all

/-! ### The two Sets -/

section
variable {k : Key} {effect : List Notice → Port → Port}

theorem takeKinds_named (m : Link) {set : Nat} (hs : set < 1024) (s : State) :
    s.takeKinds (some (m.code, set)) k effect = (s.modPort m (effect (noticesOf set))).answerNow k 7 .ok .none := by
  simp only [State.takeKinds, linkOf_code]
  exact answerIf_true (decide_eq_true hs)

/-- A value that names no link, or a kind the part does not have, is refused. -/
theorem takeKinds_invalid {v : Option (Nat × Nat)} (h : (∀ set, v ≠ some (0, set) ∧ v ≠ some (1, set)) ∨
    ∃ n set, v = some (n, set) ∧ 1024 ≤ set) (s : State) : s.takeKinds v k effect = s.answerNow k 7 .invalid .none := by
  match v with
  | none => rfl
  | some (n, set) =>
    unfold State.takeKinds
    dsimp only
    split
    · rfl
    · next l hl =>
      obtain noLink | ⟨n', set', same, big⟩ := h
      · have other : linkOf n = none := linkOf_none (fun h0 => (noLink set).1 (by rw [h0])) fun h1 => (noLink set).2 (by rw [h1])
        simp [hl] at other
      · cases same
        exact answerIf_false (decide_eq_false (Nat.not_lt.mpr big))

end

section
variable {s p X : State} {l : Link} {tag : Tag} {v : Option (Nat × Nat)}

theorem gives_setNoticeEnables (h : Takes s l tag (.setNoticeEnables v) p) (hX : p.takeKinds v (key l tag) Port.enable = X) :
    Gives (.setNoticeEnables l tag v) s X := gives_takes rfl h hX

theorem gives_setClearPending (h : Takes s l tag (.setClearPendingNotices v) p)
    (hX : p.takeKinds v (key l tag) Port.clearPending = X) : Gives (.setClearPendingNotices l tag v) s X := gives_takes rfl h hX

end

/-- What remains of a pending set once the kinds of a set are cleared. -/
theorem clearPending_noticesOf (set : Nat) (p : Port) : p.clearPending (noticesOf set) =
    { p with sending := (p.clearPending (noticesOf set)).sending,
             pending := p.pending.filter fun n => !set.testBit (n.kind.code - 1) } := by
  simp only [Port.clearPending, contains_noticesOf]

/-- Settles O32: the refusals, and what each Set makes of the port of the link it names. -/
theorem noticeSets : Obligations.NoticeSets := by
  intro s l tag v p
  refine ⟨fun h => ⟨fun bad => gives_setNoticeEnables h (takeKinds_invalid bad p), fun m set hv hs => ?enables⟩,
    fun h => ⟨fun bad => gives_setClearPending h (takeKinds_invalid bad p), fun m set hv hs => ?clears⟩⟩
  case enables =>
    subst hv
    exact gives_setNoticeEnables h (takeKinds_named m hs p)
  case clears =>
    subst hv
    have cleared := port_modPort p m (Port.clearPending (noticesOf set))
    refine ⟨_, gives_setClearPending h (takeKinds_named m hs p), port_modPort_other p m _, ?_, ?_⟩
    · rw [cleared, State.modPort]
    · rw [cleared]
      exact clearPending_noticesOf set _

end Sys2Proof.Machine

namespace Sys2Proof.Machine

/-! PROOFS. The answer of every Query, and what a lookup reports (O33). -/

/-! ### Answers (R165) -/

section
variable {s : State} {k : Key}

theorem answerQuery_ok {record : Except Status (List Field)} {fields : List Field} (h : record = .ok fields) :
    s.answerQuery k record = s.answerNow k 8 .ok (.record fields) := h ▸ rfl

theorem answerQuery_refused {record : Except Status (List Field)} {x : Status} (h : record = .error x) :
    s.answerQuery k record = s.answerNow k 8 x .none := h ▸ rfl

end

/-- A command whose request is a Query, answered with a record or its refusal. -/
theorem gives_query {c : Instr} {s p X : State} {l : Link} {tag : Tag} {r : Request} {record : Key → State → Except Status (List Field)}
    (hc : exec c s = finish s (s.takeRequest l tag r fun k s => s.answerQuery k (record k s))) (h : Takes s l tag r p)
    (hx : p.answerQuery (key l tag) (record (key l tag) p) = X) : Gives c s X := gives_takes hc h hx

/-- A Query that reads a free value: its answer, and the counter of free values one further (log 14). -/
theorem gives_countedQuery {c : Instr} {s p X : State} {l : Link} {tag : Tag} {r : Request}
    {record : State → Except Status (List Field)}
    (hc : exec c s = finish s (s.takeRequest l tag r fun k s => (s.answerQuery k (record s)).countRead)) (h : Takes s l tag r p)
    (hx : p.answerQuery (key l tag) (record p) = X) : ∃ Y, Gives c s Y ∧ Y = { X with freeCount := Y.freeCount } :=
  ⟨_, gives_takes hc h (by rw [hx]), rfl⟩

/-! ### The records and their refusals -/

section
variable {s : State}

theorem layoutRefusal_unformatted (h : s.formatNow = .unformatted) : s.layoutRefusal = some .unformatted := by
  simp [State.layoutRefusal, h]

theorem layoutRefusal_formatting (h : s.formatNow = .formatting) : s.layoutRefusal = some .busy := by
  simp [State.layoutRefusal, h]

theorem bandRecord_refused {x : Status} (h : s.layoutRefusal = some x) (n : Nat) : s.bandRecord n = .error x := by
  simp [State.bandRecord, h]

theorem bandRecord_formatted (h : s.formatNow = .formatted) (n : Nat) :
    s.bandRecord n = (s.bands[n]?.map Band.fields).elim (.error .range) .ok := by
  simp only [State.bandRecord, layoutRefusal_formatted h]
  cases s.bands[n]? <;> rfl

theorem mapLookup_refused {y : Status} (h : s.layoutRefusal = some y) (x : Nat) : s.mapLookup x = .error y := by
  simp [State.mapLookup, h]

theorem mapLookup_formatted (h : s.formatNow = .formatted) (x : Nat) :
    s.mapLookup x = if x < s.logical then .ok (s.lookupFields x) else .error .range := by
  simp only [State.mapLookup, layoutRefusal_formatted h]

theorem settingFields_named (s : State) (l : Link) {n : Nat} (h1 : 1 ≤ n) (h8 : n ≤ 8) :
    ∃ fields, s.settingFields l n = some fields := by
  interval_cases n <;> exact ⟨_, rfl⟩

theorem settingFields_unnamed (s : State) (l : Link) {n : Nat} (h : n = 0 ∨ 9 ≤ n) : s.settingFields l n = none := by
  unfold State.settingFields
  split
  case h_9 => rfl
  all_goals omega

end

/-! ### What a lookup reports (R20, R23, R41) -/

section
variable {m : List Entry} {e : Entry} {x : Nat}

/-- A lookup in a map in form finds the entry that covers the sector. -/
theorem lookup_of_mem (h : mapSorted m = true) (he : e ∈ m) (hx : e.has x) : lookup m x = some e := by
  have found : (lookup m x).isSome := by
    rw [lookup, List.find?_isSome]
    exact ⟨e, he, by simpa [Entry.has] using hx⟩
  obtain ⟨f, hf⟩ := Option.isSome_iff_exists.mp found
  have covers : f.has x := by simpa [Entry.has] using List.find?_some hf
  rw [hf, mapSorted_unique h (List.mem_of_find?_eq_some hf) he covers hx]

theorem lookup_uncovered (h : ∀ e ∈ m, ¬ e.has x) : lookup m x = none :=
  List.find?_eq_none.mpr fun e he => by simpa [Entry.has] using h e he

/-- In a map in form, the first entry that begins above a sector begins lowest of them. -/
theorem first_above_lowest (h : mapSorted m = true) (hf : m.find? (fun e => decide (x < e.start)) = some e) :
    x < e.start ∧ ∀ d ∈ m, x < d.start → e.start ≤ d.start := by
  obtain ⟨above, front, behind, rfl, below⟩ := List.find?_eq_some_iff_append.mp hf
  refine ⟨by simpa using above, fun d hd hx => ?_⟩
  rcases List.mem_append.mp hd with hfront | hrest
  · exact absurd hx (by simpa using below d hfront)
  · rcases List.mem_cons.mp hrest with rfl | hbehind
    · exact Nat.le_refl _
    · exact Nat.le_of_add_right_le ((mapSorted_cons.mp (mapSorted_append.mp h).2.1).2.1 d hbehind)

theorem nextStart_spec (h : mapSorted m = true) (x logical : Nat) :
    (∃ e ∈ m, e.start = nextStart m x logical ∧ x < nextStart m x logical ∧
      ∀ d ∈ m, x < d.start → nextStart m x logical ≤ d.start) ∨
      (nextStart m x logical = logical ∧ ∀ d ∈ m, ¬ x < d.start) := by
  cases hf : m.find? fun e => decide (x < e.start) with
  | some e =>
    have next : nextStart m x logical = e.start := by rw [nextStart, hf]; rfl
    rw [next]
    exact .inl ⟨e, List.mem_of_find?_eq_some hf, rfl, first_above_lowest h hf⟩
  | none => exact .inr ⟨by rw [nextStart, hf]; rfl, fun d hd => by simpa using List.find?_eq_none.mp hf d hd⟩

theorem placeField_placeOf (e : Entry) (x : Nat) :
    placeField (e.placeOf x) = .parts (e.location.map fun d => [(3, d.band), (3, d.index + (x - e.start))]) := by
  rw [placeField, Entry.placeOf, Option.map_map]
  rfl

theorem lookupFields_covered {s : State} (h : lookup s.map x = some e) : s.lookupFields x =
    [.opt 6 (some e.sequence), .opt 1 (some e.stateCode),
     .parts (e.location.map fun d => [(3, d.band), (3, d.index + (x - e.start))]), .opt 5 (some e.start), .opt 3 (some e.length),
     .opt 6 (some e.sequence), .opt 1 (some e.stateCode), .parts (e.location.map fun d => [(3, d.band), (3, d.index)]),
     .opt 5 none] := by
  rw [State.lookupFields, h, ← placeField_placeOf]
  rfl

theorem lookupFields_uncovered {s : State} (h : lookup s.map x = none) : s.lookupFields x =
    [.opt 6 none, .opt 1 none, .parts none, .opt 5 none, .opt 3 none, .opt 6 none, .opt 1 none, .parts none,
     .opt 5 (some (nextStart s.map x s.logical))] := by
  rw [State.lookupFields, h]
  rfl

end

/-! ### The Queries, by what they name -/

section
variable {s p : State} {l : Link} {tag : Tag} {n : Nat}

theorem gives_bandRecord (h : Takes s l tag (.queryBandRecord n) p) :
    (p.formatNow = .unformatted → Gives (.queryBandRecord l tag n) s (p.answerNow (key l tag) 8 .unformatted .none)) ∧
    (p.formatNow = .formatting → Gives (.queryBandRecord l tag n) s (p.answerNow (key l tag) 8 .busy .none)) ∧
    (p.formatNow = .formatted → p.bands.length ≤ n →
      Gives (.queryBandRecord l tag n) s (p.answerNow (key l tag) 8 .range .none)) ∧
    (p.formatNow = .formatted → ∀ b, p.bands[n]? = some b →
      Gives (.queryBandRecord l tag n) s (p.answerNow (key l tag) 8 .ok (.record b.fields))) := by
  refine ⟨fun hf => gives_query rfl h (answerQuery_refused (bandRecord_refused (layoutRefusal_unformatted hf) n)),
    fun hf => gives_query rfl h (answerQuery_refused (bandRecord_refused (layoutRefusal_formatting hf) n)),
    fun hf hn => gives_query rfl h (answerQuery_refused ?_), fun hf b hb => gives_query rfl h (answerQuery_ok ?_)⟩
  · rw [bandRecord_formatted hf, List.getElem?_eq_none hn]
    rfl
  · rw [bandRecord_formatted hf, hb]
    rfl

theorem gives_queueRecord (h : Takes s l tag (.queryQueueRecord n) p) :
    (16 ≤ n → ∃ X, Gives (.queryQueueRecord l tag n) s X ∧
      X = { p.answerNow (key l tag) 8 .invalid .none with freeCount := X.freeCount }) ∧
    (∀ q : Fin 16, q.val = n → ∃ X, Gives (.queryQueueRecord l tag n) s X ∧
      X = { p.answerNow (key l tag) 8 .ok (.record (p.queueFields q)) with freeCount := X.freeCount }) :=
  ⟨fun hn => gives_countedQuery rfl h (answerQuery_refused (dif_neg (Nat.not_lt.mpr hn))),
    fun q hq => gives_countedQuery rfl h (answerQuery_ok (by subst hq; exact dif_pos q.isLt))⟩

theorem gives_mapLookup (h : Takes s l tag (.queryMapLookup n) p) :
    (p.formatNow = .unformatted → Gives (.queryMapLookup l tag n) s (p.answerNow (key l tag) 8 .unformatted .none)) ∧
    (p.formatNow = .formatting → Gives (.queryMapLookup l tag n) s (p.answerNow (key l tag) 8 .busy .none)) ∧
    (p.formatNow = .formatted → p.logical ≤ n →
      Gives (.queryMapLookup l tag n) s (p.answerNow (key l tag) 8 .range .none)) ∧
    (p.formatNow = .formatted → n < p.logical →
      Gives (.queryMapLookup l tag n) s (p.answerNow (key l tag) 8 .ok (.record (p.lookupFields n)))) := by
  refine ⟨fun hf => gives_query rfl h (answerQuery_refused (mapLookup_refused (layoutRefusal_unformatted hf) n)),
    fun hf => gives_query rfl h (answerQuery_refused (mapLookup_refused (layoutRefusal_formatting hf) n)),
    fun hf hn => gives_query rfl h (answerQuery_refused ?_), fun hf hn => gives_query rfl h (answerQuery_ok ?_)⟩
  · rw [mapLookup_formatted hf, if_neg (Nat.not_lt.mpr hn)]
  · rw [mapLookup_formatted hf, if_pos hn]

theorem gives_profileRecord (h : Takes s l tag (.queryProfileRecord n) p) :
    (8 ≤ n → Gives (.queryProfileRecord l tag n) s (p.answerNow (key l tag) 8 .invalid .none)) ∧
    (n < 8 → Gives (.queryProfileRecord l tag n) s (p.answerNow (key l tag) 8 .ok (.record (p.profile n).fields))) :=
  ⟨fun hn => gives_query rfl h (answerQuery_refused (if_neg (Nat.not_lt.mpr hn))),
    fun hn => gives_query rfl h (answerQuery_ok (if_pos hn))⟩

theorem gives_setting (h : Takes s l tag (.querySetting n) p) :
    (n = 0 ∨ 9 ≤ n → Gives (.querySetting l tag n) s (p.answerNow (key l tag) 8 .invalid .none)) ∧
    (1 ≤ n → n ≤ 8 → ∃ fields, p.settingFields l n = some fields ∧
      Gives (.querySetting l tag n) s (p.answerNow (key l tag) 8 .ok (.record fields))) := by
  refine ⟨fun hn => gives_query rfl h (answerQuery_refused ?_), fun h1 h8 => ?_⟩
  · rw [State.setting, settingFields_unnamed p l hn]
  · obtain ⟨fields, hf⟩ := settingFields_named p l h1 h8
    exact ⟨fields, hf, gives_query rfl h (answerQuery_ok (by rw [State.setting, hf]))⟩

/-- R165: the counts record, field by field. -/
theorem countFields_eq (s : State) : s.countFields =
    [.num 1 s.formatNow.code, .num 1 (if s.service = .inService then 1 else 0), .num 3 s.freeBands, .num 3 s.retiredBands,
     .num 2 s.poolFree, .num 3 s.freeEntries, .num 2 s.reservedEntries, .num 3 s.headroom, .num 6 s.sequence] := by
  simp [State.countFields, bit]

end

/-- Settles O33: the Queries by what they name, the lookup by the entry that covers its sector, and the relocation state as it is
defined. -/
theorem queriesAndLookups : Obligations.QueriesAndLookups := by
  refine ⟨fun s l tag p => ⟨fun n => gives_bandRecord, fun n => gives_queueRecord, fun x => gives_mapLookup,
    fun h => gives_query rfl h (answerQuery_ok (congrArg _ (countFields_eq p))),
    fun h => gives_countedQuery rfl h (answerQuery_ok rfl), fun h => gives_query rfl h (answerQuery_ok rfl),
    fun h => gives_query rfl h (answerQuery_ok rfl), fun n => gives_profileRecord, fun n => gives_setting⟩,
    fun p x form => ⟨fun e he above below => ?covered, fun uncovered => ?uncovered⟩, fun p => rfl⟩
  case covered => exact lookupFields_covered (lookup_of_mem form he ⟨above, below⟩)
  case uncovered => exact ⟨_, lookupFields_uncovered (lookup_uncovered uncovered), nextStart_spec form x p.logical⟩

end Sys2Proof.Machine

namespace Sys2Proof.Machine

/-! PROOFS. No operation beside the start of a Get takes a fetch slot for a link: the relation, and the operations of pieces, the engine,
the spindle, the Gets and placement (used for O9). -/

/-! ### The slots in use for a link (R108) -/

/-- A slot in use for an origin link. -/
def FetchSlot.usedBy (l : Link) (x : FetchSlot) : Bool := x.state != .free && x.key.origin == l

/-- The slots in use for a link, as numbers. -/
def State.usedSlots (s : State) (l : Link) : Finset (Fin 16) := Finset.univ.filter fun i => (s.slot i).usedBy l = true

theorem mem_usedSlots {s : State} {l : Link} {i : Fin 16} : i ∈ s.usedSlots l ↔ (s.slot i).usedBy l = true := by
  simp [State.usedSlots]

theorem slotsInUse_eq (s : State) (l : Link) : s.slotsInUse l = (s.usedSlots l).card := by
  have slots : s.slots.toList = (List.finRange 16).map s.slot := by
    apply List.ext_getElem
    · simp
    · intro i h1 h2
      simp [State.slot]
  have used : s.usedSlots l = ((List.finRange 16).filter fun i => (s.slot i).usedBy l).toFinset := by
    ext i
    simp [mem_usedSlots]
  rw [used, List.toFinset_card_of_nodup ((List.nodup_finRange 16).filter _), State.slotsInUse, slots, List.countP_map,
    List.countP_eq_length_filter]
  rfl

/-- A slot in use for a link in t is in use for it in s: t takes none. -/
structure SlotsKept (s t : State) : Prop where
  used : ∀ i l, (t.slot i).usedBy l = true → (s.slot i).usedBy l = true

namespace SlotsKept
variable {s t u : State}

theorem of_same (h : t.slots = s.slots) : SlotsKept s t := ⟨fun i l hu => by rwa [State.slot, h] at hu⟩

theorem refl (s : State) : SlotsKept s s := .of_same rfl

theorem trans (h : SlotsKept s t) (g : SlotsKept t u) : SlotsKept s u := ⟨fun i l => h.used i l ∘ g.used i l⟩

theorem foldl {α : Type} {f : State → α → State} (h : ∀ s a, SlotsKept s (f s a)) (l : List α) (s : State) :
    SlotsKept s (l.foldl f s) := by
  induction l generalizing s with
  | nil => exact refl s
  | cons a l ih => exact (h s a).trans (ih (f s a))

/-- The same of a fold that carries something beside the state. -/
theorem foldl_fst {α β : Type} {f : State × β → α → State × β} (h : ∀ x a, SlotsKept x.1 (f x a).1) (l : List α)
    (x : State × β) : SlotsKept x.1 (l.foldl f x).1 := by
  induction l generalizing x with
  | nil => exact refl x.1
  | cons a l ih => exact (h x a).trans (ih (f x a))

theorem ite {c : Prop} [Decidable c] (ht : SlotsKept s t) (hu : SlotsKept s u) : SlotsKept s (if c then t else u) := by
  split
  · exact ht
  · exact hu

/-- A further change where a condition holds. -/
theorem thenIf {c : Prop} [Decidable c] (ht : SlotsKept s t) (hu : SlotsKept t u) : SlotsKept s (if c then u else t) :=
  .ite (ht.trans hu) ht

theorem ite_fst {β : Type} {c : Prop} [Decidable c] {x y : State × β} (hx : SlotsKept s x.1) (hy : SlotsKept s y.1) :
    SlotsKept s (if c then x else y).1 := by
  split
  · exact hx
  · exact hy

/-- A change of one slot that takes it for no link. -/
theorem modSlot {i : Fin 16} {f : FetchSlot → FetchSlot} (hf : ∀ l, (f (s.slot i)).usedBy l = true → (s.slot i).usedBy l = true) :
    SlotsKept s (s.modSlot i f) where
  used := fun j l hu => by
    rw [State.modSlot_slot] at hu
    split at hu
    · next hij =>
      subst hij
      exact hf l hu
    · exact hu

/-- R108: where no slot is taken, no link has more in use. -/
theorem fits (h : SlotsKept s t) (hs : s.slotsFit) : t.slotsFit := fun l => by
  have fewer : t.usedSlots l ⊆ s.usedSlots l := fun i hi => mem_usedSlots.mpr (h.used i l (mem_usedSlots.mp hi))
  have within := hs l
  rw [slotsInUse_eq] at within ⊢
  exact (Finset.card_le_card fewer).trans within

end SlotsKept

theorem PiecesKept.slotsKept {s t : State} (h : PiecesKept s t) : SlotsKept s t := .of_same h.slots

theorem EngineWork.slotsKept {s t : State} (h : EngineWork s t) : SlotsKept s t := by
  obtain ⟨_, _, _, _, _, rfl⟩ := h.only
  exact .of_same rfl

/-- The slots are spared with an entry, whichever it is. -/
theorem SparesEntry.slotsKept {k : Key} {s t : State} (h : SparesEntry k s t) : SlotsKept s t := .of_same h.slots

/-! ### Answers, notices and pending reads -/

theorem slotsKept_answerEntry (s : State) (k : Key) (x : Status) (r : Result) : SlotsKept s (s.answerEntry k x r) :=
  .of_same (answerEntry_slots s k x r)

theorem slotsKept_answerAll (s : State) (ks : List Key) (x : Status) : SlotsKept s (s.answerAll ks x) :=
  .foldl (fun s k => slotsKept_answerEntry s k x .none) ks s

theorem slotsKept_modPort (s : State) (l : Link) (f : Port → Port) : SlotsKept s (s.modPort l f) := .of_same (by simp)

theorem slotsKept_answerNow (s : State) (k : Key) (kind : Nat) (x : Status) (r : Result) : SlotsKept s (s.answerNow k kind x r) :=
  .of_same (by simp)

theorem slotsKept_raise (s : State) (l : Link) (k : Notice) (d : Nat) : SlotsKept s (s.raise l k d) := slotsKept_modPort s l _

theorem slotsKept_releaseRead (s : State) (b : Nat) : SlotsKept s (s.releaseRead b) := by
  obtain ⟨_, _, only⟩ := releaseRead_only s b
  exact .of_same (by rw [only])

/-! ### Pieces (R80 to R86, R174) -/

theorem slotsKept_movePieces (s : State) (o : Option Key) (n m : Nat) : SlotsKept s (s.movePieces o n m) := by
  obtain ⟨_, only⟩ := movePieces_only s o n m
  exact .of_same (by rw [only])

theorem slotsKept_recordOutcome (s : State) (o : Option Key) (x : Outcome) : SlotsKept s (s.recordOutcome o x) := by
  cases o <;> exact .of_same rfl

theorem slotsKept_resolvePiece (place : Piece → Stretch → Option Location) (lostOf : Inserted → List (Nat × Nat)) (asLost : Bool)
    (acc : State × Nat) (p : Piece) : SlotsKept acc.1 (resolvePiece place lostOf asLost acc p).1 := by
  have entered : ∀ acc st, SlotsKept acc.1 (applyStretch place lostOf p acc st).1 := fun _ _ =>
    (piecesKept_insertReleased _ _ _).slotsKept
  exact (SlotsKept.foldl_fst entered p.stretches (acc.1, acc.2, [])).trans (piecesKept_resolveHost _ _ _ _).slotsKept

theorem slotsKept_completeBand (s : State) (b : Nat) (failed : Bool) : SlotsKept s (s.completeBand b failed) := .of_same rfl

theorem slotsKept_writeDone (s : State) (w : WriteOrder) : SlotsKept s (s.writeDone w) := by
  unfold State.writeDone
  rw [enterPiece_eq]
  exact (SlotsKept.foldl_fst (slotsKept_resolvePiece _ _ false) w.pieces (s, w.records)).trans (slotsKept_completeBand _ _ _)

theorem slotsKept_losePiece (acc : State × Nat) (p : Piece) : SlotsKept acc.1 (losePiece acc p).1 := by
  rw [losePiece_eq]
  exact slotsKept_resolvePiece _ _ _ acc p

theorem slotsKept_failPiece (acc : State × Nat × List Fragment) (p : Piece) : SlotsKept acc.1 (failPiece acc p).1 := by
  unfold failPiece
  dsimp only
  split
  · exact .refl _
  · split
    · exact .refl _
    · exact slotsKept_losePiece (acc.1, acc.2.1) _

theorem slotsKept_orphanPiece (acc : State × Nat) (p : Piece) : SlotsKept acc.1 (orphanPiece acc p).1 := by
  unfold orphanPiece
  refine .ite_fst (.refl _) (.ite_fst (.refl _) (.ite_fst (slotsKept_losePiece acc p) ?_))
  exact (slotsKept_recordOutcome _ _ _).trans (slotsKept_movePieces _ _ _ _)

theorem slotsKept_writeFailed (s : State) (w : WriteOrder) : SlotsKept s (s.writeFailed w) := by
  unfold State.writeFailed
  refine SlotsKept.trans ?_ (slotsKept_completeBand _ _ _)
  split
  · exact .foldl_fst slotsKept_orphanPiece w.pieces (s, w.records)
  · exact (SlotsKept.foldl_fst slotsKept_failPiece w.pieces (s, w.records, [])).trans (.of_same (by rfl))

theorem slotsKept_applyTrim (s : State) (a b : Nat) : SlotsKept s (s.applyTrim a b) := by
  have cut : ∀ (t : State) f g m, SlotsKept t (((t.mapQueues f).mapWrites g).setMap m) := fun _ _ _ _ => .of_same (by simp)
  have cleared : ∀ t : State, SlotsKept t t.clearPoolStalls := fun _ => .of_same (by simp)
  have measured : ∀ t : State, SlotsKept t (t.noteFalls s) := fun _ => .of_same (by simp)
  have moved := (SlotsKept.foldl (fun t (r : Fragment) => slotsKept_movePieces t r.origin 1 (Fragment.trim a b r).length)
    s.allRecords s).trans (SlotsKept.foldl
      (fun t (p : Piece) => slotsKept_movePieces t p.origin p.stretches.length (p.trim a b).stretches.length) s.allPieces _)
  unfold State.applyTrim
  exact .ite ((SlotsKept.thenIf (moved.trans (cut _ _ _ _)) (cleared _)).trans (measured _)) (.refl s)

/-! ### The Relocation Engine (chapter 7) -/

theorem slotsKept_endRun (s : State) (x : Status) : SlotsKept s (s.endRun x) := (engineWork_endRun s x).slotsKept

theorem slotsKept_releaseEmptied (s : State) : SlotsKept s s.releaseEmptied := (engineWork_releaseEmptied s).slotsKept

theorem slotsKept_abandonVictim (s : State) : SlotsKept s s.abandonVictim := by
  unfold State.abandonVictim
  split
  · exact .refl s
  · next b _ =>
    have back : SlotsKept s { s.modBand b fun r => { r.uncleaned with suspect := true } with
        engine := { s.engine with victim := none, cursor := none, hand := none, deferred := some b } } := .of_same rfl
    exact back.trans (.ite (slotsKept_endRun _ _) (engineWork_continueRun _).slotsKept)

theorem slotsKept_grantReloc (s : State) : SlotsKept s s.grantReloc.1 := by
  have claimed : ∀ b o h, SlotsKept s (((s.claimRead b).issue o).setHand h) := fun _ _ _ => .of_same (by simp)
  unfold State.grantReloc
  split
  · exact .ite_fst (.of_same (by rfl)) (.ite_fst (.of_same (by rfl)) (claimed _ _ _))
  · exact .refl s

theorem slotsKept_relocRead (s : State) (r : ReadOrder) (read : Nat → Bool) : SlotsKept s (s.relocRead r read) := by
  refine (slotsKept_releaseRead s r.band).trans ?_
  unfold State.relocRead
  dsimp only
  split
  · exact .refl _
  · exact .of_same rfl

theorem slotsKept_relocTimedOut (s : State) (r : ReadOrder) : SlotsKept s (s.relocTimedOut r) :=
  (slotsKept_releaseRead s r.band).trans
    (.ite (.of_same (by rfl)) (.ite (engineWork_releaseBand _ _).slotsKept (slotsKept_abandonVictim _)))

theorem slotsKept_selectVictim (s : State) : SlotsKept s s.selectVictim := by
  unfold State.selectVictim
  split
  · split
    · exact slotsKept_endRun s .ok
    · exact .of_same rfl
  · exact .refl s

theorem slotsKept_makeRecords (s : State) : SlotsKept s s.makeRecords := by
  unfold State.makeRecords
  split
  · exact .ite (.ite (.of_same (by simp)) (.refl s)) (.refl s)
  · exact .refl s

/-! ### Spindle Control (chapter 8) -/

theorem slotsKept_release (s : State) : SlotsKept s s.release := .of_same (release_slots s)

/-- A change of Spindle Control's own state. -/
theorem slotsKept_spindle (s : State) (x : Spindle) : SlotsKept s { s with spindle := x } := .of_same rfl

theorem slotsKept_returnSpinning (s : State) (x : Status) : SlotsKept s (s.returnSpinning x) := by
  obtain ⟨_, _, _, only⟩ := returnSpinning_only s x
  exact .of_same (by rw [only])

theorem slotsKept_comeToRest (s : State) : SlotsKept s s.comeToRest := by
  unfold State.comeToRest
  dsimp only
  cases s.spindle.quiesce with
  | none => exact .thenIf (slotsKept_spindle s _) (slotsKept_spindle _ _)
  | some k => exact .thenIf ((slotsKept_spindle s _).trans (slotsKept_answerEntry _ _ _ _)) (slotsKept_spindle _ _)

theorem slotsKept_spunUp (s : State) : SlotsKept s s.spunUp := by
  have answered : SlotsKept s (State.answerAll { s with spindle := Spindle.turning } s.spindle.wakes .ok) :=
    (slotsKept_spindle s _).trans (slotsKept_answerAll _ _ _)
  have woken := SlotsKept.thenIf (c := (State.answerAll { s with spindle := Spindle.turning } s.spindle.wakes .ok).service = .inService)
    answered (engineWork_raiseBoth _ .wake 0).slotsKept
  unfold State.spunUp
  dsimp only
  split
  · exact woken.trans (.of_same (by rfl))
  · exact woken

theorem slotsKept_motionTimedOut (s : State) (m : Motion) : SlotsKept s (s.motionTimedOut m) :=
  .ite (.ite (slotsKept_spindle s _) (.refl s)) (slotsKept_returnSpinning s _)

theorem slotsKept_spindleDown (s : State) : SlotsKept s s.spindleDown := by
  obtain ⟨_, _, _, _, only, _⟩ := spindleDown_only s
  exact .of_same (by rw [only])

/-! ### The Fetch Unit (chapter 6) -/

/-- Settling sectors of a slot takes none. -/
theorem slotsKept_settleSectors (s : State) (i : Fin 16) (offsets : List Nat) (x : SectorStatus) :
    SlotsKept s (s.modSlot i (FetchSlot.settle offsets x)) := .modSlot fun _ => id

theorem slotsKept_failRead (s : State) (f : FetchRead) (left : List (Nat × Nat)) : SlotsKept s (s.failRead f left) :=
  ((slotsKept_settleSectors s _ _ _).trans (.of_same (by rfl))).trans (slotsKept_releaseRead _ _)

theorem slotsKept_fetchCompleted (s : State) (f : FetchRead) (read : Nat → Bool) : SlotsKept s (s.fetchCompleted f read) := by
  unfold State.fetchCompleted
  refine .ite (.ite ((slotsKept_settleSectors s _ _ _).trans (slotsKept_releaseRead _ _)) ?_) (slotsKept_releaseRead _ _)
  split
  · exact (slotsKept_settleSectors s _ _ _).trans (.of_same (by rfl))
  · exact (slotsKept_settleSectors s _ _ _).trans (slotsKept_failRead _ _ _)

theorem slotsKept_downRead (s : State) (f : FetchRead) : SlotsKept s (s.downRead f) :=
  (SlotsKept.ite (.modSlot (by exact fun _ => id)) (.refl s)).trans (slotsKept_releaseRead _ _)

theorem slotsKept_fetchTimedOut (s : State) (f : FetchRead) (down : Bool) : SlotsKept s (s.fetchTimedOut f down) :=
  .ite (slotsKept_releaseRead _ _) (.ite (slotsKept_failRead _ _ _) (.ite (slotsKept_downRead _ _) (.of_same (by rfl))))

theorem slotsKept_fetchDown (s : State) : SlotsKept s s.fetchDown :=
  (.of_same rfl : SlotsKept s { s with fetchList := [] }).trans (.foldl slotsKept_downRead _ _)

theorem slotsKept_fetchDelivered (s : State) (f : FetchRead) (position : Nat) (data : Sector) :
    SlotsKept s (s.fetchDelivered f position data) := .ite (.modSlot (by exact fun _ => id)) (.refl s)

theorem releaseReads_slots (reads : List FetchRead) (s : State) : (reads.foldl (fun s r => s.releaseRead r.band) s).slots = s.slots :=
  slots_foldl (fun s r => by
    obtain ⟨_, _, only⟩ := releaseRead_only s r.band
    rw [only]) reads s

/-- R121: an ACTIVE slot that becomes ENDING stays in use for its Get's link. -/
theorem slotsKept_cancelSlot (s : State) (i : Fin 16) : SlotsKept s (s.cancelSlot i) := by
  unfold State.cancelSlot
  dsimp only
  split
  · next active =>
    have taken : ∀ l, ((s.slot i).key.origin == l) = true → (s.slot i).usedBy l = true := fun l hl => by
      rw [FetchSlot.isActive, beq_iff_eq] at active
      simpa [FetchSlot.usedBy, active] using hl
    have released := releaseReads_slots (s.fetchList.filter fun r => r.slot == i)
      { s with fetchList := s.fetchList.filter fun r => r.slot != i }
    refine SlotsKept.trans (.of_same released) (.modSlot fun l hl => ?_)
    rw [State.slot, released] at hl ⊢
    exact taken l hl
  · exact .refl s

theorem FetchSlot.empty_usedBy (l : Link) : FetchSlot.empty.usedBy l = false := by cases l <;> rfl

/-- A slot made FREE is in use for no link. -/
theorem slotsKept_freed (s : State) (i : Fin 16) : SlotsKept s (s.modSlot i fun _ => FetchSlot.empty) :=
  .modSlot fun l hl => by simp [FetchSlot.empty_usedBy] at hl

theorem slotsKept_framesSent (s : State) (i : Fin 16) (e : ReqEntry) : SlotsKept s (s.framesSent i e) := slotsKept_modPort s _ _

theorem slotsKept_deliverSlot (s : State) (i : Fin 16) : SlotsKept s (s.deliverSlot i) := by
  obtain ⟨same, _⟩ | ⟨e, _, _, last | part⟩ := deliverSlot_cases s i
  · rw [same]
    exact .refl s
  · rw [last]
    exact ((slotsKept_framesSent s i e).trans (slotsKept_answerEntry _ _ _ _)).trans (slotsKept_freed _ i)
  · rw [part]
    exact (slotsKept_framesSent s i e).trans (.modSlot fun _ => id)

theorem slotsKept_deliver (s : State) : SlotsKept s s.deliver :=
  (SlotsKept.foldl slotsKept_deliverSlot allQueues s).trans (.of_same (deliverPatterns_slots _ _))

theorem slotsKept_freeEnded (s : State) : SlotsKept s s.freeEnded where
  used := fun i l hu => by
    rw [State.freeEnded, State.mapSlots_slot] at hu
    split at hu
    · simp [FetchSlot.empty_usedBy] at hu
    · exact hu

/-! ### Placement (chapter 4) -/

theorem slotsKept_issueWrite (s : State) (q : Fin 16) (b : Nat) (r : Band) (built : Build) (emergency : Bool) :
    SlotsKept s (s.issueWrite q b r built emergency) := by
  unfold State.issueWrite
  dsimp only
  exact (slotsKept_movePieces s (built.split.bind (·.origin)) 1 2).trans (.of_same (by simp))

theorem slotsKept_serveBand (s : State) (q : Fin 16) (b : Nat) (emergency : Bool) : SlotsKept s (s.serveBand q b emergency).1 := by
  unfold State.serveBand
  split
  · exact .refl s
  · dsimp only
    split
    · exact .of_same rfl
    · exact slotsKept_issueWrite s q b _ _ emergency

theorem slotsKept_serveQueue (s : State) (q : Fin 16) (emergency : Bool) : SlotsKept s (s.serveQueue q emergency).1 := by
  unfold State.serveQueue
  split
  · exact slotsKept_serveBand s q _ emergency
  · split
    · exact .refl s
    · next b _ =>
      have opened : SlotsKept s (s.modBand b (Band.open_ q)) := .of_same rfl
      exact .ite_fst (opened.trans (slotsKept_serveBand _ q b emergency)) opened

theorem slotsKept_placementLoop (emergency : Bool) (n : Nat) (tried : List (Fin 16)) (last : Fin 16) (s : State) :
    SlotsKept s (placementLoop emergency n tried last s).1 := by
  induction n generalizing tried last s with
  | zero => exact .refl s
  | succ n ih =>
    unfold placementLoop
    split
    · exact .refl s
    · next q _ =>
      have served := slotsKept_serveQueue s q emergency
      exact .ite_fst served (served.trans (ih _ _ _))

end Sys2Proof.Machine

namespace Sys2Proof.Machine

/-! PROOFS. No other operation takes a fetch slot for a link: start-up, the Media Port, the Puts and resets, the links, and the requests
beside a Get (used for O9). -/

/-! ### Start-up (R176 to R179) -/

theorem slotsKept_enterService (s : State) : SlotsKept s s.enterService := by
  obtain ⟨t, work, entered⟩ := enterService_only s
  rw [entered]
  exact work.slotsKept.trans (.of_same (by rfl))

theorem slotsKept_nextFooter (s : State) : SlotsKept s s.nextFooter := by
  unfold State.nextFooter
  split
  · exact slotsKept_enterService s
  · exact .of_same rfl

theorem slotsKept_insertFooterPiece (band base : Nat) (s : State) (p : FooterPiece) :
    SlotsKept s (s.insertFooterPiece band base p) :=
  SlotsKept.trans (.of_same (by rfl)) (insertFooterPiece_work band base s p).1.slotsKept

theorem slotsKept_footerRead (s : State) (band track : Nat) (footer : Option Sector) :
    SlotsKept s (s.footerRead band track footer) := by
  have read : ∀ (t : State) f, SlotsKept t (t.modBand band f) := fun _ _ => .of_same rfl
  unfold State.footerRead
  refine SlotsKept.trans ?_ (slotsKept_nextFooter _)
  split
  · exact (SlotsKept.foldl (slotsKept_insertFooterPiece _ _) _ s).trans (read _ _)
  · exact read s _

theorem slotsKept_beginStartUp (s : State) : SlotsKept s s.beginStartUp := by
  have recalled : SlotsKept s s.readMapMemory := .ite (.of_same (by rfl)) (.of_same (by rfl))
  exact .ite (recalled.trans (.of_same (by rfl))) (.refl s)

/-! ### The Media Port (chapter 5) -/

theorem slotsKept_geometryLost (s : State) (x : Status) (g : GeoOrder) : SlotsKept s (s.geometryLost x g) := by
  obtain ⟨_, _, _, _, only⟩ := geometryLost_only s x g
  exact .of_same (by rw [only])

theorem slotsKept_failOrder (s : State) (down : Bool) (o : Order) : SlotsKept s (s.failOrder down o) := by
  cases o with
  | write w => exact slotsKept_writeFailed s w
  | read r =>
    unfold State.failOrder
    dsimp only
    split
    · exact slotsKept_fetchTimedOut s _ down
    · exact .ite (slotsKept_releaseRead s _) (slotsKept_relocTimedOut s r)
    · exact .ite (.of_same (by rfl)) (slotsKept_footerRead s _ _ _)
  | geometry g => exact slotsKept_geometryLost s _ g
  | motion m => exact slotsKept_motionTimedOut s m

theorem slotsKept_failOrders (down : Bool) (os : List Order) (s : State) : SlotsKept s (failOrders down os s) := by
  induction os generalizing s with
  | nil => exact .refl s
  | cons o rest ih =>
    have left : SlotsKept s { s with window := rest } := .of_same rfl
    have counted : ∀ t : State, SlotsKept t t.orderLeft := fun _ => .of_same rfl
    rw [failOrders_cons]
    exact ((left.trans (slotsKept_failOrder _ down o)).trans (counted _)).trans (ih _)

theorem slotsKept_withdrawAll (s : State) : SlotsKept s s.withdrawAll := by
  have fetches : SlotsKept s (State.fetchDown { s with geometry := [] }) :=
    (.of_same rfl : SlotsKept s { s with geometry := [] }).trans (slotsKept_fetchDown _)
  have ended : SlotsKept s.withdrawn s.withdrawn.downEnds := by
    obtain ⟨_, _, _, only⟩ := downEnds_only s.withdrawn
    exact .of_same (by rw [only])
  rw [withdrawAll_eq]
  exact ((fetches.trans (.foldl (fun s g => slotsKept_geometryLost s .mediaDown g) _ _)).trans (slotsKept_spindleDown _)).trans ended

theorem slotsKept_enterDown (s : State) : SlotsKept s s.enterDown := by
  have down : SlotsKept s { s with path := .down } := .of_same rfl
  exact .thenIf ((down.trans (slotsKept_failOrders true s.window _)).trans (slotsKept_withdrawAll _)) (slotsKept_enterService _)

theorem slotsKept_enterRecovering (s : State) : SlotsKept s s.enterRecovering := by
  have recovering : SlotsKept s { s with path := .recovering } := .of_same rfl
  exact .thenIf ((recovering.trans (slotsKept_failOrders false s.window _)).trans (.of_same (by rfl))) (slotsKept_enterDown _)

theorem slotsKept_mediaFault (s : State) : SlotsKept s s.mediaFault :=
  .ite (.ite (slotsKept_enterDown s) (slotsKept_enterRecovering s)) (.refl s)

theorem slotsKept_motionCompleted (s : State) (m : Motion) (done : Bool) : SlotsKept s (s.motionCompleted m done) := by
  unfold State.motionCompleted
  split
  · exact slotsKept_spunUp s
  · exact slotsKept_comeToRest s
  · exact slotsKept_returnSpinning s _
  · exact .ite ((slotsKept_spindle s _).trans (slotsKept_enterRecovering _)) (slotsKept_enterDown s)

theorem slotsKept_geometryCompleted (s : State) (g : GeoOrder) (done : Bool) : SlotsKept s (s.geometryCompleted g done) := by
  have profiled : ∀ f, SlotsKept s (s.modProfile g.profile f) := fun _ => .of_same (by simp)
  unfold State.geometryCompleted
  split
  · exact (profiled _).trans (slotsKept_answerEntry _ _ _ _)
  · exact slotsKept_geometryLost s _ g
  · exact .of_same rfl
  · exact slotsKept_enterDown s

theorem slotsKept_readCompleted (s : State) (r : ReadOrder) (c : Completion) : SlotsKept s (s.readCompleted r c) := by
  unfold State.readCompleted
  split
  · exact slotsKept_fetchCompleted s _ _
  · exact .ite (slotsKept_releaseRead s _) (slotsKept_relocRead s r _)
  · exact slotsKept_footerRead s _ _ _

theorem slotsKept_orderCompleted (s : State) (c : Completion) (o : Order) : SlotsKept s (s.orderCompleted c o) := by
  cases o with
  | write w => exact .ite (slotsKept_writeDone s w) (slotsKept_writeFailed s w)
  | read r => exact slotsKept_readCompleted s r c
  | geometry g => exact slotsKept_geometryCompleted s g _
  | motion m => exact slotsKept_motionCompleted s m _

theorem slotsKept_takeCompletion (s : State) (kind : Nat) (c : Completion) : SlotsKept s (s.takeCompletion kind c) := by
  have left : ∀ rest, SlotsKept s (State.startDeadline { s with window := rest }).orderLeft := fun _ => .of_same rfl
  unfold State.takeCompletion
  refine .ite (.refl s) ?_
  split
  · exact slotsKept_mediaFault s
  · exact .ite ((left _).trans (slotsKept_orderCompleted _ c _)) (slotsKept_mediaFault s)

theorem slotsKept_landSector (s : State) (r : ReadOrder) (sector : Nat) (data : Sector) :
    SlotsKept s (s.landSector r sector data) := by
  unfold State.landSector
  split
  · exact slotsKept_fetchDelivered s _ _ _
  · exact .ite (.refl s) (.of_same (by rfl))
  · split
    · exact .of_same rfl
    · exact .refl s

theorem slotsKept_takeSector (s : State) (sector : Nat) (data : Sector) (check : BitVec 32) :
    SlotsKept s (s.takeSector sector data check) := by
  have landed : ∀ os, SlotsKept s { s with window := os } := fun _ => .of_same rfl
  unfold State.takeSector
  refine .ite (.refl s) ?_
  split
  · exact .ite ((landed _).trans (slotsKept_landSector _ _ _ _)) (slotsKept_mediaFault s)
  · exact slotsKept_mediaFault s

theorem slotsKept_sequencerReady (s : State) : SlotsKept s s.sequencerReady := by
  have ready : SlotsKept s { s with path := .ready, startWait := false } := .of_same rfl
  have recovered : ∀ g x, SlotsKept s { s with
      path := .ready, recoveryWait := false, escalation := true, stage := x, geometry := g } := fun _ _ => .of_same rfl
  unfold State.sequencerReady
  split
  · exact .ite (.refl s) (.ite (ready.trans (.of_same (by rfl))) ready)
  · exact (recovered _ _).trans (slotsKept_answerAll _ _ _)
  · exact .refl s
  · exact .refl s

theorem slotsKept_orTry {s : State} {r : State × Bool} {f : State → State × Bool} (hr : SlotsKept s r.1)
    (hf : ∀ t, SlotsKept t (f t).1) : SlotsKept s (orTry r f).1 := .ite_fst hr (hr.trans (hf _))

theorem slotsKept_grantFetch (emergency candidate : Bool) (s : State) : SlotsKept s (State.grantFetch emergency candidate s).1 := by
  have ran : ∀ t : State, SlotsKept t (t.ranFetch emergency candidate) := fun t => .ite (.refl t) (.of_same (by rfl))
  have issued : ∀ x rs o, SlotsKept s (State.issue { s with stage := x, fetchList := rs } o) := fun _ _ _ => .of_same (by simp)
  unfold State.grantFetch
  split
  · exact (issued _ _ _).trans (ran _)
  · split
    · exact .refl s
    · exact (issued _ _ _).trans (ran _)

theorem slotsKept_grantRelocRead (s : State) : SlotsKept s s.grantRelocRead.1 := .ite_fst (slotsKept_grantReloc s) (.refl s)

theorem slotsKept_grantWrite (stands : Bool) (s : State) : SlotsKept s (State.grantWrite stands s).1 :=
  .ite_fst (slotsKept_placementLoop _ _ _ _ s) (.refl s)

theorem slotsKept_grantTransfer (s : State) : SlotsKept s s.grantTransfer.1 := by
  unfold State.grantTransfer
  refine .ite_fst ?_ (.ite_fst ?_ ?_)
  · exact slotsKept_orTry (slotsKept_orTry (slotsKept_orTry (slotsKept_grantRelocRead s) (slotsKept_grantWrite _))
      (slotsKept_grantFetch _ _)) (slotsKept_grantWrite _)
  · exact slotsKept_orTry (slotsKept_orTry (slotsKept_grantWrite _ s) (slotsKept_grantFetch _ _)) slotsKept_grantRelocRead
  · exact slotsKept_orTry (slotsKept_orTry (slotsKept_grantFetch _ _ s) (slotsKept_grantWrite _)) slotsKept_grantRelocRead

theorem slotsKept_grantMedia (s : State) : SlotsKept s s.grantMedia := by
  have moved : ∀ x g o, SlotsKept s (State.issue { s with spindle := x, geometry := g } o) := fun _ _ _ => .of_same (by simp)
  unfold State.grantMedia
  refine .ite (.refl s) ?_
  split
  · exact .ite (moved _ _ _) (.refl s)
  · split
    · exact moved _ _ _
    · exact .ite (slotsKept_grantTransfer s) (.refl s)

/-! ### Puts and resets (R52, R53, R171 to R175) -/

theorem slotsKept_answerPuts (s : State) : SlotsKept s s.answerPuts := .of_same (slots_foldl answerPutEntry_slots _ s)

theorem slotsKept_resetPuts (s : State) : SlotsKept s s.resetPuts :=
  ((sparesEntry_convertRecords (k := ⟨.a, 0⟩) s).slotsKept.trans (slotsKept_releaseEmptied _)).trans (.of_same (by rfl))

theorem slotsKept_abortSlot (s : State) (i : Fin 16) : SlotsKept s (s.abortSlot i) :=
  .ite ((slotsKept_answerEntry s _ _ _).trans (slotsKept_cancelSlot _ i)) (.refl s)

theorem slotsKept_resetAnswers (flushes : List Key) (s : State) : SlotsKept s (s.resetAnswers flushes) :=
  (SlotsKept.foldl slotsKept_abortSlot allQueues s).trans
    (((slotsKept_answerAll _ _ _).trans (slotsKept_answerAll _ _ _)).trans (slotsKept_answerPuts _))

theorem slotsKept_performReset (s : State) (one : Bool) : SlotsKept s (s.performReset one) := by
  have defaults : ∀ t : State, SlotsKept t t.defaults := fun t => by
    unfold State.defaults
    exact .of_same rfl
  have worked : SlotsKept s s.resetWork :=
    ((slotsKept_resetPuts s).trans (sparesEntry_resetQueues (k := ⟨.a, 0⟩) _).slotsKept).trans (slotsKept_resetAnswers _ _)
  rw [performReset_eq]
  exact (SlotsKept.thenIf worked (defaults _)).trans (.of_same (by rfl))

/-! ### Link failures (R151 to R156) -/

theorem slotsKept_failPart (s : State) (l : Link) : SlotsKept s (s.failPart l) := by
  have owed : SlotsKept s (s.discardOwed l) := .of_same rfl
  exact .ite owed (owed.trans (slotsKept_performReset _ false))

theorem slotsKept_failPaired (s : State) (l : Link) (x : LinkState) (frames : List OutFrame) :
    SlotsKept s (s.failPaired l x frames) := by
  obtain ⟨_, _, _, _, only⟩ := failPaired_only s l x frames
  exact .of_same (by rw [only])

theorem slotsKept_abandonPuts (s : State) (l : Link) : SlotsKept s (s.abandonPuts l) :=
  .foldl (fun s k => by
    obtain ⟨_, _, only⟩ := abandonPut_only (s := s) (k := k)
    exact .of_same (by rw [only])) _ s

theorem slotsKept_dropGet (s : State) (i : Fin 16) : SlotsKept s (s.dropGet i) :=
  .ite ((slotsKept_cancelSlot s i).trans (.of_same (by rfl))) (.refl s)

theorem slotsKept_failUnpaired (s : State) (l : Link) : SlotsKept s (s.failUnpaired l) :=
  ((.of_same rfl : SlotsKept s (s.discardOwed l)).trans (slotsKept_abandonPuts _ l)).trans (.foldl slotsKept_dropGet _ _)

theorem slotsKept_linkFails (s : State) (l : Link) (x : LinkState) : SlotsKept s (s.linkFails l x) :=
  (slotsKept_modPort s l _).trans
    (.ite (.refl _) (.ite (slotsKept_failPart _ l) (.ite (slotsKept_failPaired _ l x _) (slotsKept_failUnpaired _ l))))

/-! ### Units received and sent (R147 to R152, R167) -/

theorem slotsKept_unitArrives (s : State) (l : Link) : SlotsKept s (s.unitArrives l) :=
  .ite ((slotsKept_modPort s l _).trans (slotsKept_raise _ _ _ _)) (.refl s)

theorem slotsKept_creditArrives (s : State) (l : Link) : SlotsKept s (s.creditArrives l) :=
  (slotsKept_unitArrives s l).trans (.ite (.ite (slotsKept_linkFails _ l _) (slotsKept_modPort _ l _)) (.refl _))

theorem slotsKept_frameArrives (s : State) (l : Link) (good : Bool) (f : InFrame) : SlotsKept s (s.frameArrives l good f) :=
  (slotsKept_unitArrives s l).trans (.ite (.ite (slotsKept_linkFails _ l _) (slotsKept_modPort _ l _)) (.refl _))

theorem slotsKept_holdLink (s : State) (l : Link) : SlotsKept s (s.holdLink l) := by
  unfold State.holdLink
  split
  · exact slotsKept_linkFails s l _
  · exact slotsKept_modPort s l _
  · exact slotsKept_modPort s l _
  · exact .refl s

theorem slotsKept_frameGone (s : State) (l : Link) : SlotsKept s (s.frameGone l) := by
  have released : ∀ (t : State) (f : OutFrame), SlotsKept t (t.frameReleases l f) := fun t f => by
    unfold State.frameReleases
    split
    · exact .of_same (by simp)
    · exact .of_same (by simp)
    · exact .of_same rfl
    · exact .refl t
    · exact .refl t
  unfold State.frameGone
  split
  · exact (slotsKept_modPort s l _).trans (released _ _)
  · exact .refl s

/-! ### Requests, by kind -/

theorem slotsKept_enterTable (s : State) (k : Key) (i : EntryInfo) : SlotsKept s (s.enterTable k i) := .of_same (by simp)

theorem slotsKept_answerIf (s : State) (k : Key) (kind : Nat) (ok : Bool) (x : Status) {effect : State → State}
    (h : SlotsKept s (effect s)) : SlotsKept s (s.answerIf k kind ok x effect) :=
  .ite (h.trans (slotsKept_answerNow _ _ _ _ _)) (slotsKept_answerNow s _ _ _ _)

theorem slotsKept_answerQuery (s : State) (k : Key) (r : Except Status (List Field)) : SlotsKept s (s.answerQuery k r) := by
  cases r <;> exact slotsKept_answerNow s _ _ _ _

theorem slotsKept_countedQuery (s : State) (k : Key) (r : Except Status (List Field)) : SlotsKept s (s.answerQuery k r).countRead :=
  (slotsKept_answerQuery s k r).trans (.of_same (by rfl))

theorem slotsKept_takePut (lsa count durability : Nat) (k : Key) (s : State) :
    SlotsKept s (State.takePut lsa count durability k s) := by
  have admitted : ∀ q, SlotsKept s (s.admitPut k q lsa count durability) := fun q => by
    have falls : ∀ t : State, SlotsKept t (t.noteFalls s) := fun _ => .of_same (by simp)
    have entered : ∀ qs n i, SlotsKept s (State.enterTable { s with queues := qs, sequence := n } k i) := fun _ _ _ => .of_same (by simp)
    exact (SlotsKept.thenIf (entered _ _ _) (slotsKept_raise _ _ _ _)).trans (falls _)
  unfold State.takePut
  split
  · exact slotsKept_answerNow s _ _ _ _
  · dsimp only
    split
    · exact slotsKept_answerNow s _ _ _ _
    · exact admitted _

theorem slotsKept_takeData (s : State) (l : Link) (f : DataFrame) : SlotsKept s (s.takeData l f) := by
  have accepted : ∀ k p data, SlotsKept s (s.acceptData k p data) := fun _ _ _ => .of_same rfl
  unfold State.takeData
  split
  · exact .ite (accepted _ _ _) (.refl s)
  · exact .refl s

theorem slotsKept_takePatternGet (lsa count : Nat) (k : Key) (s : State) : SlotsKept s (s.takePatternGet k lsa count) :=
  .ite (slotsKept_answerNow s _ _ _ _) (.ite (slotsKept_answerNow s _ _ _ _) (slotsKept_enterTable s _ _))

theorem slotsKept_takeTrim (lsa count : Nat) (k : Key) (s : State) : SlotsKept s (State.takeTrim lsa count k s) := by
  have counted : SlotsKept s { s with sequence := s.sequence + 1 } := .of_same rfl
  unfold State.takeTrim
  split
  · exact slotsKept_answerNow s _ _ _ _
  · exact (counted.trans (slotsKept_applyTrim _ _ _)).trans (slotsKept_answerNow _ _ _ _ _)

theorem slotsKept_takeFlush (queue : Nat) (k : Key) (s : State) : SlotsKept s (State.takeFlush queue k s) := by
  have marked : ∀ (qs : List (Fin 16)) (t : State), SlotsKept t (qs.foldl (State.setMark k) t) := fun qs t => by
    obtain ⟨_, _, _, only⟩ := setMarks_only (k := k) qs t
    exact .of_same (by rw [only])
  unfold State.takeFlush
  refine .ite (slotsKept_answerNow s _ _ _ _) ?_
  split
  · exact slotsKept_answerNow s _ _ _ _
  · exact .ite (slotsKept_answerNow s _ _ _ _) ((slotsKept_enterTable s _ _).trans (marked _ _))

theorem slotsKept_takeSelect (queue : Nat) (k : Key) (s : State) : SlotsKept s (State.takeSelect queue k s) := by
  unfold State.takeSelect
  split
  · exact (slotsKept_modPort s _ _).trans (slotsKept_answerNow _ _ _ _ _)
  · exact .ite ((slotsKept_modPort s _ _).trans (slotsKept_answerNow _ _ _ _ _)) (slotsKept_answerNow s _ _ _ _)

theorem slotsKept_takeClean (band : Nat) (k : Key) (s : State) : SlotsKept s (State.takeClean band k s) := by
  unfold State.takeClean
  split
  · exact slotsKept_answerNow s _ _ _ _
  · exact SlotsKept.trans (.of_same (by rfl)) (slotsKept_enterTable _ _ _)

theorem slotsKept_takeDivision (depths : List Nat) (k : Key) (s : State) : SlotsKept s (State.takeDivision depths k s) := by
  have divided : ∀ f g, SlotsKept s ((s.mapQueues f).mapBands g) := fun _ _ => .of_same (by simp)
  exact .ite (slotsKept_answerNow s _ _ _ _) (slotsKept_answerIf s _ _ _ _ (divided _ _))

theorem slotsKept_takeThresholds (v : Option (Nat × Nat × Nat)) (k : Key) (s : State) :
    SlotsKept s (State.takeThresholds v k s) := by
  unfold State.takeThresholds
  split
  · exact slotsKept_answerNow s _ _ _ _
  · split
    · exact slotsKept_answerIf s _ _ _ _ (.of_same (by rfl))
    · exact slotsKept_answerNow s _ _ _ _

theorem slotsKept_takeIntervals (v : Option (Nat × List Interval)) (k : Key) (s : State) :
    SlotsKept s (State.takeIntervals v k s) := by
  unfold State.takeIntervals
  split
  · exact slotsKept_answerNow s _ _ _ _
  · split
    · exact slotsKept_answerIf s _ _ _ _ (.of_same (by rfl))
    · exact slotsKept_answerNow s _ _ _ _

theorem slotsKept_takeMarks (v : Option (Nat × Nat × Nat)) (k : Key) (s : State) : SlotsKept s (State.takeMarks v k s) := by
  unfold State.takeMarks
  split
  · exact slotsKept_answerNow s _ _ _ _
  · exact slotsKept_answerIf s _ _ _ _ (.of_same (by rfl))

theorem slotsKept_takeLinkMode (v : Option Nat) (k : Key) (s : State) : SlotsKept s (State.takeLinkMode v k s) := by
  refine .ite (slotsKept_answerNow s _ _ _ _) ?_
  split
  · exact slotsKept_answerNow s _ _ _ _
  · exact slotsKept_answerIf s _ _ _ _ (slotsKept_modPort s _ _)

theorem slotsKept_takeScope (v : Option (Nat × Nat)) (k : Key) (s : State) : SlotsKept s (State.takeScope v k s) := by
  unfold State.takeScope
  split
  · exact slotsKept_answerNow s _ _ _ _
  · exact slotsKept_answerIf s _ _ _ _ (.of_same (by rfl))

theorem slotsKept_takeKinds (v : Option (Nat × Nat)) (effect : List Notice → Port → Port) (k : Key) (s : State) :
    SlotsKept s (State.takeKinds v k effect s) := by
  unfold State.takeKinds
  split
  · exact slotsKept_answerNow s _ _ _ _
  · split
    · exact slotsKept_answerNow s _ _ _ _
    · exact slotsKept_answerIf s _ _ _ _ (slotsKept_modPort s _ _)

theorem slotsKept_takeOrderLimit (v : Option Nat) (k : Key) (s : State) : SlotsKept s (State.takeOrderLimit v k s) := by
  unfold State.takeOrderLimit
  split
  · exact slotsKept_answerNow s _ _ _ _
  · exact slotsKept_answerIf s _ _ _ _ (.of_same (by rfl))

theorem slotsKept_takeLoad (profile sectors tracks verify : Nat) (k : Key) (s : State) :
    SlotsKept s (State.takeLoad profile sectors tracks verify k s) := by
  unfold State.takeLoad
  split
  · exact slotsKept_answerNow s _ _ _ _
  · exact .of_same (by simp)

theorem slotsKept_takeFormat (logical bands : Nat) (ranges : List LayoutRange) (k : Key) (s : State) :
    SlotsKept s (State.takeFormat logical bands ranges k s) := by
  unfold State.takeFormat
  dsimp only
  split
  · exact slotsKept_answerNow s _ _ _ _
  · exact SlotsKept.trans (.of_same (by rfl)) (slotsKept_enterTable _ _ _)

theorem slotsKept_takeQuiesce (target release interval : Nat) (k : Key) (s : State) :
    SlotsKept s (State.takeQuiesce target release interval k s) := by
  unfold State.takeQuiesce
  split
  · exact slotsKept_answerNow s _ _ _ _
  · exact (slotsKept_spindle s _).trans (slotsKept_enterTable _ _ _)

theorem slotsKept_takeWake (k : Key) (s : State) : SlotsKept s (State.takeWake k s) := by
  have answered : ∀ x, SlotsKept s (s.answerNow k 12 x .none) := fun _ => slotsKept_answerNow s _ _ _ _
  exact .ite (answered _) (.ite (answered _) (.ite (answered _)
    (((slotsKept_spindle s _).trans (slotsKept_enterTable _ _ _)).trans (slotsKept_release _))))

theorem slotsKept_takeReset (s : State) (k : Key) (level : Nat) : SlotsKept s (s.takeReset k level) := by
  have work := slotsKept_performReset s (level = 1)
  have recorded : ∀ (t : State) r, SlotsKept t (State.freeSlot { t with resetRecord := r } k.origin) := fun _ _ => .of_same (by simp)
  exact .ite (.ite (work.trans (slotsKept_answerNow _ _ _ _ _)) (work.trans (recorded _ _))) (slotsKept_answerNow s _ _ _ _)

theorem slotsKept_takeHold (s : State) (k : Key) (named : Nat) : SlotsKept s (s.takeHold k named) :=
  .ite ((slotsKept_holdLink s _).trans (slotsKept_answerNow _ _ _ _ _)) (slotsKept_answerNow s _ _ _ _)

theorem slotsKept_takeRelease (s : State) (k : Key) (named : Nat) : SlotsKept s (s.takeRelease k named) :=
  .ite (.ite ((slotsKept_modPort s _ _).trans (slotsKept_answerNow _ _ _ _ _)) (slotsKept_answerNow s _ _ _ _))
    (slotsKept_answerNow s _ _ _ _)

theorem slotsKept_takeRestart (k : Key) (s : State) : SlotsKept s (State.takeRestart k s) :=
  .ite (((slotsKept_enterTable s _ _).trans (slotsKept_enterRecovering _)).trans (slotsKept_release _))
    (slotsKept_answerNow s _ _ _ _)

theorem slotsKept_completeFormat (s : State) : SlotsKept s s.completeFormat := by
  have emptied : ∀ (t : State) f, SlotsKept t (t.mapQueues f) := fun t f => .of_same (State.mapQueues_slots t f)
  unfold State.completeFormat
  split
  · exact (SlotsKept.trans (.of_same (by rfl)) (emptied _ _)).trans (slotsKept_answerAll _ _ _)
  · exact .refl s

theorem slotsKept_wakeTimerExpires (s : State) : SlotsKept s s.wakeTimerExpires :=
  .ite (.ite (slotsKept_spindle s _) ((slotsKept_spindle s _).trans (slotsKept_release _))) (.refl s)

end Sys2Proof.Machine

namespace Sys2Proof.Machine

/-! PROOFS. A Get takes a fetch slot for a link that has fewer than 8; so every step keeps the sizes of the Request Table and of the
slots (O9). -/

/-! ### A Get starts in one slot (R108, R109) -/

section
variable {s t : State}

/-- A change that takes one slot, for a link with fewer than 8 in use, keeps the slots' bound. -/
theorem slotsFit_of_taken {i : Fin 16} {m : Link} (hs : s.slotsFit) (free : s.slotsInUse m < 8)
    (h : ∀ j l, (t.slot j).usedBy l = true → (s.slot j).usedBy l = true ∨ (j = i ∧ l = m)) : t.slotsFit := by
  intro l
  rw [slotsInUse_eq] at free ⊢
  by_cases hl : l = m
  · have fewer : t.usedSlots l ⊆ insert i (s.usedSlots m) := fun j hj => by
      rw [Finset.mem_insert, mem_usedSlots, ← hl]
      exact (h j l (mem_usedSlots.mp hj)).symm.imp_left And.left
    exact (Finset.card_le_card fewer).trans ((Finset.card_insert_le _ _).trans free)
  · have fewer : t.usedSlots l ⊆ s.usedSlots l := fun j hj =>
      mem_usedSlots.mpr ((h j l (mem_usedSlots.mp hj)).resolve_right fun taken => hl taken.2)
    have within := hs l
    rw [slotsInUse_eq] at within
    exact (Finset.card_le_card fewer).trans within

theorem startGet_used {k : Key} {i j : Fin 16} {lsa count : Nat} {sectors : List SlotSector} {reads : List FetchRead} {l : Link}
    (h : ((s.startGet k i lsa count sectors reads).slot j).usedBy l = true) :
    (s.slot j).usedBy l = true ∨ (j = i ∧ l = k.origin) := by
  have entered : ∀ f, ((s.enterTable k .get).modSlot i f).slot j = if i = j then f (s.slot j) else s.slot j := fun f => by
    rw [State.modSlot_slot, State.slot, State.enterTable_slots, State.slot]
  have claims : ∀ t : State, SlotsKept t (reads.foldl (fun s r => s.claimRead r.band) t) := .foldl (fun _ _ => .of_same (by rfl)) reads
  have listed : ∀ (t : State) fs, SlotsKept t { t with fetchList := fs } := fun _ _ => .of_same rfl
  unfold State.startGet at h
  have used := (SlotsKept.ite ((claims _).trans (listed _ _)) (((claims _).trans (listed _ _)).trans (slotsKept_release _))).used j l h
  rw [entered] at used
  split at used
  · next hij => exact .inr ⟨hij.symm, (beq_iff_eq.mp (Bool.and_eq_true _ _ ▸ used).2).symm⟩
  · exact .inl used

theorem slotsInUse_of_getRefusal {l : Link} {lsa count : Nat} (h : s.getRefusal l lsa count = none) : s.slotsInUse l < 8 := by
  by_contra full
  unfold State.getRefusal at h
  split at h
  · cases h
  · split at h
    · cases h
    · rw [if_pos (.inr (Nat.le_of_not_lt full))] at h
      cases h

theorem takeGet_slotsFit (hs : s.slotsFit) (k : Key) (lsa count : Nat) : (s.takeGet k lsa count).slotsFit := by
  have refused : ∀ x, (s.answerNow k 2 x .none).slotsFit := fun _ => (slotsKept_answerNow s _ _ _ _).fits hs
  unfold State.takeGet
  split
  · exact refused _
  · next passes =>
    split
    · exact refused _
    · dsimp only
      split
      · exact refused _
      · exact slotsFit_of_taken hs (slotsInUse_of_getRefusal passes) fun _ _ => startGet_used

end

/-! ### Frames taken (R159) -/

theorem takeFrame_slotsFit {s : State} (l : Link) (good : Bool) (f : InFrame) {meaning : State → State}
    (h : ∀ p : State, p.slotsFit → (meaning p).slotsFit) (hs : s.slotsFit) : (s.takeFrame l good f meaning).slotsFit := by
  have ready : (s.frameReady l good f).slotsFit := (SlotsKept.ite (slotsKept_frameArrives s l good f) (.refl s)).fits hs
  unfold State.takeFrame
  split
  · exact ready
  · next p hp =>
    refine h p ?_
    unfold State.frameTaken at hp
    split at hp
    · cases hp
    · split at hp
      · cases hp
        exact (slotsKept_modPort _ l _).fits ready
      · cases hp

theorem handOver_slotsFit {s : State} (k : Key) (r : Request) {owner : Key → State → State}
    (h : ∀ p : State, p.slotsFit → (owner k p).slotsFit) (hs : s.slotsFit) : (s.handOver k r owner).slotsFit := by
  unfold State.handOver
  split
  · exact (slotsKept_answerNow s _ _ _ _).fits hs
  · exact h s hs

theorem takeMalformed_slotsFit {s : State} (l : Link) (bytes : List Byte) (hs : s.slotsFit) : (s.takeMalformed l bytes).slotsFit := by
  unfold State.takeMalformed
  split
  · exact takeFrame_slotsFit l _ _ (fun p hp => (slotsKept_modPort p _ _).fits hp) hs
  · exact takeFrame_slotsFit l _ _ (fun p hp => handOver_slotsFit _ _ (fun p hp => (slotsKept_answerNow p _ _ _ _).fits hp) hp) hs
  · exact hs

/-! ### Commands and steps -/

theorem slotsKept_settle (X old : State) : SlotsKept X (X.settle old) :=
  ((sparesEntry_undelivered (k := ⟨.a, 0⟩) X).slotsKept.trans (slotsKept_deliver _)).trans
    ((slotsKept_freeEnded _).trans (.of_same (settle_slots X old)))

section
variable {s X t : State} {l : Link} {tag : Tag} {r : Request} {owner : Key → State → State}

theorem slotsFit_finish (h : X.slotsFit) (ht : finish s X = .next t) : t.slotsFit := by
  cases ht
  exact (slotsKept_settle X s).fits h

/-- A command's effect that takes no slot. -/
theorem slotsFit_effect (hs : s.slotsFit) (h : SlotsKept s X) (ht : finish s X = .next t) : t.slotsFit := slotsFit_finish (h.fits hs) ht

/-- A request whose owner takes no slot. -/
theorem slotsFit_request (hs : s.slotsFit) (h : ∀ k p, SlotsKept p (owner k p)) (ht : finish s (s.takeRequest l tag r owner) = .next t) :
    t.slotsFit :=
  slotsFit_finish (takeFrame_slotsFit l true _ (fun _ => handOver_slotsFit _ r fun p => (h _ p).fits) hs) ht

end

theorem exec_slotsFit {c : Instr} {s t : State} (hs : s.slotsFit) (h : exec c s = .next t) : t.slotsFit := by
  cases c with
  | put l tag lsa count durability => exact slotsFit_request hs (slotsKept_takePut lsa count durability) h
  | dataFrame l f =>
    refine slotsFit_finish (takeFrame_slotsFit l true _ (fun p hp => ?_) hs) h
    exact ((slotsKept_takeData p l f).trans (.of_same (by simp))).fits hp
  | get l tag lsa count =>
    refine slotsFit_finish (takeFrame_slotsFit l true _ (fun _ => handOver_slotsFit _ _ fun p hp => ?_) hs) h
    split
    · exact (slotsKept_takePatternGet lsa count _ p).fits hp
    · exact takeGet_slotsFit hp _ lsa count
  | trim l tag lsa count => exact slotsFit_request hs (slotsKept_takeTrim lsa count) h
  | flush l tag queue => exact slotsFit_request hs (slotsKept_takeFlush queue) h
  | select l tag queue => exact slotsFit_request hs (slotsKept_takeSelect queue) h
  | clean l tag band => exact slotsFit_request hs (slotsKept_takeClean band) h
  | setQueueDivision l tag depths => exact slotsFit_request hs (slotsKept_takeDivision depths) h
  | setQueueThresholds l tag v => exact slotsFit_request hs (slotsKept_takeThresholds v) h
  | setIntervals l tag v => exact slotsFit_request hs (slotsKept_takeIntervals v) h
  | setSpaceMarks l tag v => exact slotsFit_request hs (slotsKept_takeMarks v) h
  | setLinkMode l tag v => exact slotsFit_request hs (slotsKept_takeLinkMode v) h
  | setErrorScope l tag v => exact slotsFit_request hs (slotsKept_takeScope v) h
  | setNoticeEnables l tag v => exact slotsFit_request hs (slotsKept_takeKinds v Port.enable) h
  | setOrderLimit l tag v => exact slotsFit_request hs (slotsKept_takeOrderLimit v) h
  | setClearPendingNotices l tag v => exact slotsFit_request hs (slotsKept_takeKinds v Port.clearPending) h
  | queryBandRecord l tag band => exact slotsFit_request hs (fun k p => slotsKept_answerQuery p k _) h
  | queryQueueRecord l tag queue => exact slotsFit_request hs (fun k p => slotsKept_countedQuery p k _) h
  | queryMapLookup l tag lsa => exact slotsFit_request hs (fun k p => slotsKept_answerQuery p k _) h
  | queryCounts l tag => exact slotsFit_request hs (fun k p => slotsKept_answerQuery p k _) h
  | queryMediaAndSpindleState l tag => exact slotsFit_request hs (fun k p => slotsKept_countedQuery p k _) h
  | queryRelocationState l tag => exact slotsFit_request hs (fun k p => slotsKept_answerQuery p k _) h
  | queryLinkStatesAndTableUse l tag => exact slotsFit_request hs (fun k p => slotsKept_answerQuery p k _) h
  | queryProfileRecord l tag profile => exact slotsFit_request hs (fun k p => slotsKept_answerQuery p k _) h
  | querySetting l tag item => exact slotsFit_request hs (fun k p => slotsKept_answerQuery p k _) h
  | loadProfile l tag profile sectors tracks verify =>
    exact slotsFit_request hs (slotsKept_takeLoad profile sectors tracks verify) h
  | format l tag logical bands ranges => exact slotsFit_request hs (slotsKept_takeFormat logical bands ranges) h
  | formatComplete => exact slotsFit_effect hs (slotsKept_completeFormat s) h
  | quiesce l tag target release interval => exact slotsFit_request hs (slotsKept_takeQuiesce target release interval) h
  | wake l tag => exact slotsFit_request hs slotsKept_takeWake h
  | reset l tag level => exact slotsFit_request hs (fun k p => slotsKept_takeReset p k level) h
  | holdLinkHold l tag named => exact slotsFit_request hs (fun k p => slotsKept_takeHold p k named) h
  | holdLinkRelease l tag named => exact slotsFit_request hs (fun k p => slotsKept_takeRelease p k named) h
  | mediaRestart l tag => exact slotsFit_request hs slotsKept_takeRestart h
  | malformed l bytes => exact slotsFit_finish (takeMalformed_slotsFit l bytes hs) h
  | idleReceived l => exact slotsFit_effect hs (slotsKept_unitArrives s l) h
  | creditReceived l => exact slotsFit_effect hs (slotsKept_creditArrives s l) h
  | frameReceived l bytes => exact slotsFit_effect hs (slotsKept_frameArrives s l _ _) h
  | frameSent l => exact slotsFit_effect hs (slotsKept_frameGone s l) h
  | noticeSent l => exact slotsFit_effect hs (slotsKept_modPort s l _) h
  | linkSilenceTimeout l => exact slotsFit_effect hs (.ite (slotsKept_linkFails s l _) (.refl s)) h
  | quietIntervalEnd l => exact slotsFit_effect hs (.ite (slotsKept_modPort s l _) (.refl s)) h
  | level0Reset =>
    cases h
    exact fun l => (reset_slotsInUse l).trans_le (Nat.zero_le 8)
  | startUp => exact slotsFit_effect hs (slotsKept_beginStartUp s) h
  | sequencerReady => exact slotsFit_effect hs (slotsKept_sequencerReady s) h
  | sequencerReadyWithdrawn => exact slotsFit_effect hs (slotsKept_mediaFault s) h
  | writeTrackCompletion c => exact slotsFit_effect hs (slotsKept_takeCompletion s 1 c) h
  | readTrackCompletion c => exact slotsFit_effect hs (slotsKept_takeCompletion s 2 c) h
  | geometryCompletion c => exact slotsFit_effect hs (slotsKept_takeCompletion s 3 c) h
  | motionCompletion kind c => exact slotsFit_effect hs (.ite (slotsKept_takeCompletion s kind c) (slotsKept_mediaFault s)) h
  | sectorDelivery sector data check => exact slotsFit_effect hs (slotsKept_takeSector s sector data check) h
  | deadlineExpiry => exact slotsFit_effect hs (.ite (slotsKept_mediaFault s) (.refl s)) h
  | recoveryWaitEnd => exact slotsFit_effect hs (.ite (slotsKept_enterDown s) (.refl s)) h
  | startupWaitEnd => exact slotsFit_effect hs (.ite (slotsKept_enterDown s) (.refl s)) h
  | escalationTimerExpiry => exact slotsFit_effect (X := { s with escalation := false }) hs (.of_same (by rfl)) h
  | holdTimerExpiry q => exact slotsFit_effect (X := s.modQueue q fun x => { x with timer := x.timer.expire }) hs (.of_same (by rfl)) h
  | wakeTimerExpiry => exact slotsFit_effect hs (slotsKept_wakeTimerExpires s) h
  | mediaGrant => exact slotsFit_effect hs (slotsKept_grantMedia s) h
  | victimSelection => exact slotsFit_effect hs (slotsKept_selectVictim s) h
  | relocationRecords => exact slotsFit_effect hs (slotsKept_makeRecords s) h

/-- R158, R160: every step keeps the Request Table within its sizes. -/
theorem tableFits_keptByStep : KeptByStep State.tableFits := fun s t hs h => by
  obtain rfl | ⟨fits, _⟩ | ⟨_, X, rfl, hX⟩ := step_cases h
  · exact hs
  · exact fits
  · have entered := hX ⟨hs.total, hs.ofLink, hs.distinct⟩
    exact (keysKept_settle X _).fits entered

/-- R108: every step keeps the fetch slots of a link within 8. -/
theorem slotsFit_keptByStep : KeptByStep State.slotsFit := fun s t hs h => by
  unfold step at h
  split at h
  · cases h
    exact hs
  · next c rest _ =>
    have dequeued : SlotsKept s { s with pending := rest } := .of_same rfl
    exact exec_slotsFit (dequeued.fits hs) h

/-- Settles O9: requests enter the table within its sizes, and only a Get takes a fetch slot, for a link with fewer than 8 in use. -/
theorem tableAndSlotsKeepTheirSizes : Obligations.TableAndSlotsKeepTheirSizes := ⟨tableFits_keptByStep, slotsFit_keptByStep⟩

end Sys2Proof.Machine
